-- ==== Sys2Proof/Word.lean ====
section
/-! DEFINITION. The plain types every other file is written over: words of the widths the manual
uses, bytes, and the sparse map that holds "a fixed number of like things, most of them as reset". -/

namespace Sys2Proof

/-- A byte of memory (R10: multi-byte fields are little-endian). -/
abbrev Byte := BitVec 8

/-- A 32-bit word: a register of BAR0, a word of a command, completion or event entry. -/
abbrev Word := BitVec 32

/-- A 64-bit word: an X register of a needle (R134). -/
abbrev DWord := BitVec 64

/-- A map from natural numbers, held as a list of pairs; the operations of Machine/Maps.lean keep its
keys strictly rising. -/
abbrev FMap (α : Type) := List (Nat × α)

/-- Memory: the bytes whose value is not 0, by strictly rising address. An address that is not
listed reads as 0 (a DESIGN CHOICE, assumption 3). -/
abbrev Mem := List (Nat × Byte)

end Sys2Proof
end

