-- ==== Sys2Proof/Syntax.lean ====
section
/-! DEFINITION. The operations and events of the table, as data. A needle instruction carries the needle and the
fields of its 64-bit word (R143); a command carries its entry and parameter block (R446); an event carries what
arrives from outside: a measurement, a message, a sensor's reading. -/

namespace Sys2Proof

/-- The fields of format R (R143). -/
structure FmtR where
  rd : BitVec 6
  rs1 : BitVec 6
  rs2 : BitVec 6
  rs3 : BitVec 6
  msk : BitVec 4
  minv : Bool
  func : BitVec 23
  deriving DecidableEq, Repr

/-- The fields of format I (R143). -/
structure FmtI where
  rd : BitVec 6
  rs1 : BitVec 6
  imm : BitVec 40
  deriving DecidableEq, Repr

/-- The fields of format B (R143). -/
structure FmtB where
  ra : BitVec 6
  rb : BitVec 6
  off : BitVec 40
  deriving DecidableEq, Repr

/-- Where a command came from: the management command spool, a context's command spool, or a slot of the Prosor
window, which serves a context (R441, R505). -/
inductive Origin where
  | mgmt
  | context (c : Nat)
  | window (c slot : Nat)
  deriving DecidableEq, Repr

/-- A fetched command (R446, R461): its entry's fields, its fifteen parameter words and, where it names one, the bytes of
its parameter block as they were read from host memory at the fetch. -/
structure CmdReq where
  origin : Origin
  /-- The host port the doorbell and the fetch used: 1 H0, 2 H1. -/
  port : Nat
  /-- The order in which Olukor fetched it, device-wide (R41). -/
  num : Nat
  opcode : Nat
  tag : Nat
  /-- Bits [15:8] of the entry's first word. -/
  reserved : Nat
  /-- Words at 0x04 to 0x3C. -/
  params : List Word
  block : List Byte
  /-- The host port reported the read of the entry or of its block as failed (R447). -/
  readFailed : Bool
  deriving DecidableEq, Repr

/-- What attaches to the Lining (R204, R207): a needle by its global number, one of a controller's four links, a Thread link (0 to 15) or
Selvedge port (16 to 19), a host port (0 H0, 1 H1), a Bolt stack, a Tailor cluster, the Thimble. -/
inductive Attach where
  | needle (n : Nat)
  | controller (stack lane : Nat)
  | link (l : Nat)
  | hostPort (h : Nat)
  | bolt (stack : Nat)
  | tailor (clu : Nat)
  | thimble
  deriving DecidableEq, Repr

/-- Whether the device has an attachment. -/
def Attach.fits : Attach → Bool
  | .needle n => n < 288
  | .controller k lane => k < 24 && lane < 4
  | .link l => l < 20
  | .hostPort h => h < 2
  | .bolt k => k < 2
  | .tailor c => c < 2
  | .thimble => true

/-- The sender of a message, which fixes its DL (R219). -/
inductive Sender where
  /-- A stitch's DMA, with its DEADLINE. -/
  | dma (deadline : Nat)
  /-- Vector and matrix accesses, image loads, ACC_SEND. -/
  | stitch
  /-- A knot operation. -/
  | knot
  /-- The remote-accumulate adders, with the DL of the addition they carry out. -/
  | adder (dl : Nat)
  | save
  | restore
  /-- A response or acknowledgement, with the DL of the request it answers. -/
  | reply (dl : Nat)
  /-- Olukor's commit-time records. -/
  | record
  /-- Checkpoint streaming, Bolt loads and recopies, scrubbing. -/
  | background
  /-- The Basting engine, as its turn's DL_MODE sets it: FOREGROUND or BACKGROUND (R400). -/
  | basting (foreground : Bool)
  /-- Gusset channel copies (R302). -/
  | gusset
  /-- Traffic of a board peer or another board, with its DL unchanged (R214). -/
  | peer (dl : Nat) (lock : Bool)
  /-- A host access of BAR space. -/
  | host
  deriving DecidableEq, Repr

/-- Where a message is arbitrated (R212, R229). -/
inductive ArbSite where
  /-- The mesh: every router from the sender's to the receiver's; `lane` tells which of a seam's two links it takes. -/
  | mesh (lane : Nat)
  /-- Another site, by its identifier, and the input code it came by. -/
  | other (site input : Nat)
  deriving DecidableEq, Repr

/-- R229: whether a site that is no router's, and an input of it, exist: a channel queue, a link's egress, a host port, a Bolt stack. -/
def ArbSite.fits : ArbSite → Bool
  | .mesh lane => lane < 2
  | .other site input =>
    (0x2000 ≤ site && site < 0x2300 && input < 6) || (0x3000 ≤ site && site < 0x3014 && input < 4) ||
    (0x4000 ≤ site && site < 0x4004 && input < 2) || (0x5000 ≤ site && site < 0x5002 && input < 2)

/-- R211, R212: the most bytes that one message moves at a site: 16 beats of 256 bytes; at a host port one TLP; at a Bolt stack 16 pages. -/
def ArbSite.maxBytes : ArbSite → Nat
  | .mesh _ => 4096
  | .other site _ => if site / 2 ^ 12 = 4 then 256 else if site / 2 ^ 12 = 5 then 65536 else 4096

/-- A message that has arrived whole at a site (R209, R211, R212): its number, the header's fields (its DL is its sender's), its bytes, the
site, whether it finds an open row at a channel, how long one beat takes at a site off the mesh, and the instant, both in half
nanoseconds; instants count from C of the tick before, so that the tick begins at 16,000. -/
structure Bid where
  site : ArbSite
  id : Nat
  kind : Nat
  epoch : Nat
  sender : Sender
  ctx : Nat
  src : Attach
  dst : Attach
  bytes : Nat
  lock : Bool
  openRow : Bool
  beat : Nat
  instant : Nat
  deriving DecidableEq, Repr

/-- Whether such a message exists. -/
def Bid.fits (b : Bid) : Bool := b.site.fits && b.src.fits && b.dst.fits && 1 ≤ b.bytes && b.bytes ≤ b.site.maxBytes

/-- The logits a step's forward pass gave for a request (R344, R346): for each position the main model computed, from the committed
length on, and for each position the draft model proposed: pairs of token and FP32 code, an unlisted token's logit being minus
infinity. -/
structure StepLogits where
  req : Nat
  main : List (List (Nat × Nat))
  draft : List (List (Nat × Nat))
  deriving DecidableEq, Repr

/-- A garment request's state as its home carries it to a member (R356): the message's epoch, the garment and the member's context of it, the
generation and index of the request's handle (R256), the home as a member, the commit at which it takes effect and the step of the commit order, the state's code, and the lengths and depths. -/
structure ReqUpdate where
  epoch : Nat
  garment : Nat
  ctx : Nat
  gen : Nat
  req : Nat
  home : Nat
  at_ : Nat
  commitStep : Nat
  state : Nat
  length : Nat
  prefilled : Nat
  depth : Nat
  promptLen : Nat
  dMax : Nat
  deriving DecidableEq, Repr


/-- A message of an ACC_SEND in ADD mode as it reaches the owner's adders (R281, R365, R378): the sending member, the message's number, the
number of the ACC_SEND (that of its first message), whether the target is a segment of a garment's context or of a context of this device, that garment or context, segment and
offset, the reduction key, and the values from element `first` on, each with the residue that came beside it; `adderBad` names a value at
which the adder's own check failed (R379). -/
structure AccMsg where
  sender : Nat
  msg : Nat
  send : Nat
  peer : Bool
  garment : Nat
  seg : Nat
  off : Nat
  key : Nat
  first : Nat
  vals : List (Nat × Nat)
  adderBad : Option Nat
  /-- The epoch it carries (R48). -/
  epoch : Nat
  deriving DecidableEq, Repr

/-- What a notice of a contribution says (R371). -/
inductive ContribKind where
  | commit
  | tear
  /-- The end notice with the contribution's checksums, FP64 codes (R381). -/
  | ended (sum abs : Nat)
  deriving DecidableEq, Repr

/-- A notice of a contribution (R371): its own number and that of its ACC_SEND, the target as there, and what it says. -/
structure ContribMsg where
  sender : Nat
  msg : Nat
  send : Nat
  peer : Bool
  garment : Nat
  seg : Nat
  off : Nat
  key : Nat
  kind : ContribKind
  epoch : Nat
  deriving DecidableEq, Repr

/-- The header fields of a message that arbiters use (R211): its DL in ns after the start of the sending tick, LOCK, and the context
handle, 0 for Olukor's traffic. -/
structure MsgHead where
  dl : Nat
  lock : Bool
  ctx : Nat
  deriving DecidableEq, Repr

/-- A message that a flit completes, as the link layer sees it (R211, R256, R419): its destination, kind, epoch, map version, virtual
channel and words, and whether it is a LOSS notice, which no epoch check meets (R428). -/
structure FlitMsg where
  dest : Nat
  kind : Nat
  epoch : Nat
  mapVersion : Nat
  vc : Nat
  words : List Nat
  lossNotice : Bool
  head : MsgHead
  deriving DecidableEq, Repr

/-- A flit as the receiver decodes it (R411, R412): the fields of its header, codewords corrected, whether a codeword was uncorrectable,
whether the tag failed, and the messages whose last beat it holds. -/
structure Flit where
  seq : Nat
  ack : Nat
  vc : Nat
  credits : Nat
  corrected : Nat
  uncorrectable : Bool
  tagBad : Bool
  msgs : List FlitMsg
  deriving DecidableEq, Repr

/-- A heartbeat (R420). -/
structure Heartbeat where
  tick : Nat
  pos : Nat
  board : Nat
  mapVersion : Nat
  live : Nat
  down : Bool
  isolated : Bool
  deriving DecidableEq, Repr

/-- How a link's training ended (R416, R588): whether it passed; whether the far end's certificate chain and signature verified, and its
OWR proof; the one-way latency in ns, the far end's position, board and link, the digest of its identity key, the link secret, its tick
number, the lane the spare serves, and whether the far module has been reset since its loss was declared (R432). -/
structure Training where
  passed : Bool
  /-- The far device is past its READY (R54). -/
  ready : Bool
  chainOk : Bool
  proofOk : Bool
  latency : Nat
  farPos : Nat
  farBoard : Nat
  farLink : Nat
  farId : Nat
  secret : Nat
  tick : Nat
  spare : Option Nat
  reset : Bool
  deriving DecidableEq, Repr

/-- A Basting message as it reaches a member (R399, R401): the garment, turn and layer, the sender as a member and its sequence number, the
segment and offset of GEN_CTX, the bytes, and whether the beat carried poison (R548). -/
structure BastMsg where
  garment : Nat
  turn : Nat
  layer : Nat
  sender : Nat
  seq : Nat
  seg : Nat
  off : Nat
  bytes : List Byte
  poison : Bool
  epoch : Nat
  deriving DecidableEq, Repr
/-- A write that a host port reports as failed: of a spool's entry (R457), or of a vector store to Hem memory, by needle, segment and offset
(R549). -/
inductive HostWrite where
  | spool (i : Nat)
  | store (n seg off : Nat)
  deriving DecidableEq, Repr

/-- A knot message (R238): an operation a member asks for here, or the result of one that a needle here asked for. -/
inductive KnotMsg where
  | ask (member msg op handle garment arg epoch : Nat)
  | result (n msg value status : Nat)
  deriving DecidableEq, Repr

/-- What a stack returned for a burst (R263, R266): the symbols in error, and the burst that it returned in place of the one asked for, where it
did. -/
structure BurstErrs where
  symbols : List (Nat × Nat)
  wrong : Option Nat
  deriving DecidableEq, Repr

/-- Whose a write is (R260): the stitch that issued it, and the DMA slot it belongs to, by needle, engine and slot. -/
structure WriteIssuer where
  stitch : Option Nat
  slot : Option (Nat × Nat × Nat)
  deriving DecidableEq, Repr

/-- A tile whose FIXED summation ends (R369), and the slot at whose addition a check of an adder failed (R379). -/
structure SummedTile where
  tile : Nat
  adderBad : Option Nat
  deriving DecidableEq, Repr

/-- A page of the Bolt that is read (R314), and the message that asked for it, where one is given (R212). -/
structure PageRead where
  page : Nat
  bid : Option Bid
  deriving DecidableEq, Repr

/-- A granule that a board member supplied (R331): the member's position, whether from its Bolt or from its shared stock, the granule's index and
its bytes. -/
structure Supplied where
  pos : Nat
  bolt : Bool
  granule : Nat
  bytes : List Byte
  deriving DecidableEq, Repr

/-- A peer's access through its PEER segment (R149): the member and message, the garment and segment, the offset, and the bytes it writes;
none for a read of `len` bytes. `load` tells the read of a WEIGHT_LOAD (R326). -/
structure PeerAccess where
  member : Nat
  msg : Nat
  garment : Nat
  seg : Nat
  off : Nat
  len : Nat
  data : Option (List Byte)
  load : Bool
  epoch : Nat
  deriving DecidableEq, Repr

/-- A command of the Prosor window (R504): its context, the port of its doorbell, its eight words, and whether the host port reports the read
of its parameter block as failed. -/
structure WinReq where
  ctx : Nat
  port : Nat
  words : List Word
  readFailed : Bool
  deriving DecidableEq, Repr

/-- What an IDE_KM message does (R591): it programs a stream's key, or stops the stream. -/
inductive IdeOp where
  | program (key : Nat)
  | stop
  deriving DecidableEq, Repr

/-- What bring-up's training found of a channel (R271): the pins that failed its test, and whether it failed as a whole. -/
structure ChanTraining where
  ch : Nat
  failing : List Nat
  failed : Bool
  deriving DecidableEq, Repr

/-- A panel's constants as calibrated (R68, R72): I_p in mW, R_p in mK/W, tau_p in microseconds. -/
structure Calibration where
  panel : Nat
  idleMw : Nat
  rMilliK : Nat
  tauUs : Nat
  deriving DecidableEq, Repr

/-- How a step of bring-up ended (R612, R613), by step: 1 whether TICK_REF locked; 2 whether the Thimble passed; 3 the Tailor's clusters; 4
channels that do not stand as a clean training leaves them, needles, Sleeve banks and panels that failed, and the calibration; 5 Bolt
stacks that failed; and, of any step, whether the tick logic and the Lining passed. -/
structure Bringup where
  refOk : Bool
  thimbleOk : Bool
  clusterA : Bool
  clusterB : Bool
  channels : List ChanTraining
  needles : List Nat
  banks : List (Nat × Nat)
  panels : List Nat
  calibrations : List Calibration
  bolts : List Nat
  logicOk : Bool
  deriving DecidableEq, Repr

/-- What the telemetry gave of a stitch that ran in the tick (R66, R391): the stitch's number, its busy cycles and its cycles, when it
started and tied off in ns from the start of the tick, the ns it spent in SYNC and KWAIT, and the cycles stretched by droop. -/
structure StitchRun where
  stitch : Nat
  busy : Nat
  cycles : Nat
  startNs : Nat
  tieNs : Nat
  waitNs : Nat
  stretch : Nat
  deriving DecidableEq, Repr

/-- The errors corrected in a tick that no other row reports (R132, R258, R559): corrected Sleeve words by needle, corrected words of the Lining's
buffers and the Tailor's SRAM, corrected words of Pincushion lines, and the reports of the stacks' on-die correction, by channel and burst. -/
structure TickCorrections where
  sleeve : List (Nat × Nat)
  buffers : Nat
  lines : Nat
  ondie : List (Nat × Nat)
  deriving DecidableEq, Repr

/-- What comes to the device by C of a commit: the energy of the tick in µJ, of each panel, of the module-level rails and of the whole module
(R66, R69); the 48 V input at C, in mV (R518); what each stitch ran (R66, R391); the logits of the requests' steps (R344); the entries of
stitch lists, by spool and index, that the host port cannot read (R251); the errors corrected in the tick; and the chunks of channels that move,
by source and chunk, of which a copy unit or a mirrored write died at C (R301). -/
structure CommitIn where
  panelUj : List Nat
  railsUj : Nat
  moduleUj : Nat
  milliV : Nat
  runs : List StitchRun
  logits : List StepLogits
  unread : List (Nat × Nat)
  corrected : TickCorrections
  deadMirrors : List (Nat × Nat)
  deriving DecidableEq, Repr

/-- One constructor per row of the table of operations and events; the row's mnemonic and rule stand in its comment. -/
inductive Instr where
  /-- ADD, R145: Scalar add. -/
  | add (n : Nat) (f : FmtR)
  /-- SUB, R145: Scalar subtract. -/
  | sub (n : Nat) (f : FmtR)
  /-- AND, R145: Scalar and. -/
  | and (n : Nat) (f : FmtR)
  /-- OR, R145: Scalar or. -/
  | or (n : Nat) (f : FmtR)
  /-- XOR, R145: Scalar xor. -/
  | xor (n : Nat) (f : FmtR)
  /-- SHL, R145: Scalar shift left. -/
  | shl (n : Nat) (f : FmtR)
  /-- SHR, R145: Scalar logical shift right. -/
  | shr (n : Nat) (f : FmtR)
  /-- SRA, R145: Scalar arithmetic shift right. -/
  | sra (n : Nat) (f : FmtR)
  /-- SLT, R145: Signed set-less-than. -/
  | slt (n : Nat) (f : FmtR)
  /-- SLTU, R145: Unsigned set-less-than. -/
  | sltu (n : Nat) (f : FmtR)
  /-- MIN, R145: Signed minimum. -/
  | min (n : Nat) (f : FmtR)
  /-- MAX, R145: Signed maximum. -/
  | max (n : Nat) (f : FmtR)
  /-- MUL, R145: Low 64 bits of product. -/
  | mul (n : Nat) (f : FmtR)
  /-- MULHU, R145: High 64 bits of unsigned product. -/
  | mulhu (n : Nat) (f : FmtR)
  /-- DIVU, R145: Unsigned divide. -/
  | divu (n : Nat) (f : FmtR)
  /-- REMU, R145: Unsigned remainder. -/
  | remu (n : Nat) (f : FmtR)
  /-- ADDI, R145: Add immediate. -/
  | addi (n : Nat) (f : FmtI)
  /-- ANDI, R145: And immediate. -/
  | andi (n : Nat) (f : FmtI)
  /-- ORI, R145: Or immediate. -/
  | ori (n : Nat) (f : FmtI)
  /-- XORI, R145: Xor immediate. -/
  | xori (n : Nat) (f : FmtI)
  /-- SHLI, R145: Shift left by immediate. -/
  | shli (n : Nat) (f : FmtI)
  /-- SHRI, R145: Logical shift right by immediate. -/
  | shri (n : Nat) (f : FmtI)
  /-- SRAI, R145: Arithmetic shift right by immediate. -/
  | srai (n : Nat) (f : FmtI)
  /-- SLTI, R145: Signed compare with immediate. -/
  | slti (n : Nat) (f : FmtI)
  /-- LI, R145: Load immediate. -/
  | li (n : Nat) (f : FmtI)
  /-- LIH, R145: Load immediate into high bits. -/
  | lih (n : Nat) (f : FmtI)
  /-- BEQ, R145: Branch if equal. -/
  | beq (n : Nat) (f : FmtB)
  /-- BNE, R145: Branch if not equal. -/
  | bne (n : Nat) (f : FmtB)
  /-- BLT, R145: Branch if less, signed. -/
  | blt (n : Nat) (f : FmtB)
  /-- BGE, R145: Branch if greater or equal, signed. -/
  | bge (n : Nat) (f : FmtB)
  /-- BLTU, R145: Branch if less, unsigned. -/
  | bltu (n : Nat) (f : FmtB)
  /-- BGEU, R145: Branch if greater or equal, unsigned. -/
  | bgeu (n : Nat) (f : FmtB)
  /-- JAL, R145: Jump and link. -/
  | jal (n : Nat) (f : FmtB)
  /-- JR, R145: Jump to register. -/
  | jr (n : Nat) (f : FmtB)
  /-- LD8U, R145: Sleeve load 8 bits zero-extended. -/
  | ld8u (n : Nat) (f : FmtI)
  /-- LD16U, R145: Sleeve load 16 bits zero-extended. -/
  | ld16u (n : Nat) (f : FmtI)
  /-- LD32U, R145: Sleeve load 32 bits zero-extended. -/
  | ld32u (n : Nat) (f : FmtI)
  /-- LD64, R145: Sleeve load 64 bits. -/
  | ld64 (n : Nat) (f : FmtI)
  /-- LD8S, R145: Sleeve load 8 bits sign-extended. -/
  | ld8s (n : Nat) (f : FmtI)
  /-- LD16S, R145: Sleeve load 16 bits sign-extended. -/
  | ld16s (n : Nat) (f : FmtI)
  /-- LD32S, R145: Sleeve load 32 bits sign-extended. -/
  | ld32s (n : Nat) (f : FmtI)
  /-- ST8, R145: Sleeve store 8 bits. -/
  | st8 (n : Nat) (f : FmtI)
  /-- ST16, R145: Sleeve store 16 bits. -/
  | st16 (n : Nat) (f : FmtI)
  /-- ST32, R145: Sleeve store 32 bits. -/
  | st32 (n : Nat) (f : FmtI)
  /-- ST64, R145: Sleeve store 64 bits. -/
  | st64 (n : Nat) (f : FmtI)
  /-- NOP_INSN, R145: No-operation instruction. -/
  | nopInsn (n : Nat) (f : FmtI)
  /-- SYNC, R142: Stalls until named units complete and are acknowledged. -/
  | sync (n : Nat) (f : FmtI)
  /-- QSYNC, R142: Pushes an ordering token into a queue. -/
  | qsync (n : Nat) (f : FmtI)
  /-- SETVL, R135: Sets EW and VL. -/
  | setvl (n : Nat) (f : FmtI)
  /-- RDSR, R146: Reads a special register. -/
  | rdsr (n : Nat) (f : FmtI)
  /-- TIE, R153: Ends issue of the stitch at its tie-off point. -/
  | tie (n : Nat) (f : FmtI)
  /-- DMA, R221: Issues a DMA descriptor on an engine slot. -/
  | dma (n : Nat) (f : FmtR)
  /-- DMASTAT, R226: Writes a DMA slot's status word. -/
  | dmastat (n : Nat) (f : FmtR)
  /-- KADD, R234: Adds to a counter knot. -/
  | kadd (n : Nat) (f : FmtR)
  /-- KARRIVE, R236: Arrives at a barrier knot. -/
  | karrive (n : Nat) (f : FmtR)
  /-- KSET, R234: Sets an event knot. -/
  | kset (n : Nat) (f : FmtR)
  /-- KCLR, R234: Clears an event knot. -/
  | kclr (n : Nat) (f : FmtR)
  /-- KWAIT, R240: Waits on a knot with a give-up deadline. -/
  | kwait (n : Nat) (f : FmtR)
  /-- KREAD, R234: Reads a knot's state. -/
  | kread (n : Nat) (f : FmtR)
  /-- WLOAD, R164: Loads a weight slab. -/
  | wload (n : Nat) (f : FmtR)
  /-- MMUL, R166: Streams operand rows against a slab into a tile. -/
  | mmul (n : Nat) (f : FmtR)
  /-- PROMOTE, R171: Applies hold-stream records to a canonical tile. -/
  | promote (n : Nat) (f : FmtR)
  /-- ACLR, R172: Clears a tile and sets its mode and cursor. -/
  | aclr (n : Nat) (f : FmtR)
  /-- AREL, R172: Releases a tile. -/
  | arel (n : Nat) (f : FmtR)
  /-- AFLAGS, R174: Reads a tile control word. -/
  | aflags (n : Nat) (f : FmtR)
  /-- ALOAD, R175: Loads FP32 totals into tile rows. -/
  | aload (n : Nat) (f : FmtR)
  /-- ASTORE, R175: Stores tile totals through the Shears. -/
  | astore (n : Nat) (f : FmtR)
  /-- TSAVE, R176: Saves a tile's tack and control record. -/
  | tsave (n : Nat) (f : FmtR)
  /-- TRESTORE, R176: Restores a tile from a save image. -/
  | trestore (n : Nat) (f : FmtR)
  /-- ACC_SEND_ADD, R177: Sends tile totals as remote accumulations. -/
  | accSendAdd (n : Nat) (f : FmtR)
  /-- ACC_SEND_IMG, R178: Copies Sleeve bytes as remote writes. -/
  | accSendImg (n : Nat) (f : FmtR)
  /-- VADD_F, R186: Vector float add. -/
  | vaddF (n : Nat) (f : FmtR)
  /-- VSUB_F, R186: Vector float subtract. -/
  | vsubF (n : Nat) (f : FmtR)
  /-- VMUL_F, R186: Vector float multiply. -/
  | vmulF (n : Nat) (f : FmtR)
  /-- VFMA_F, R186: Vector fused multiply-add. -/
  | vfmaF (n : Nat) (f : FmtR)
  /-- VFNMA_F, R186: Vector fused negative multiply-add. -/
  | vfnmaF (n : Nat) (f : FmtR)
  /-- VDIV_F, R186: Vector float divide. -/
  | vdivF (n : Nat) (f : FmtR)
  /-- VSQRT_F, R186: Vector float square root. -/
  | vsqrtF (n : Nat) (f : FmtR)
  /-- VMIN_F, R186: Vector float minimum. -/
  | vminF (n : Nat) (f : FmtR)
  /-- VMAX_F, R186: Vector float maximum. -/
  | vmaxF (n : Nat) (f : FmtR)
  /-- VABS_F, R186: Vector float absolute value. -/
  | vabsF (n : Nat) (f : FmtR)
  /-- VNEG_F, R186: Vector float negate. -/
  | vnegF (n : Nat) (f : FmtR)
  /-- VSCALB_F, R186: Vector scale by power of two. -/
  | vscalbF (n : Nat) (f : FmtR)
  /-- VCMP_F, R186: Vector float compare into a mask. -/
  | vcmpF (n : Nat) (f : FmtR)
  /-- VEXP2, R187: Vector approximate 2^x. -/
  | vexp2 (n : Nat) (f : FmtR)
  /-- VLOG2, R187: Vector approximate log2. -/
  | vlog2 (n : Nat) (f : FmtR)
  /-- VRCP, R187: Vector approximate reciprocal. -/
  | vrcp (n : Nat) (f : FmtR)
  /-- VRSQRT, R187: Vector approximate reciprocal square root. -/
  | vrsqrt (n : Nat) (f : FmtR)
  /-- VTANH, R187: Vector approximate tanh. -/
  | vtanh (n : Nat) (f : FmtR)
  /-- VADD_I, R186: Vector integer add. -/
  | vaddI (n : Nat) (f : FmtR)
  /-- VSUB_I, R186: Vector integer subtract. -/
  | vsubI (n : Nat) (f : FmtR)
  /-- VMUL_I, R186: Vector integer multiply. -/
  | vmulI (n : Nat) (f : FmtR)
  /-- VAND, R186: Vector bitwise and. -/
  | vand (n : Nat) (f : FmtR)
  /-- VOR, R186: Vector bitwise or. -/
  | vor (n : Nat) (f : FmtR)
  /-- VXOR, R186: Vector bitwise xor. -/
  | vxor (n : Nat) (f : FmtR)
  /-- VSHL, R186: Vector shift left. -/
  | vshl (n : Nat) (f : FmtR)
  /-- VSHR, R186: Vector logical shift right. -/
  | vshr (n : Nat) (f : FmtR)
  /-- VSRA, R186: Vector arithmetic shift right. -/
  | vsra (n : Nat) (f : FmtR)
  /-- VMIN_I, R186: Vector integer minimum. -/
  | vminI (n : Nat) (f : FmtR)
  /-- VMAX_I, R186: Vector integer maximum. -/
  | vmaxI (n : Nat) (f : FmtR)
  /-- VCMP_I, R186: Vector integer compare into a mask. -/
  | vcmpI (n : Nat) (f : FmtR)
  /-- VSEL, R186: Vector select by mask. -/
  | vsel (n : Nat) (f : FmtR)
  /-- VLD, R188: Vector load. -/
  | vld (n : Nat) (f : FmtR)
  /-- VST, R190: Vector store. -/
  | vst (n : Nat) (f : FmtR)
  /-- VMLD, R188: Mask register load. -/
  | vmld (n : Nat) (f : FmtR)
  /-- VMST, R188: Mask register store. -/
  | vmst (n : Nat) (f : FmtR)
  /-- VUNPK, R193: Vector load through the Shears. -/
  | vunpk (n : Nat) (f : FmtR)
  /-- VPACK, R193: Vector store through the Shears. -/
  | vpack (n : Nat) (f : FmtR)
  /-- VRAND, R200: Vector counter-based random draw. -/
  | vrand (n : Nat) (f : FmtR)
  /-- VREDSUM_F, R195: Vector float tree sum. -/
  | vredsumF (n : Nat) (f : FmtR)
  /-- VREDMAX_F, R195: Vector float tree max. -/
  | vredmaxF (n : Nat) (f : FmtR)
  /-- VREDMIN_F, R195: Vector float tree min. -/
  | vredminF (n : Nat) (f : FmtR)
  /-- VREDSUM_I, R195: Vector integer tree sum. -/
  | vredsumI (n : Nat) (f : FmtR)
  /-- VREDMAX_I, R195: Vector integer tree max. -/
  | vredmaxI (n : Nat) (f : FmtR)
  /-- VREDMIN_I, R195: Vector integer tree min. -/
  | vredminI (n : Nat) (f : FmtR)
  /-- VSCAN_F, R196: Vector float prefix sum. -/
  | vscanF (n : Nat) (f : FmtR)
  /-- VSCAN_I, R196: Vector integer prefix sum. -/
  | vscanI (n : Nat) (f : FmtR)
  /-- VPERM, R194: Vector permute. -/
  | vperm (n : Nat) (f : FmtR)
  /-- VBFLY, R194: Vector butterfly exchange. -/
  | vbfly (n : Nat) (f : FmtR)
  /-- VTR8, R194: Vector 8x8 transpose. -/
  | vtr8 (n : Nat) (f : FmtR)
  /-- VZIPLO, R194: Vector zip low halves. -/
  | vziplo (n : Nat) (f : FmtR)
  /-- VZIPHI, R194: Vector zip high halves. -/
  | vziphi (n : Nat) (f : FmtR)
  /-- VUZPE, R194: Vector unzip even elements. -/
  | vuzpe (n : Nat) (f : FmtR)
  /-- VUZPO, R194: Vector unzip odd elements. -/
  | vuzpo (n : Nat) (f : FmtR)
  /-- VCOMPRESS, R194: Vector compress by mask. -/
  | vcompress (n : Nat) (f : FmtR)
  /-- VEXPAND, R194: Vector expand by mask. -/
  | vexpand (n : Nat) (f : FmtR)
  /-- VIDX, R194: Vector element index. -/
  | vidx (n : Nat) (f : FmtR)
  /-- VMPFX, R194: Vector mask prefix count. -/
  | vmpfx (n : Nat) (f : FmtR)
  /-- VCVT, R197: Vector format conversion between widths. -/
  | vcvt (n : Nat) (f : FmtR)
  /-- VIEXT, R197: Vector integer widen or narrow. -/
  | viext (n : Nat) (f : FmtR)
  /-- VMAND, R198: Mask and. -/
  | vmand (n : Nat) (f : FmtR)
  /-- VMOR, R198: Mask or. -/
  | vmor (n : Nat) (f : FmtR)
  /-- VMXOR, R198: Mask xor. -/
  | vmxor (n : Nat) (f : FmtR)
  /-- VMANDN, R198: Mask and-not. -/
  | vmandn (n : Nat) (f : FmtR)
  /-- VMNOT, R198: Mask not. -/
  | vmnot (n : Nat) (f : FmtR)
  /-- VMLEN, R198: Mask of first n bits. -/
  | vmlen (n : Nat) (f : FmtR)
  /-- VMPOP, R198: Mask population count to X. -/
  | vmpop (n : Nat) (f : FmtR)
  /-- VMFIRST, R198: First set mask bit to X. -/
  | vmfirst (n : Nat) (f : FmtR)
  /-- VEXT, R198: Extract a vector element to X. -/
  | vext (n : Nat) (f : FmtR)
  /-- VMOV, R198: Vector register move. -/
  | vmov (n : Nat) (f : FmtR)
  /-- TICK_BEGIN, R29: Commit N ends and tick N+1 begins with its admission phase. -/
  | tickBegin
  /-- STITCH_START, R152: After any restore and program-image load, a stitch begins at instruction 0 with its initial registers. -/
  | stitchStart (n : Nat)
  /-- NEXT_STITCH_START, R153: When both queues and DMA engines are empty after TIE or a fault, the needle starts its next admitted stitch. -/
  | nextStitchStart (n : Nat)
  /-- RUN_PHASE_BEGIN, R29: The run phase begins 20 us after the tick starts. -/
  | runPhaseBegin
  /-- GUARD_BAND_BEGIN, R29: At C - G no further stitch starts, the placement plan is fixed and changing needles begin to save. -/
  | guardBandBegin
  /-- COMMAND_CUTOFF, R40: At C - 20 us doorbells stop belonging to tick N. -/
  | commandCutoff
  /-- COMMIT, R39: At C the commit applies completions, table switches, commands and admission in order. -/
  | commit (m : CommitIn)
  /-- REQUEST_EXPIRY, R353: A PAUSED request whose time to live has run out becomes EXPIRED. -/
  | requestExpiry (req : Nat)
  /-- LEDGER_DEADLINE, R375: At the ledger deadline commit a STRICT step repeats or a LENIENT step omits slots. -/
  | ledgerDeadline (ctx buf : Nat)
  /-- GRANULE_HOLD_LIMIT, R332: A HELD granule not released by its hold limit becomes LOST with EV_STOCK_LOST. -/
  | granuleHoldLimit
  /-- GUSSET_HOLD_EXPIRY, R305: A channel wanting a move with no gusset is fenced when the hold time ends. -/
  | gussetHoldExpiry
  /-- RESHARD_STAGE_TIMEOUT, R395: A RESHARD not started within STAGE_TICKS completes with BUSY. -/
  | reshardStageTimeout
  /-- GARMENT_OPEN_TIMEOUT, R426: A garment not live within 256 ticks completes GARMENT_OPEN with PEER_LOST. -/
  | garmentOpenTimeout
  /-- STOCK_FILL_STAGE_TIMEOUT, R323: A board fill side not staged within 256 ticks is left out or completes BUSY. -/
  | stockFillStageTimeout
  /-- RECALL_DEADLINE, R537: At the notice deadline the recall stream stops and the context closes. -/
  | recallDeadline (ctx : Nat)
  /-- HEARTBEAT_SILENCE, R427: No heartbeat from a peer in three ticks declares PEER_SILENT. -/
  | heartbeatSilence
  /-- EV_CE_SUMMARY, R559: Every 1,024 ticks corrected-fault counts are reported if changed. -/
  | evCeSummary
  /-- EV_KNOT_CYCLE, R244: A wait cycle found at three consecutive commits is reported. -/
  | evKnotCycle
  /-- GRANULE_RECOPY_RETRY, R331: When every recopy source failed, the list is tried again every 16 ticks. -/
  | granuleRecopyRetry (img g : Nat) (fetched : List Supplied)
  /-- LIST_DROP_LIMIT, R38: An entry dropped 8 times in a row holds its list. -/
  | listDropLimit (spl : Nat)
  /-- DRAFT_OFF_COUNT_EXPIRY, R347: When the off count reaches 0 the draft depth becomes 1. -/
  | draftOffCountExpiry (req : Nat)
  /-- PIN_ERASE, R269: A pin in error in 16 of 64 corrected bursts becomes erased and MOVE_WANTED is set. -/
  | pinErase (chan pin : Nat)
  /-- LINK_AUTH_FENCE, R413: More than 16 tag failures on a link in one tick fence it with cause AUTH. -/
  | linkAuthFence (link : Nat)
  /-- PINCUSHION_BANK_FENCE, R542: A Pincushion bank reaching its error threshold is fenced. -/
  | pincushionBankFence (stk bank : Nat) (tagParity : Bool) (users : List Nat)
  /-- TICK_PERIOD_CHANGE, R53: At tick E the staged tick period and guard band take effect. -/
  | tickPeriodChange
  /-- SPARE_SUBSTITUTE_SWITCH, R434: At commit E every member maps the lost position to the spare and advances the map version. -/
  | spareSubstituteSwitch
  /-- SCRUB_READ, R273: The controller scrubs the next burst of the pass, handling it by its decode result. -/
  | scrubRead (chan : Nat) (errs : List (Nat × Nat))
  /-- DIE_TEMP_READ, R275: Each stack die temperature is read every 1 ms and refresh and command rates adjusted. -/
  | dieTempRead (stk die tempC : Nat)
  /-- HOTSPOT_READ, R72: Panel hotspot sensors are read every 10 us. -/
  | hotspotRead (panel : Nat) (milliC : Int)
  /-- COOLANT_MEASURE, R607: Inlet and outlet temperature and flow are measured every 10 ms. -/
  | coolantMeasure (inletMilliC outletMilliC : Int) (flow : Nat)
  /-- SENSOR_REFRESH, R618: The Chalk refreshes PLDM sensor readings every 10 ms. -/
  | sensorRefresh (centiVolts deciAmps watts : Nat) (boltC : Int)
  /-- LINK_TRAIN_RETRY, R416: A DOWN link tries to train again every 100 ms. -/
  | linkTrainRetry (link : Nat)
  /-- LINK_TRAINING_DONE, R416: A link completes training, lane assignment, latency measurement and key establishment. -/
  | linkTrainingDone (link : Nat) (t : Training)
  /-- LINK_KEY_GENERATION_CHANGE, R589: After 2^30 flits under a key the sender announces and switches to the next key generation. -/
  | linkKeyGenerationChange (link commit : Nat) (incoming : Bool)
  /-- DROOP_DETECT, R75: A rail below 94 % stretches the panel clock to half frequency. -/
  | droopDetect (panel at_ : Nat)
  /-- DROOP_RECOVER, R75: A rail back above 97 % ends the stretch. -/
  | droopRecover (panel at_ : Nat)
  /-- GOVERNOR_ACT, R77: The 100 us input power mean above its threshold lowers all panel clocks. -/
  | governorAct (meanMw : Nat)
  /-- GOVERNOR_RESTORE, R77: The window mean falling below L restores every panel clock within 1 us. -/
  | governorRestore (meanMw : Nat)
  /-- COMMAND_FETCH, R447: Olukor fetches a command entry when completion room allows and checks it. -/
  | commandFetch (page : Option Nat) (readFailed blockFailed : Bool)
  /-- CMD_DB_WRITE, R444: The host writes the command spool producer index. -/
  | cmdDbWrite (page : Option Nat) (port value : Nat)
  /-- CPL_DB_WRITE, R444: The host writes the completion spool consumer index. -/
  | cplDbWrite (page : Option Nat) (port value : Nat)
  /-- EVT_DB_WRITE, R444: The host writes the event spool consumer index. -/
  | evtDbWrite (page : Option Nat) (port value : Nat)
  /-- SPOOL_DB_WRITE, R444: The host writes an index of another spool of the context by handle. -/
  | spoolDbWrite (page : Option Nat) (port value : Nat)
  /-- TICK_NOW_LO_READ, R28: A read of TICK_NOW_LO latches TICK_NOW_HI. -/
  | tickNowLoRead
  /-- POWER_CFG_WRITE, R81: A write to POWER_CFG acts as a POWER_LIMIT at commit. -/
  | powerCfgWrite (value : Nat)
  /-- PANEL_THERM_WRITE, R82: A write sets a panel's FREQ_CODE for the next commit. -/
  | panelThermWrite (panel value : Nat)
  /-- MGMT_CTRL_OPEN, R442: OPEN opens the management spools from the setup block at the next commit. -/
  | mgmtCtrlOpen (port : Nat)
  /-- MGMT_CTRL_CLOSE, R442: CLOSE closes the management spools at the next commit. -/
  | mgmtCtrlClose (port : Nat)
  /-- REGISTER_WRITE, R439: A write to a register without behaviour of its own, or an ill-formed access. -/
  | registerWrite (port bar off size value : Nat) (write : Bool)
  /-- WIN_SLOT_WRITE, R505: A word write to a window command slot is kept, torn or rings the doorbell. -/
  | winSlotWrite (wslot word port value : Nat) (whole : Bool)
  /-- WIN_ENABLE_WRITE, R503: A write staging which contexts the window serves. -/
  | winEnableWrite (port : Nat) (hi : Bool) (value : Nat)
  /-- WIN_PAGE_WRITE, R503: A write staging the window completion page address. -/
  | winPageWrite (port : Nat) (hi : Bool) (value : Nat)
  /-- WIN_NOP, R511: Window NOP, applied at commit N+1. -/
  | winNop (w : WinReq)
  /-- WIN_DEV_INFO, R511: Window DEV_INFO. -/
  | winDevInfo (w : WinReq)
  /-- WIN_CTX_PAUSE, R511: Window CTX_PAUSE. -/
  | winCtxPause (w : WinReq)
  /-- WIN_CTX_RESUME, R511: Window CTX_RESUME. -/
  | winCtxResume (w : WinReq)
  /-- WIN_CTX_SEGMENT_SET, R511: Window CTX_SEGMENT_SET. -/
  | winCtxSegmentSet (w : WinReq)
  /-- WIN_PROG_SET, R511: Window PROG_SET. -/
  | winProgSet (w : WinReq)
  /-- WIN_PATTERN_SET, R511: Window PATTERN_SET. -/
  | winPatternSet (w : WinReq)
  /-- WIN_PATTERN_CLOSE, R511: Window PATTERN_CLOSE. -/
  | winPatternClose (w : WinReq)
  /-- WIN_LIST_HOLD, R511: Window LIST_HOLD. -/
  | winListHold (w : WinReq)
  /-- WIN_LIST_RELEASE, R511: Window LIST_RELEASE. -/
  | winListRelease (w : WinReq)
  /-- WIN_WEIGHT_LOAD, R512: Window byte-copy WEIGHT_LOAD from STOCK or BOLT. -/
  | winWeightLoad (w : WinReq)
  /-- WIN_GEN_CFG, R511: Window GEN_CFG. -/
  | winGenCfg (w : WinReq)
  /-- WIN_REQ_OPEN, R511: Window REQ_OPEN with an 8-byte bobbin. -/
  | winReqOpen (w : WinReq)
  /-- WIN_REQ_PAUSE, R511: Window REQ_PAUSE. -/
  | winReqPause (w : WinReq)
  /-- WIN_REQ_RESUME, R511: Window REQ_RESUME. -/
  | winReqResume (w : WinReq)
  /-- WIN_REQ_CANCEL, R509: Window REQ_CANCEL, meeting the tokens of tick N+1. -/
  | winReqCancel (w : WinReq)
  /-- WIN_KNOT_OPEN, R511: Window KNOT_OPEN. -/
  | winKnotOpen (w : WinReq)
  /-- WIN_KNOT_SET, R511: Window KNOT_SET. -/
  | winKnotSet (w : WinReq)
  /-- WIN_KNOT_READ, R511: Window KNOT_READ. -/
  | winKnotRead (w : WinReq)
  /-- WIN_KNOT_CLOSE, R511: Window KNOT_CLOSE. -/
  | winKnotClose (w : WinReq)
  /-- WIN_SPOOL_OPEN, R511: Window SPOOL_OPEN of a bobbin or stitch list. -/
  | winSpoolOpen (w : WinReq)
  /-- WIN_SPOOL_CLOSE, R511: Window SPOOL_CLOSE. -/
  | winSpoolClose (w : WinReq)
  /-- NOP, R465: Command NOP completes OK. -/
  | nop (r : CmdReq)
  /-- DEV_INFO, R466: Returns the part identity record. -/
  | devInfo (r : CmdReq)
  /-- TICK_SET, R467: Stages a new tick period and guard band from tick E. -/
  | tickSet (r : CmdReq)
  /-- POWER_LIMIT, R468: Stages module power settings and panel clocks. -/
  | powerLimit (r : CmdReq)
  /-- ENERGY_TRACE, R469: Names or stops the admission trace spool. -/
  | energyTrace (r : CmdReq)
  /-- ENERGY_READ, R469: Returns a context's energy counters. -/
  | energyRead (r : CmdReq)
  /-- CTX_OPEN, R470: Opens a context with its spools, save area and keys. -/
  | ctxOpen (r : CmdReq)
  /-- CTX_CLOSE, R472: Closes a context, ends its objects and destroys its key. -/
  | ctxClose (r : CmdReq)
  /-- CTX_PAUSE, R473: Takes a context out of admission. -/
  | ctxPause (r : CmdReq)
  /-- CTX_RESUME, R473: Returns a paused context to admission. -/
  | ctxResume (r : CmdReq)
  /-- CTX_SEGMENT_SET, R474: Stages one segment descriptor. -/
  | ctxSegmentSet (r : CmdReq)
  /-- CTX_PRIORITY, R475: Stages a context's class ceiling. -/
  | ctxPriority (r : CmdReq)
  /-- PROG_SET, R475: Stages or removes a program table entry. -/
  | progSet (r : CmdReq)
  /-- HEM_GRANT, R307: Grants a context a host-memory range. -/
  | hemGrant (r : CmdReq)
  /-- HEM_REVOKE, R311: Revokes a Hem grant. -/
  | hemRevoke (r : CmdReq)
  /-- PATTERN_SET, R292: Allocates and zeroes a Pattern or places it in the Hem tier. -/
  | patternSet (r : CmdReq)
  /-- PATTERN_ZEROED, R292: When zeroing ends, the Pattern becomes current at the next commit and PATTERN_SET completes. -/
  | patternZeroed (ctx num : Nat)
  /-- PATTERN_READ, R477: Returns a Pattern record with its slots. -/
  | patternRead (r : CmdReq)
  /-- PATTERN_CLOSE, R294: Frees a Pattern. -/
  | patternClose (r : CmdReq)
  /-- LIST_HOLD, R478: Holds a stitch list at its head. -/
  | listHold (r : CmdReq)
  /-- LIST_RELEASE, R478: Releases a held list, skipping entries. -/
  | listRelease (r : CmdReq)
  /-- WEIGHT_LOAD, R325: Starts a multi-tick weight copy into context memory. -/
  | weightLoad (r : CmdReq)
  /-- WEIGHT_LOAD_DONE, R328: The load completes at the commit after its last write is acknowledged. -/
  | weightLoadDone (cmd rows status : Nat) (fetched : List Supplied)
  /-- STOCK_MAP, R321: Starts a local or board fill of a shared-stock copy. -/
  | stockMap (r : CmdReq)
  /-- STOCK_MAP_FILLED, R321: Every granule written and verified completes STOCK_MAP. -/
  | stockMapFilled (img : Nat) (fetched : List Supplied)
  /-- FILL_MESSAGE_RECEIVE, R323: A receiver or relay takes a manifest or granule of a board fill. -/
  | fillMessageReceive (img fillId : Nat) (receivers : List Nat) (granule : Option Nat) (bytes : List (BitVec 8))
  /-- STOCK_UNMAP, R322: Frees a shared-stock copy. -/
  | stockUnmap (r : CmdReq)
  /-- BOLT_INSTALL, R319: Starts installing a signed image into the Bolt. -/
  | boltInstall (r : CmdReq)
  /-- BOLT_INSTALL_VERIFIED, R319: After the last block is verified the image becomes VALID. -/
  | boltInstallVerified (img : Nat)
  /-- BOLT_REMOVE, R320: Frees an installed image. -/
  | boltRemove (r : CmdReq)
  /-- BOLT_STATUS, R317: Returns Bolt stack and image records. -/
  | boltStatus (r : CmdReq)
  /-- GEN_CFG, R336: Stages a context's generation settings. -/
  | genCfg (r : CmdReq)
  /-- REQ_OPEN, R337: Opens a generation request. -/
  | reqOpen (r : CmdReq)
  /-- REQ_PAUSE, R351: Starts moving a request's pleats to the Hem tier. -/
  | reqPause (r : CmdReq)
  /-- PAUSE_COPY_DONE, R339: All pleats acknowledged in the Hem tier make the request PAUSED. -/
  | pauseCopyDone (req : Nat)
  /-- REQ_RESUME, R353: Starts copying a paused request's pleats back, or closes an expired request. -/
  | reqResume (r : CmdReq)
  /-- RESUME_COPY_DONE, R353: All pleats written back restore the request's earlier state. -/
  | resumeCopyDone (req : Nat) (readFailed : Bool)
  /-- REQ_CANCEL, R354: Cancels a request with a marker. -/
  | reqCancel (r : CmdReq)
  /-- DRAFT_SET, R347: Stages a request's maximum draft depth. -/
  | draftSet (r : CmdReq)
  /-- GARMENT_REQUEST_UPDATE, R356: A member applies a home's request state change carried over the links. -/
  | garmentRequestUpdate (u : ReqUpdate)
  /-- STEP_BEGIN, R360: Opens a LOCAL or REDUCE step. -/
  | stepBegin (r : CmdReq)
  /-- STEP_MODE, R362: Stages step service, order and check modes. -/
  | stepMode (r : CmdReq)
  /-- ACC_EVERY, R359: Stages the number of steps per reduction. -/
  | accEvery (r : CmdReq)
  /-- LEDGER_READ, R389: Returns ledger entries of a range of tiles. -/
  | ledgerRead (r : CmdReq)
  /-- RESHARD, R394: Checks and stages a turn between layouts. -/
  | reshard (r : CmdReq)
  /-- RESHARD_START, R396: At the start commit the generation context is quiesced and READY_KNOT set. -/
  | reshardStart (gar turn : Nat)
  /-- BASTING_MOVE_ACK, R399: A Basting move is acknowledged when all its messages are. -/
  | bastingMoveAck (gar turn move status : Nat)
  /-- BASTING_MESSAGE, R401: A receiver writes a Basting message and counts layers into READY_KNOT. -/
  | bastingMessage (m : BastMsg)
  /-- TURN_BASTE, R403: When READY_KNOT reaches BASTE_LAYERS the Basting layout switches in. -/
  | turnBaste (gar turn : Nat)
  /-- TURN_FINISH, R396: When all moves and layers are complete the turn finishes and RESHARD completes. -/
  | turnFinish (gar turn : Nat)
  /-- TURN_ABORT_RECEIVE, R407: A member holding a turn ABORT ends its turn with FENCED. -/
  | turnAbortReceive (gar turn member : Nat)
  /-- STAGED_RECEIVE, R395: A STAGED notice from a member counts toward the turn's start. -/
  | stagedReceive (gar turn member : Nat)
  /-- CKPT_SAVE, R488: Fixes a host checkpoint and starts streaming it. -/
  | ckptSave (r : CmdReq)
  /-- CKPT_STREAM_DONE, R531: The signed manifest acknowledged completes the checkpoint. -/
  | ckptStreamDone (ctx failed : Nat)
  /-- CKPT_BLOCK_WRITE, R528: A checkpoint block is encrypted, digested and written, retried once on failure. -/
  | ckptBlockWrite (ctx block failed : Nat)
  /-- CKPT_RESTORE, R532: Checks a checkpoint manifest and starts restoring a paused context. -/
  | ckptRestore (r : CmdReq)
  /-- RESTORE_BLOCK_FETCH, R533: A restore block is fetched, verified and written, or retried. -/
  | restoreBlockFetch (ctx block : Nat) (readFailed : Bool)
  /-- RESTORE_DONE, R534: When all blocks are verified the image's tables become current. -/
  | restoreDone (ctx : Nat)
  /-- RISK_SET, R490: Stages risk thresholds and hint. -/
  | riskSet (r : CmdReq)
  /-- RECALL, R536: Forces risk, checkpoints and closes a context within a notice. -/
  | recallCtx (r : CmdReq)
  /-- CKPT_WANT_RECEIVE, R523: A garment member receiving CKPT_WANT starts a monitor checkpoint. -/
  | ckptWantReceive (gar member : Nat)
  /-- KNOT_OPEN, R231: Opens a knot. -/
  | knotOpen (r : CmdReq)
  /-- KNOT_SET, R242: Writes a knot's state. -/
  | knotSet (r : CmdReq)
  /-- KNOT_READ, R233: Returns a knot's state record. -/
  | knotRead (r : CmdReq)
  /-- KNOT_CLOSE, R231: Closes a knot. -/
  | knotClose (r : CmdReq)
  /-- KNOT_CYCLES, R493: Returns every wait cycle found at the last commit. -/
  | knotCycles (r : CmdReq)
  /-- SPOOL_OPEN, R248: Opens a spool. -/
  | spoolOpen (r : CmdReq)
  /-- SPOOL_READ, R494: Returns a spool descriptor. -/
  | spoolRead (r : CmdReq)
  /-- SPOOL_CLOSE, R254: Closes a spool. -/
  | spoolClose (r : CmdReq)
  /-- GARMENT_OPEN, R426: Opens a garment and sends JOIN to members. -/
  | garmentOpen (r : CmdReq)
  /-- JOIN_RECEIVE, R426: A JOIN from a member counts toward the garment becoming live. -/
  | joinReceive (gar member : Nat)
  /-- GARMENT_CLOSE, R496: Removes a context from a garment. -/
  | garmentClose (r : CmdReq)
  /-- ARRAY_SET, R422: Stores the array dimensions. -/
  | arraySet (r : CmdReq)
  /-- SPARE_SET, R433: Stages the board spare mask. -/
  | spareSet (r : CmdReq)
  /-- SPARE_SUBSTITUTE, R434: Checks authorisation and starts substituting a spare for a lost position. -/
  | spareSubstitute (r : CmdReq)
  /-- LINK_STATUS, R435: Returns link records. -/
  | linkStatus (r : CmdReq)
  /-- PATCH_STAGE, R563: Loads and verifies a patch overlay into the standby cluster. -/
  | patchStage (r : CmdReq)
  /-- PATCH_STAGED, R563: The verified overlay held by the standby completes PATCH_STAGE. -/
  | patchStaged
  /-- PATCH_ACTIVATE, R564: Hands the active role to the standby under the staged overlay. -/
  | patchActivate (r : CmdReq)
  /-- TAILOR_RESYNC, R546: A cluster that copied the active state becomes the standby with EV_HANDOVER. -/
  | tailorResync (clu : Nat)
  /-- NEEDLE_FENCE, R569: Fences a needle or starts its self-test. -/
  | needleFence (r : CmdReq)
  /-- NEEDLE_SELF_TEST_DONE, R570: A needle self-test ends, returning or keeping it fenced. -/
  | needleSelfTestDone (n : Nat) (passed : Bool) (failing : List Nat)
  /-- CHANNEL_MOVE, R299: Starts a planned channel move. -/
  | channelMove (r : CmdReq)
  /-- CHANNEL_COPY_UNIT_ACK, R301: A 1 KiB copy unit is acknowledged and held writes are applied. -/
  | channelCopyUnitAck (chan unit : Nat) (errs : List (Nat × List (Nat × Nat))) (destFailed : Bool)
  /-- CHANNEL_MOVE_DRAIN, R300: The copy set complete with no mirrored write outstanding stages the remap. -/
  | channelMoveDrain (chan : Nat)
  /-- CHANNEL_RETRAIN_DONE, R300: A channel's repair and retraining ends; it becomes GUSSET or FENCED. -/
  | channelRetrainDone (chan : Nat) (failing : List Nat) (passed : Bool)
  /-- LANE_RECAL, R415: Moves a link lane to the spare and retrains it. -/
  | laneRecal (r : CmdReq)
  /-- LANE_RECAL_DONE, R415: The retrained lane becomes the spare. -/
  | laneRecalDone (link : Nat) (ok : Bool)
  /-- GUSSET_SET, R297: Sets the gusset reserve and hold time. -/
  | gussetSet (r : CmdReq)
  /-- THIMBLE_UPDATE, R567: Verifies and writes firmware, a key record or a mode record. -/
  | thimbleUpdate (r : CmdReq)
  /-- THIMBLE_RESTART_DONE, R567: The Thimble's self-tests after a firmware switch end. -/
  | thimbleRestartDone (passed oldPassed : Bool)
  /-- TAPE_SET, R390: Stages the Tape spool and program tags. -/
  | tapeSet (r : CmdReq)
  /-- TAPE_READ, R392: Returns current step totals by tag and needle. -/
  | tapeRead (r : CmdReq)
  /-- ARB_COUNTERS, R500: Returns and optionally clears arbiter counters. -/
  | arbCounters (r : CmdReq)
  /-- MEM_STATUS, R286: Returns channel status records. -/
  | memStatus (r : CmdReq)
  /-- MEM_LOG_READ, R285: Returns and removes controller log records. -/
  | memLogRead (r : CmdReq)
  /-- MEM_SCRUB, R273: Sets the scrub pass period. -/
  | memScrub (r : CmdReq)
  /-- MEM_PPR, R287: Applies a soft or hard row repair and retrains. -/
  | memPpr (r : CmdReq)
  /-- MEM_LANE_SET, R288: Assigns a spare lane or clears an erased pin and retrains. -/
  | memLaneSet (r : CmdReq)
  /-- DMA_DESCRIPTOR_START, R224: An engine starts a descriptor and checks it. -/
  | dmaDescriptorStart (n eng : Nat)
  /-- DMA_SLOT_ACKNOWLEDGED, R225: A DMA slot completes when every read returned and write acknowledged. -/
  | dmaSlotAcknowledged (n eng slot status : Nat)
  /-- KWAIT_SATISFIED, R240: A knot change satisfies an outstanding wait and writes its result. -/
  | kwaitSatisfied (n : Nat)
  /-- KWAIT_GIVE_UP, R240: A wait's give-up deadline passes and it ends with SAT 0. -/
  | kwaitGiveUp (n : Nat)
  /-- KNOT_OPERATION_MESSAGE, R238: The knot engine applies a local or remote knot operation. -/
  | knotOperationMessage (m : KnotMsg)
  /-- ACC_SEND_ACKNOWLEDGED, R366: An ACC_SEND is acknowledged when all additions are applied or discarded. -/
  | accSendAcknowledged (n msg status : Nat) (torn : Bool)
  /-- ROUTER_MESSAGE, R209: A router takes a whole message and arbitrates its output by deadline. -/
  | routerMessage (b : Bid)
  /-- MEMORY_READ_REQUEST, R266: A controller serves a read, decoding it and handling its result. -/
  | memoryReadRequest (chan burst source hint : Nat) (errs : BurstErrs) (owner : Option Nat) (area : Option (Nat × Nat × Nat)) (bid : Option Bid)
  /-- GRANULE_RECOPY_DONE, R331: A recopied granule is written and verified. -/
  | granuleRecopyDone (img g : Nat) (fetched : List Supplied)
  /-- MEMORY_WRITE_REQUEST, R260: A controller applies a write, merging partial bursts. -/
  | memoryWriteRequest (chan burst hint : Nat) (bytes : List (Nat × BitVec 8)) (errs : List (Nat × Nat)) (owner : Option Nat) (issuer : WriteIssuer) (bid : Option Bid)
  /-- REMOTE_ACCUMULATION, R281: An adder applies an FP32 addition with its residue check and ledger tracking. -/
  | remoteAccumulation (m : AccMsg)
  /-- FIXED_SUMMATION_DONE, R369: A FIXED-order summation of slot tiles into SUM completes. -/
  | fixedSummationDone (ctx buf : Nat) (tile : SummedTile)
  /-- CHECKSUM_COMPARE, R382: A finished SUM tile is checked against its ledger checksums. -/
  | checksumCompare (ctx buf tile : Nat)
  /-- DIVISOR_WRITE, R376: The divisor array is written in the tick after COMPLETE. -/
  | divisorWrite (ctx buf : Nat)
  /-- CONTRIBUTION_NOTICE, R371: A COMMIT, TEAR or end notice from a sender reaches the owner's ledger. -/
  | contributionNotice (m : ContribMsg)
  /-- STEP_COMPLETE_NOTICE, R384: A COMPLETE or SEALED notice from a member is recorded. -/
  | stepCompleteNotice (ctx step attempt member : Nat) (sealed_ : Bool)
  /-- STEP_ABORT_NOTICE, R385: An ABORT from a member repeats an unsealed step. -/
  | stepAbortNotice (ctx step attempt member : Nat)
  /-- PEER_SEGMENT_ACCESS, R149: A peer checks and serves an access through its own descriptor. -/
  | peerSegmentAccess (a : PeerAccess)
  /-- FLIT_RECEIVE, R412: A flit is decoded, authenticated and its messages delivered in order. -/
  | flitReceive (link : Nat) (f : Flit)
  /-- NAK_RECEIVE, R412: A NAK makes the sender replay from the expected sequence number. -/
  | nakReceive (link seq : Nat)
  /-- LANE_FAULT, R414: A lane loses lock or exceeds its error rate and moves to the spare or halves the link. -/
  | laneFault (link lane : Nat) (rate : Bool)
  /-- LANE_FLIT, R414: A LANE flit names the boundary for a lane switch. -/
  | laneFlit (link lane boundary : Nat)
  /-- HEARTBEAT_RECEIVE, R420: A heartbeat flit from a peer is recorded for the tick. -/
  | heartbeatReceive (link : Nat) (h : Heartbeat)
  /-- TICK_MARK_RECEIVE, R421: A member aligns its commit instant to the master's tick mark. -/
  | tickMarkReceive (link tick period : Nat) (ahead : Int)
  /-- EPOCH_MARK_RECEIVE, R425: A board master aligns to the array reference by epoch marks. -/
  | epochMarkReceive (link board hops tick : Nat) (offset ahead : Int)
  /-- LINK_ELECTRICAL_IDLE, R427: Links in electrical idle fence a link or declare PEER_DOWN. -/
  | linkElectricalIdle (link : Nat)
  /-- LOSS_NOTICE_RECEIVE, R428: A LOSS notice declares a loss or isolates the named device. -/
  | lossNoticeReceive (link pos board sender : Nat)
  /-- SELVEDGE_PORT_FENCE, R424: A fenced Selvedge port reroutes routes or raises EV_ROUTE_LOST. -/
  | selvedgePortFence (link : Nat)
  /-- NEEDLE_PARITY_ERROR, R545: A register, queue or accumulator parity error fences the needle. -/
  | needleParityError (n : Nat)
  /-- INSTRUCTION_STORE_PARITY, R545: An instruction-store parity error refetches the image. -/
  | instructionStoreParity (n : Nat)
  /-- SLEEVE_UE, R132: An uncorrectable Sleeve word fences its bank. -/
  | sleeveUe (n off : Nat) (saving : Bool)
  /-- PINCUSHION_LINE_UE, R280: An uncorrectable Pincushion line error drops or poisons the line. -/
  | pincushionLineUe (chan burst : Nat)
  /-- KNOT_COPY_UE, R547: An uncorrectable knot copy is corrected or the knot fenced. -/
  | knotCopyUe (knot : Nat) (both : Bool)
  /-- CONTEXT_KEY_INTEGRITY_FAIL, R550: A context key failing its integrity check closes the context. -/
  | contextKeyIntegrityFail (ctx : Nat)
  /-- TAILOR_MISMATCH, R546: A lockstep mismatch fences a cluster and hands over or withdraws. -/
  | tailorMismatch (clu : Nat)
  /-- LINING_HEADER_ERROR, R552: An uncorrectable header error discards a message and counts toward withdrawal. -/
  | liningHeaderError (router : Nat)
  /-- THIMBLE_ERROR, R581: A Thimble self-test failure zeroises keys and the device withdraws. -/
  | thimbleError
  /-- TICK_LOGIC_ERROR, R552: An uncorrectable tick logic error withdraws the device. -/
  | tickLogicError
  /-- HOST_PORT_WRITE_FAILURE, R457: A failed spool write closes the spool and writes EV_SPOOL_FAULT. -/
  | hostPortWriteFailure (w : HostWrite)
  /-- HOST_READ_POISON, R549: A poisoned or failed host read ends the stitch and pauses its context. -/
  | hostReadPoison (n seg off : Nat)
  /-- PWR_OK_FALL, R605: PWR_OK falling stops work and powers down with keys zeroised. -/
  | pwrOkFall
  /-- INPUT_VOLTAGE_FAULT, R604: The input out of range for 5 us acts as PWR_OK falling. -/
  | inputVoltageFault
  /-- MOD_RESET_ASSERT, R609: MOD_RESET_N asserted resets the module except the Chalk. -/
  | modResetAssert
  /-- BRINGUP_START, R612: PWR_OK and MOD_RESET_N both high start cold bring-up. -/
  | bringupStart (posId boardId : Nat)
  /-- BRINGUP_STEP_TIMEOUT, R612: A bring-up step reaching its maximum ends with unfinished units fenced. -/
  | bringupStepTimeout (r : Bringup)
  /-- PERST_ASSERT, R610: PERSTn_N asserted resets one host port. -/
  | perstAssert (port : Nat)
  /-- PERST_DEASSERT, R610: PERSTn_N deasserted lets the port train. -/
  | perstDeassert (port : Nat)
  /-- TICK_REF_LOSS, R601: Loss of TICK_REF after READY enters holdover. -/
  | tickRefLoss
  /-- TICK_REF_RETURN, R601: TICK_REF returning relocks without a break. -/
  | tickRefReturn
  /-- CONFIG_REQUEST, R615: A PCI Express configuration request, answered with RRS before READY. -/
  | configRequest (port : Nat)
  /-- I3C_DYNAMIC_ADDRESS, R617: SETDASA or ENTDAA assigns the Chalk a dynamic address. -/
  | i3cDynamicAddress (addr : Nat)
  /-- PLDM_BASE_REQUEST, R617: A PLDM type 0 request over MCTP. -/
  | pldmBaseRequest (binding : Nat)
  /-- PLDM_PLATFORM_REQUEST, R618: A PLDM type 2 sensor request over MCTP. -/
  | pldmPlatformRequest (binding sensor : Nat)
  /-- PLDM_FRU_REQUEST, R617: A PLDM type 4 FRU request over MCTP. -/
  | pldmFruRequest (binding : Nat)
  /-- GET_VERSION, R597: SPDM GET_VERSION over DOE. -/
  | getVersion (port : Nat)
  /-- GET_CAPABILITIES, R597: SPDM GET_CAPABILITIES. -/
  | getCapabilities (port : Nat)
  /-- NEGOTIATE_ALGORITHMS, R597: SPDM NEGOTIATE_ALGORITHMS. -/
  | negotiateAlgorithms (port algs : Nat)
  /-- GET_DIGESTS, R597: SPDM GET_DIGESTS. -/
  | getDigests (port : Nat)
  /-- GET_CERTIFICATE, R597: SPDM GET_CERTIFICATE. -/
  | getCertificate (port slot off len : Nat)
  /-- CHALLENGE, R597: SPDM CHALLENGE. -/
  | challenge (port slot nonce : Nat)
  /-- GET_MEASUREMENTS, R598: SPDM GET_MEASUREMENTS returns the measurement digests. -/
  | getMeasurements (port index nonce : Nat) (sign : Bool)
  /-- KEY_EXCHANGE, R597: SPDM KEY_EXCHANGE. -/
  | keyExchange (port : Nat)
  /-- FINISH, R597: SPDM FINISH. -/
  | finish (port session : Nat) (macOk : Bool)
  /-- KEY_UPDATE, R597: SPDM KEY_UPDATE. -/
  | keyUpdate (port session : Nat)
  /-- HEARTBEAT, R597: SPDM HEARTBEAT. -/
  | heartbeat (port session : Nat)
  /-- END_SESSION, R597: SPDM END_SESSION. -/
  | endSession (port session : Nat)
  /-- IDE_KM, R591: An IDE_KM message sets IDE stream keys. -/
  | ideKm (port session stream : Nat) (op : IdeOp)
  /-- INPUT_48V_APPLIED, R615: The 48 V input becomes present, the Chalk starts and the module passes from Unpowered to HELD. -/
  | input48vApplied (posId : Nat)
  /-- INPUT_48V_REMOVED, R608: The input falls below the Chalk's 36 V limit, the Chalk stops and the latched THERMTRIP_N is released. -/
  | input48vRemoved
  /-- BRINGUP_STEP_DONE, R612: A bring-up step finishes its work, starting the next step, and after step 7 READY or, on a fatal unit failure, the failed state. -/
  | bringupStepDone (r : Bringup)
  /-- LANE_EYE_MARGIN_LOW, R415: Olukor starts a lane recalibration by itself when a lane's eye margin falls below its training limit. -/
  | laneEyeMarginLow (link lane : Nat)
  /-- BOLT_PAGE_READ, R314: A Bolt page or granule read completes, is corrected and digest-checked, reread once, or found unreadable, which retires its block. -/
  | boltPageRead (img version copy : Nat) (page : PageRead) (errs1 errs2 : Nat) (digest1 digest2 : Bool)
  /-- BOLT_PAGE_PROGRAM, R315: A Bolt page program or block erase completes, and a failure retires the block to a spare. -/
  | boltPageProgram (img version copy block : Nat) (erase failed installing : Bool)
  /-- TAILOR_SELF_TEST_DONE, R546: A fenced Tailor cluster's 200 ms self-test ends, starting its state copy or leaving it fenced with EV_HANDOVER FAILED. -/
  | tailorSelfTestDone (clu : Nat) (passed : Bool)
  /-- THIMBLE_UPDATE_VERIFIED, R567: The Thimble finishes verifying, and for firmware writing and reading back, an update object, which sets the switch or record effect at the next commit. -/
  | thimbleUpdateVerified (written : Bool)
  /-- OLUKOR_AREA_REBUILD_DONE, R295: The rebuild of a lost copy of an Olukor area from its other copy onto free chunks completes. -/
  | olukorAreaRebuildDone (ctx chunk copy : Nat)
  /-- TAILOR_TABLE_FAILURE, R550: Both copies of a context's program, segment or Pattern tables in the Tailor fail, closing the context. -/
  | tailorTableFailure (ctx : Nat)
  /-- GARMENT_REQUEST_ACK, R356: The home receives a member's acknowledgement of a garment request open. -/
  | garmentRequestAck (req member : Nat)
  /-- LAYERS_READY_NOTICE, R396: A member's notice that its READY_KNOT reads LAYERS is recorded toward the turn's finish. -/
  | layersReadyNotice (gar turn member : Nat)
  /-- FILL_STAGE_NOTICE, R323: A reader or receiver of a board fill learns that the other side has staged the same FILL_ID. -/
  | fillStageNotice (img version fillId pos : Nat)
  /-- PEER_GRANULE_REQUEST, R331: A board member serves a granule recopy request from its Bolt or shared stock. -/
  | peerGranuleRequest (member img version g : Nat) (bolt : Bool)
  /-- MCTP_ENDPOINT_ID_ASSIGN, R617: The bus owner assigns an MCTP endpoint ID to one of the module's bindings. -/
  | mctpEndpointIdAssign (binding eid : Nat)
  /-- I3C_INTERRUPT_ENABLE, R617: The I3C bus controller enables or disables the Chalk's in-band interrupts. -/
  | i3cInterruptEnable (on : Bool)
  deriving DecidableEq, Repr

end Sys2Proof
end

