-- ==== Sys2Proof/Decode.lean ====
section
/-! DEFINITION. The table of operations and events gives its rows no bits: a command is named by its row, and no word
spells one. Decoding a table word therefore answers nothing, on any word. (The 64-byte entries of Olukor's command
spools are data of the machine, read in Machine/Tables.lean and the files of the commands.) -/

namespace Sys2Proof

/-- The command a word spells by the table's bits: none, since no row of the table has bits. -/
def decodeTableWord (_nbits _w : Nat) : Option Instr := none

end Sys2Proof
end

