-- ==== Sys2Proof/Machine/Maps.lean ====
section
/-! DEFINITION. The operations of the sparse map and of memory. Every write keeps the canonical form: keys
strictly rising and, for memory, no byte listed that equals what an unlisted address reads as. -/

namespace Sys2Proof

/-- The value at key `k`, if one is listed. -/
def FMap.get? {α : Type} : FMap α → Nat → Option α
  | [], _ => none
  | (j, v) :: t, k => if j = k then some v else FMap.get? t k

/-- The value at key `k`, or the value every unlisted key has. -/
def FMap.getD {α : Type} (m : FMap α) (k : Nat) (d : α) : α := (FMap.get? m k).getD d

/-- Lists `v` at key `k`, in its place among the rising keys. -/
def FMap.set {α : Type} : FMap α → Nat → α → FMap α
  | [], k, v => [(k, v)]
  | (j, w) :: t, k, v =>
    if k < j then (k, v) :: (j, w) :: t
    else if k = j then (k, v) :: t
    else (j, w) :: FMap.set t k v

/-- Removes key `k`. -/
def FMap.del {α : Type} (m : FMap α) (k : Nat) : FMap α := m.filter (fun p => p.1 != k)

/-- Whether key `k` is listed. -/
def FMap.has {α : Type} (m : FMap α) (k : Nat) : Bool := (FMap.get? m k).isSome

/-- Applies `f` at key `k`, an unlisted key standing for `d`. -/
def FMap.modifyD {α : Type} (m : FMap α) (k : Nat) (d : α) (f : α → α) : FMap α :=
  FMap.set m k (f (FMap.getD m k d))

/-- Applies `f` at key `k` where it is listed. -/
def FMap.modify {α : Type} (m : FMap α) (k : Nat) (f : α → α) : FMap α :=
  m.map (fun p => if p.1 = k then (p.1, f p.2) else p)

/-- Applies `f` to every listed value. -/
def FMap.mapVal {α β : Type} (m : FMap α) (f : Nat → α → β) : FMap β :=
  m.map (fun p => (p.1, f p.1 p.2))

/-- The listed keys, rising. -/
def FMap.keys {α : Type} (m : FMap α) : List Nat := m.map Prod.fst

/-- The keys rise strictly. -/
def FMap.wf {α : Type} : FMap α → Bool
  | [] => true
  | [_] => true
  | (a, _) :: (b, w) :: t => decide (a < b) && FMap.wf ((b, w) :: t)

/-- The smallest index below `bound` that is not a key, scanning from `i`. -/
def FMap.firstFree {α : Type} (m : FMap α) : Nat → Nat → Option Nat
  | _, 0 => none
  | i, fuel + 1 => if FMap.has m i then FMap.firstFree m (i + 1) fuel else some i

/-- The canonical form of memory: addresses strictly rising, no listed byte 0. -/
def Mem.wf (m : Mem) : Bool := FMap.wf m && m.all (fun p => p.2 != 0#8)

/-- One byte of memory. An address that nothing has written reads as 0 (assumption 3). -/
def Mem.read (m : Mem) (a : Nat) : Byte := FMap.getD m a 0#8

/-- Writes one byte, keeping the canonical form. -/
def Mem.write (m : Mem) (a : Nat) (b : Byte) : Mem :=
  if b = 0#8 then FMap.del m a else FMap.set m a b

/-- `n` bytes from address `a`, in rising order. -/
def Mem.readN (m : Mem) : Nat → Nat → List Byte
  | _, 0 => []
  | a, n + 1 => Mem.read m a :: Mem.readN m (a + 1) n

/-- Writes bytes from address `a` on, in rising order. -/
def Mem.writeN (m : Mem) : Nat → List Byte → Mem
  | _, [] => m
  | a, b :: bs => Mem.writeN (Mem.write m a b) (a + 1) bs

/-- The number that bytes spell, least significant byte first (R10). -/
def leNat : List Byte → Nat
  | [] => 0
  | b :: bs => b.toNat + 256 * leNat bs

/-- The low `n` bytes of a number, least significant first (R10). -/
def natLE : Nat → Nat → List Byte
  | 0, _ => []
  | n + 1, v => BitVec.ofNat 8 v :: natLE n (v / 256)

/-- The `n`-byte little-endian number at address `a`. -/
def Mem.readLE (m : Mem) (a n : Nat) : Nat := leNat (Mem.readN m a n)

/-- Writes the low `n` bytes of `v` at address `a`, little-endian. -/
def Mem.writeLE (m : Mem) (a n v : Nat) : Mem := Mem.writeN m a (natLE n v)

/-- Zeroes `n` bytes from address `a`. -/
def Mem.clearRange (m : Mem) (a n : Nat) : Mem := m.filter (fun p => !(decide (a ≤ p.1) && decide (p.1 < a + n)))

/-- Copies `n` bytes from address `src` to address `dst`; the ranges do not overlap. -/
def Mem.copyRange (m : Mem) (src dst n : Nat) : Mem :=
  (m.filter (fun p => decide (src ≤ p.1) && decide (p.1 < src + n))).foldl
    (fun a p => Mem.write a (p.1 - src + dst) p.2) (Mem.clearRange m dst n)

/-- Bits [lo+len-1:lo] of a number. -/
def bits (v lo len : Nat) : Nat := (v >>> lo) % 2 ^ len

/-- One bit of a number. -/
def bit (v i : Nat) : Bool := Nat.testBit v i

/-- Adds one to a counter that saturates at `max`. -/
def satAdd (max v n : Nat) : Nat := Nat.min max (v + n)

/-- A list with its `i`-th element replaced; a list too short is unchanged. -/
def listSet {α : Type} : List α → Nat → α → List α
  | [], _, _ => []
  | _ :: t, 0, v => v :: t
  | x :: t, i + 1, v => x :: listSet t i v

/-- The bytes of a list from `off` on, `n` of them. -/
def slice {α : Type} (l : List α) (off n : Nat) : List α := (l.drop off).take n

end Sys2Proof
end

