-- ==== Sys2Proof/Machine/Formats.lean ====
section
/-! DEFINITION. The element and scale formats of R86, what every code of them means (R87 to R94), and the
roundings onto their grids (R103, R115). A finite value is exact: a sign, a natural significand and a power
of two. -/

namespace Sys2Proof

/-- The element formats of R86, by their codes 0x0 to 0xA. -/
inductive Fmt where
  | fp32 | bf16 | fp16 | int8 | mxint8 | e4m3 | e5m2 | e2m3 | e3m2 | e2m1 | n4
  deriving DecidableEq, Repr

/-- A value: NaN, a signed infinity, or (-1)^neg times m times 2^e exactly (m = 0 is a signed zero). -/
inductive FVal where
  | nan
  | inf (neg : Bool)
  | fin (neg : Bool) (m : Nat) (e : Int)
  deriving DecidableEq, Repr

/-- The format a format code names (R86); codes 0xB to 0xF name none. -/
def Fmt.ofCode : Nat → Option Fmt
  | 0 => some .fp32 | 1 => some .bf16 | 2 => some .fp16 | 3 => some .int8 | 4 => some .mxint8
  | 5 => some .e4m3 | 6 => some .e5m2 | 7 => some .e2m3 | 8 => some .e3m2 | 9 => some .e2m1
  | 10 => some .n4 | _ => none

/-- Width in bits (R86). -/
def Fmt.width : Fmt → Nat
  | .fp32 => 32 | .bf16 => 16 | .fp16 => 16 | .e2m3 => 6 | .e3m2 => 6 | .e2m1 => 4 | .n4 => 4 | _ => 8

/-- Exponent field width of a floating-point format; 0 for the integers. -/
def Fmt.expBits : Fmt → Nat
  | .fp32 => 8 | .bf16 => 8 | .fp16 => 5 | .e4m3 => 4 | .e5m2 => 5 | .e2m3 => 2 | .e3m2 => 3 | .e2m1 => 2
  | .n4 => 2 | .int8 => 0 | .mxint8 => 0

/-- Mantissa field width M. -/
def Fmt.manBits : Fmt → Nat
  | .fp32 => 23 | .bf16 => 7 | .fp16 => 10 | .e4m3 => 3 | .e5m2 => 2 | .e2m3 => 3 | .e3m2 => 2 | .e2m1 => 1
  | .n4 => 1 | .int8 => 0 | .mxint8 => 0

/-- Exponent bias. -/
def Fmt.bias : Fmt → Int
  | .fp32 => 127 | .bf16 => 127 | .fp16 => 15 | .e4m3 => 7 | .e5m2 => 15 | .e2m3 => 1 | .e3m2 => 3
  | .e2m1 => 1 | .n4 => 1 | .int8 => 0 | .mxint8 => 0

/-- Two's-complement formats. -/
def Fmt.isInt : Fmt → Bool
  | .int8 => true | .mxint8 => true | _ => false

/-- FP32, BF16 and FP16: flushed below the smallest normal (R91) and without a block scale (R96). -/
def Fmt.isWide : Fmt → Bool
  | .fp32 => true | .bf16 => true | .fp16 => true | _ => false

/-- Formats with infinities (R89). -/
def Fmt.hasInf : Fmt → Bool
  | .fp32 => true | .bf16 => true | .fp16 => true | .e5m2 => true | _ => false

/-- The canonical NaN code, where the format has a NaN (R89). -/
def Fmt.nanCode : Fmt → Option Nat
  | .fp32 => some 0x7FC00000 | .bf16 => some 0x7FC0 | .fp16 => some 0x7E00 | .e5m2 => some 0x7E
  | .e4m3 => some 0x7F | .n4 => some 0x8 | _ => none

/-- The largest finite magnitude as a significand and a power of two (R86). -/
def Fmt.maxFinite : Fmt → Nat × Int
  | .fp32 => (0xFFFFFF, 104) | .bf16 => (0xFF, 120) | .fp16 => (0x7FF, 5) | .int8 => (127, 0)
  | .mxint8 => (127, -6) | .e4m3 => (7, 6) | .e5m2 => (7, 13) | .e2m3 => (15, -1) | .e3m2 => (7, 2)
  | .e2m1 => (3, 1) | .n4 => (3, 1)

/-- The exponent of the smallest normal (R86). -/
def Fmt.minExp (f : Fmt) : Int := 1 - f.bias

/-- A format without a negative zero (R89). -/
def Fmt.noNegZero : Fmt → Bool
  | .n4 => true | .int8 => true | .mxint8 => true | _ => false

/-- What a code means, before block scale and before flushing (R87, R89, R90, R92). -/
def Fmt.decode (f : Fmt) (c : Nat) : FVal :=
  let w := f.width
  if f.isInt then
    let e : Int := if f = .mxint8 then -6 else 0
    if c % 256 < 128 then .fin false (c % 256) e else .fin true (256 - c % 256) e
  else if f = .n4 && c % 16 = 8 then .nan
  else
    let M := f.manBits
    let neg := Nat.testBit c (w - 1)
    let ex := bits c M f.expBits
    let man := c % 2 ^ M
    let top := 2 ^ f.expBits - 1
    if f.hasInf && ex = top then (if man = 0 then .inf neg else .nan)
    else if f = .e4m3 && ex = top && man = 7 then .nan
    else if ex = 0 then .fin neg man (f.minExp - M)
    else .fin neg (2 ^ M + man) ((ex : Int) - f.bias - M)

/-- R91: a subnormal FP32, BF16 or FP16 value reads as a zero of its sign; says whether it did. -/
def Fmt.flush (f : Fmt) (v : FVal) : FVal × Bool :=
  match v with
  | .fin neg m e =>
    if f.isWide && m != 0 && decide ((Nat.log2 m : Int) + e < f.minExp) then (.fin neg 0 0, true)
    else (v, false)
  | _ => (v, false)

/-- Decodes with the flush of R91. -/
def Fmt.read (f : Fmt) (c : Nat) : FVal := (f.flush (f.decode c)).1

/-- The code of a finite value that lies on the format's grid and in its range: (-1)^neg times a times 2^q. -/
def Fmt.encodeExact (f : Fmt) (neg : Bool) (a : Nat) (q : Int) : Nat :=
  let w := f.width
  if f.isInt then
    let lsb : Int := if f = .mxint8 then -6 else 0
    let k := a * 2 ^ (q - lsb).toNat / 2 ^ (lsb - q).toNat
    if neg then (256 - k % 256) % 256 else k % 256
  else
    let M := f.manBits
    let s := if neg then 2 ^ (w - 1) else 0
    if a = 0 then (if f.noNegZero then 0 else s)
    else
      let k : Int := (Nat.log2 a : Int) + q
      if k < f.minExp then
        let unit : Int := f.minExp - M
        s + a * 2 ^ (q - unit).toNat / 2 ^ (unit - q).toNat
      else
        let unit : Int := k - M
        let sig := a * 2 ^ (q - unit).toNat / 2 ^ (unit - q).toNat
        s + (k + f.bias).toNat * 2 ^ M + (sig - 2 ^ M)

/-- The rounding modes of a Shears conversion (R99, R103); `stochastic` carries its 16-bit draw. -/
inductive Round where
  | nearestEven
  | towardZero
  | stochastic (u : Nat)
  deriving DecidableEq, Repr

/-- The exponent of the grid at magnitude m times 2^e: the last place of the format there, subnormals
included for the short formats and the exponent unbounded below for the wide ones (R102 step 5). -/
def Fmt.quantum (f : Fmt) (m : Nat) (e : Int) : Int :=
  if f.isInt then (if f = .mxint8 then -6 else 0)
  else
    let k : Int := (Nat.log2 m : Int) + e
    if f.isWide then k - f.manBits else max (k - f.manBits) (f.minExp - f.manBits)

/-- R103: the magnitude m times 2^e rounded to a multiple of 2^q, as that multiple. -/
def roundMag (r : Round) (m : Nat) (e q : Int) : Nat :=
  if q ≤ e then m * 2 ^ (e - q).toNat
  else
    let d := 2 ^ (q - e).toNat
    let a := m / d
    let rest := m % d
    match r with
    | .nearestEven => if 2 * rest < d then a else if d < 2 * rest then a + 1 else a + a % 2
    | .towardZero => a
    | .stochastic u => if 65536 ≤ u + 65536 * rest / d && rest != 0 then a + 1 else a

/-- Whether magnitude a times 2^p exceeds magnitude b times 2^q. -/
def magLt (b : Nat) (q : Int) (a : Nat) (p : Int) : Bool :=
  decide (b * 2 ^ (q - p).toNat < a * 2 ^ (p - q).toNat)

/-- The sum of two finite values, exactly, as a signed significand and a power of two. -/
def sumExact (n1 : Bool) (m1 : Nat) (e1 : Int) (n2 : Bool) (m2 : Nat) (e2 : Int) : Int × Int :=
  let e := min e1 e2
  let a : Int := (m1 * 2 ^ (e1 - e).toNat : Nat)
  let b : Int := (m2 * 2 ^ (e2 - e).toNat : Nat)
  ((if n1 then -a else a) + (if n2 then -b else b), e)

/-- Rounds a finite value into a wide format: nearest, ties to even, exponent unbounded (R115 step 1, R91). The
second component says that it overflowed to infinity. -/
def Fmt.roundFin (f : Fmt) (neg : Bool) (m : Nat) (e : Int) : FVal × Bool :=
  if m = 0 then (.fin neg 0 0, false)
  else
    let q := f.quantum m e
    let a := roundMag .nearestEven m e q
    let (mx, qx) := f.maxFinite
    if magLt mx qx a q then (.inf neg, true)
    else if (Nat.log2 a : Int) + q < f.minExp then (.fin neg 0 0, false)
    else (.fin neg a q, false)

/-- The code of a value in a format that has it; NaN as the canonical NaN (R89). -/
def Fmt.encode (f : Fmt) : FVal → Nat
  | .nan => f.nanCode.getD 0
  | .inf neg => (if neg then 2 ^ (f.width - 1) else 0) + (2 ^ f.expBits - 1) * 2 ^ f.manBits
  | .fin neg m e => f.encodeExact neg m e

/-- Whether a value is finite. -/
def FVal.isFin : FVal → Bool
  | .fin _ _ _ => true
  | _ => false

/-- The sign of a value; false for a NaN. -/
def FVal.sign : FVal → Bool
  | .nan => false
  | .inf n => n
  | .fin n _ _ => n

/-- The value negated; a NaN stays NaN. -/
def FVal.neg : FVal → FVal
  | .nan => .nan
  | .inf n => .inf (!n)
  | .fin n m e => .fin (!n) m e

/-- The sum of two values rounded into a wide format (R115, R186). The second component is true when
finite operands gave an infinity. -/
def Fmt.add (f : Fmt) (a b : FVal) : FVal × Bool :=
  match a, b with
  | .nan, _ => (.nan, false)
  | _, .nan => (.nan, false)
  | .inf x, .inf y => if x = y then (.inf x, false) else (.nan, false)
  | .inf x, _ => (.inf x, false)
  | _, .inf y => (.inf y, false)
  | .fin n1 m1 e1, .fin n2 m2 e2 =>
    let (s, e) := sumExact n1 m1 e1 n2 m2 e2
    if s = 0 then (.fin (n1 && n2) 0 0, false)
    else f.roundFin (decide (s < 0)) s.natAbs e

/-- The product of two values, exactly where finite; infinity times zero is a NaN. -/
def FVal.mul (a b : FVal) : FVal :=
  match a, b with
  | .nan, _ => .nan
  | _, .nan => .nan
  | .inf x, .inf y => .inf (x != y)
  | .inf x, .fin n m _ => if m = 0 then .nan else .inf (x != n)
  | .fin n m _, .inf y => if m = 0 then .nan else .inf (n != y)
  | .fin n1 m1 e1, .fin n2 m2 e2 => .fin (n1 != n2) (m1 * m2) (e1 + e2)

/-- A value that may be exact, rounded into a wide format. -/
def Fmt.round (f : Fmt) (v : FVal) : FVal × Bool :=
  match v with
  | .fin n m e => f.roundFin n m e
  | _ => (v, false)

/-- `a + b` of two FP32 codes by the fl of R115, and whether finite operands overflowed. Inputs are flushed. -/
def fl32 (a b : FVal) : FVal × Bool := Fmt.fp32.add a b

/-- R88: the code of element `i` of elements of a format packed from byte 0 of `bs`. -/
def Fmt.elemAt (f : Fmt) (bs : List Byte) (i : Nat) : Nat :=
  match f.width with
  | 32 => leNat (slice bs (4 * i) 4)
  | 16 => leNat (slice bs (2 * i) 2)
  | 8 => leNat (slice bs i 1)
  | 4 => bits (leNat (slice bs (i / 2) 1)) (4 * (i % 2)) 4
  | _ => bits (leNat (slice bs (3 * (i / 4)) 3)) (6 * (i % 4)) 6

/-- R88: bytes that `n` elements take; a partial 6-bit group or 4-bit byte is filled up. -/
def Fmt.bytesOf (f : Fmt) (n : Nat) : Nat :=
  match f.width with
  | 32 => 4 * n
  | 16 => 2 * n
  | 8 => n
  | 4 => (n + 1) / 2
  | _ => 3 * ((n + 3) / 4)

/-- The number that codes of width `w` spell, the first in the lowest bits. -/
def packCodes (w : Nat) : List Nat → Nat
  | [] => 0
  | c :: cs => c % 2 ^ w + 2 ^ w * packCodes w cs

/-- R88: packs element codes into bytes from the lowest address. -/
def Fmt.pack (f : Fmt) (cs : List Nat) : List Byte :=
  natLE (f.bytesOf cs.length) (packCodes f.width cs)

/-- R88: the first `n` element codes of packed bytes. -/
def Fmt.unpack (f : Fmt) (bs : List Byte) (n : Nat) : List Nat :=
  (List.range n).map (fun i => f.elemAt bs i)

end Sys2Proof
end

