-- ==== Sys2Proof/Machine/Accum.lean ====
section
/-! DEFINITION. Chunked accumulation (R109 to R127): block pairs, the pending unit of a cell, promotion into the
FP32 total, chunk images and tacks. Everything here is about one cell or one tile of cells. -/

namespace Sys2Proof

/-- A block pair begun by one MMUL and continued by the next (R110, R118): its scale codes (none for an operand without a plane), its product
sum so far in units of 2^L, and whether a NaN product, a product +infinity or a product -infinity was among its elements. -/
structure PairSum where
  xa : Option Nat
  xb : Option Nat
  p : Int
  nan : Bool
  pinf : Bool
  ninf : Bool
  deriving DecidableEq, Repr

/-- One cell of an accumulator tile (R113, R126). `total` is the FP32 total's code; `q` and `e` the pending unit,
or with `fp` the FP32 pending partial's code in `q`; `hi`, `lo`, `nan` and `ovf` are the four sticky flags of R116. The rest is about the open
chunk alone: `low` that a low pair was met in it and `nanDone` that a NaN-scale image was given in it (R120), `big` that the pending partial
became infinite by rounding finite values (R117), and `begun` the block pair the last MMUL left unfinished. -/
structure Cell where
  total : BitVec 32
  q : Int
  e : Int
  pend : Bool
  fp : Bool
  hi : Bool
  lo : Bool
  nan : Bool
  ovf : Bool
  low : Bool
  nanDone : Bool
  big : Bool
  begun : Option PairSum
  deriving DecidableEq, Repr

/-- A cleared cell (R126, R172). -/
def Cell.cleared : Cell :=
  { total := 0, q := 0, e := 0, pend := false, fp := false, hi := false, lo := false, nan := false, ovf := false, low := false,
    nanDone := false, big := false, begun := none }

/-- The FP32 code 0x7FC0_0000. -/
def qnan32 : BitVec 32 := 0x7FC00000#32
/-- The FP32 code 0x7F7F_FFFF's value. -/
def maxF32 (neg : Bool) : FVal := .fin neg 0xFFFFFF 104

/-- R111: L_f, w_f of a short format; none for FP32, BF16 and FP16. -/
def Fmt.shortParams : Fmt → Option (Int × Nat)
  | .e4m3 => some (-9, 18) | .e5m2 => some (-16, 32) | .e3m2 => some (-4, 9) | .e2m3 => some (-3, 6)
  | .e2m1 => some (-1, 4) | .n4 => some (-1, 4) | .int8 => some (0, 8) | .mxint8 => some (-6, 8)
  | _ => none

/-- BF16 and FP16 (R117). -/
def Fmt.is16 : Fmt → Bool
  | .bf16 => true | .fp16 => true | _ => false

/-- R111, R112: whether two operand formats pair. -/
def pairSupported (a b : Fmt) : Bool :=
  match a.shortParams, b.shortParams with
  | some (_, wa), some (_, wb) => wa + wb ≤ 40
  | none, none => a.is16 && b.is16
  | _, _ => false

/-- The chunk length of R109. -/
def chunkLen (a : Fmt) : Nat := if a.is16 then 32 else 128

/-- Adds `v` to the cell's total by R115, setting TOT_OVF when finite operands overflow. -/
def Cell.addTotal (c : Cell) (v : FVal) : Cell :=
  let t := Fmt.fp32.read c.total.toNat
  let (r, o) := fl32 t v
  { c with total := BitVec.ofNat 32 (Fmt.fp32.encode r), ovf := c.ovf || o }

/-- What rule of R113 a block pair meets. -/
inductive PairKind where
  | nanScale
  | nanProd
  | infProd (neg : Bool)
  | high (neg : Bool)
  | low
  | zero
  | inRange (p : Int) (e : Int)
  deriving DecidableEq, Repr

/-- The exact product of two finite elements in units of 2^L; 0 where one is not finite. -/
def unitProd (L : Int) (a b : FVal) : Int :=
  match FVal.mul a b with
  | .fin n m e => let v : Int := (m * 2 ^ (e - L).toNat : Nat); if n then -v else v
  | _ => 0

/-- A block pair with no element yet, of scale codes `xa` and `xb`. -/
def PairSum.start (xa xb : Option Nat) : PairSum := { xa := xa, xb := xb, p := 0, nan := false, pinf := false, ninf := false }

/-- R110: more elements of a block pair, of pair exponent `L`. -/
def PairSum.add (L : Int) (u : PairSum) (els : List (FVal × FVal)) : PairSum :=
  let prods := els.map (fun p => FVal.mul p.1 p.2)
  { u with p := els.foldl (fun s x => s + unitProd L x.1 x.2) u.p, nan := u.nan || prods.any (fun v => v = .nan),
           pinf := u.pinf || prods.any (fun v => v = .inf false), ninf := u.ninf || prods.any (fun v => v = .inf true) }

/-- R110: the summed scale S of a block pair. -/
def PairSum.scale (u : PairSum) : Int :=
  (match u.xa with | some x => (x : Int) - 127 | none => 0) + (match u.xb with | some x => (x : Int) - 127 | none => 0)

/-- R113: classifies a block pair of pair exponent `L`. -/
def PairSum.kind (L : Int) (u : PairSum) : PairKind :=
  if u.xa = some 0xFF || u.xb = some 0xFF then .nanScale
  else if u.nan || (u.pinf && u.ninf) then .nanProd
  else if u.pinf || u.ninf then .infProd u.ninf
  else if u.p = 0 then .zero
  else if 127 < u.scale then .high (decide (u.p < 0))
  else if u.scale < -126 then .low
  else .inRange u.p (u.scale + L)

/-- R110, R113: classifies a block pair with scale codes `xa`, `xb`, pair exponent `L` and elements `els`. -/
def pairKind (L : Int) (xa xb : Option Nat) (els : List (FVal × FVal)) : PairKind := ((PairSum.start xa xb).add L els).kind L

/-- R114: the largest magnitude of Q. -/
def qMax : Int := 2 ^ 47 - 1

/-- A 64-bit chunk image (R120) as its fields. -/
structure ChunkImage where
  q : Int
  cexp : Int
  kind : Nat
  lo : Bool
  hi : Bool
  nan : Bool
  fp : Bool
  deriving DecidableEq, Repr

/-- CEXP 0x200: the empty image (R120). -/
def ChunkImage.empty : ChunkImage :=
  { q := 0, cexp := -512, kind := 0, lo := false, hi := false, nan := false, fp := false }

/-- R120: an image as its 64 bits. -/
def ChunkImage.toNat (i : ChunkImage) : Nat :=
  (BitVec.ofInt 48 i.q).toNat + 2 ^ 48 * (BitVec.ofInt 10 i.cexp).toNat + 2 ^ 58 * (i.kind % 4) +
  (if i.lo then 2 ^ 60 else 0) + (if i.hi then 2 ^ 61 else 0) + (if i.nan then 2 ^ 62 else 0) +
  (if i.fp then 2 ^ 63 else 0)

/-- R120: the image that 64 bits spell. Under FP the FP32 partial stays an unsigned code. -/
def ChunkImage.ofNat (v : Nat) : ChunkImage :=
  let q48 := BitVec.ofNat 48 v
  let fp := bit v 63
  let kind := bits v 58 2
  { q := if fp && kind = 0 then (q48.toNat : Int) else q48.toInt, cexp := (BitVec.ofNat 10 (v >>> 48)).toInt,
    kind := kind, lo := bit v 60, hi := bit v 61, nan := bit v 62, fp := fp }

/-- The image of a cell's pending unit: finite, or under FP what its FP32 partial is; Q is +2 or -2 where the partial became infinite by
rounding finite values (R117). CEXP of every image that holds no unit (FP, saturate, infinity and NaN images, here and below) is 0: the spec
gives it no value (DESIGN CHOICE, assumption 76). -/
def Cell.pendImage (c : Cell) : ChunkImage :=
  if c.fp then
    match Fmt.fp32.read c.q.toNat with
    | .nan => { ChunkImage.empty with q := 0, cexp := 0, kind := 3, fp := true }
    | .inf n => { ChunkImage.empty with q := (if n then -1 else 1) * (if c.big then 2 else 1), cexp := 0, kind := 2, fp := true }
    | _ => { ChunkImage.empty with q := c.q, cexp := 0, fp := true }
  else { ChunkImage.empty with q := c.q, cexp := c.e }

/-- The NaN image of rule 1 of R113 (R120). -/
def ChunkImage.nanScale : ChunkImage := { ChunkImage.empty with cexp := 0, kind := 3, nan := true }

/-- A cell's work on one pair: the new cell, the splits counted (R114), the images it emits, and whether its scale was NaN. An image stands
for each promotion and each result of rules 1 to 4 of R113: a HOLD tile writes them to its stream, any other applies them at once
(assumption 77), so that R122 holds whatever the chunk. -/
structure CellStep where
  cell : Cell
  splits : Nat
  images : List ChunkImage
  fillNan : Bool
  deriving DecidableEq, Repr

/-- A step that leaves the cell. -/
def CellStep.same (c : Cell) : CellStep := { cell := c, splits := 0, images := [], fillNan := false }

/-- Ends the pending unit: its image. -/
def Cell.endUnit (c : Cell) : Cell × List ChunkImage :=
  if c.pend then ({ c with q := 0, e := 0, pend := false, fp := false, big := false }, [c.pendImage]) else (c, [])

/-- R114: the unit that an in-range pair joins, none where the sum does not fit. -/
def Cell.joined (c : Cell) (p e : Int) : Option Cell :=
  let e' := min c.e e
  let q' := c.q * 2 ^ (c.e - e').toNat + p * 2 ^ (e - e').toNat
  if !c.pend then some { c with q := p, e := e, pend := true, fp := false }
  else if q' ≤ qMax && -qMax ≤ q' then some { c with q := q', e := e' }
  else none

/-- R113 and R114: one block pair of short formats on one cell. -/
def Cell.pair (c : Cell) : PairKind → CellStep
  -- the whole tile is filled: the caller gives the images, one to every cell of the rows
  | .nanScale => { CellStep.same c with fillNan := true }
  | .nanProd => { CellStep.same c with images := [{ ChunkImage.empty with cexp := 0, kind := 3 }] }
  | .infProd neg =>
    let (c1, im) := c.endUnit
    { CellStep.same c1 with images := im ++ [{ ChunkImage.empty with q := if neg then -1 else 1, cexp := 0, kind := 2 }] }
  | .high neg =>
    let (c1, im) := c.endUnit
    { CellStep.same { c1 with hi := true } with
      images := im ++ [{ ChunkImage.empty with q := if neg then -1 else 1, cexp := 0, kind := 1, hi := true }] }
  | .low => CellStep.same { c with lo := true, low := true }
  | .zero => CellStep.same c
  | .inRange p e =>
    match c.joined p e with
    | some c1 => CellStep.same c1
    | none =>
      let (c1, im) := c.endUnit
      { CellStep.same { c1 with q := p, e := e, pend := true, fp := false } with splits := 1, images := im }

/-- Takes the begun block pair, if there is one. -/
def Cell.finishPair (L : Int) (c : Cell) : CellStep :=
  match c.begun with
  | none => CellStep.same c
  | some u => Cell.pair { c with begun := none } (u.kind L)

/-- R110: whether the next elements, of scale codes `xa` and `xb`, belong to the begun pair: `inside` says that they do not start a pair. -/
def Cell.continues (c : Cell) (inside : Bool) (xa xb : Option Nat) : Bool :=
  match c.begun with
  | some u => inside && u.xa = xa && u.xb = xb
  | none => false

/-- R110: the next elements of a block pair: those of the begun pair, or a new pair's. -/
def Cell.extend (L : Int) (xa xb : Option Nat) (els : List (FVal × FVal)) (c : Cell) : Cell :=
  { c with begun := some (((c.begun.getD (PairSum.start xa xb))).add L els) }

/-- What a begun pair needs at the end of an MMUL that leaves its chunk open (R169): a pair whose rule no further element can change is taken;
in a HOLD tile every pair that would give an image is, for its images do not stay in the engine (assumption 78). -/
def Cell.settles (hold : Bool) (L : Int) (c : Cell) : Bool :=
  match c.begun with
  | none => false
  | some u =>
    match u.kind L with
    | .nanScale => true
    | .nanProd => true
    | .infProd _ => hold
    | .high _ => hold
    | .inRange p e => hold && (c.joined p e).isNone
    | _ => false

/-- R117: one product of 16-bit inputs joins the cell's FP32 partial; a rounding of finite values to an infinity sets TOT_OVF, and `big` until
the partial's image is written. -/
def Cell.mac16 (c : Cell) (a b : FVal) : Cell :=
  let p := FVal.mul a b
  let (s, o) := if c.pend then Fmt.fp32.add (Fmt.fp32.read c.q.toNat) p else Fmt.fp32.round p
  { c with q := (Fmt.fp32.encode s : Nat), e := 0, pend := true, fp := true, ovf := c.ovf || o, big := (c.pend && c.big) || o }

/-- R120: the end of a chunk on a cell: the images of its unit after those given so far in this record; a cell that met a low pair in the chunk
carries LO on its last image, an empty one if need be. The marks of the chunk end with it; the flags stay (R116). -/
def Cell.closeChunk (c : Cell) (given : List ChunkImage) : Cell × List ChunkImage :=
  let (c1, im) := c.endUnit
  let l := given ++ im
  ({ c1 with low := false, nanDone := false, big := false },
    if c.low then
      (match l.getLast? with
       | some last => l.dropLast ++ [{ last with lo := true }]
       | none => [{ ChunkImage.empty with lo := true }])
    else l)

/-- R121: what one chunk image does to a cell of a canonical tile. An image with CEXP 0x200 is empty whatever else it says: only its flag bits
act. -/
def Cell.applyImage (c : Cell) (i : ChunkImage) : Cell :=
  let c := { c with lo := c.lo || i.lo, hi := c.hi || i.hi, nan := c.nan || i.nan }
  if i.cexp = -512 then c
  else match i.kind with
  | 0 => if i.fp then c.addTotal (Fmt.fp32.read (i.q.toNat % 2 ^ 32)) else c.addTotal (.fin (decide (i.q < 0)) i.q.natAbs i.cexp)
  | 1 => c.addTotal (maxF32 (decide (i.q < 0)))
  | 2 => let c1 := c.addTotal (.inf (decide (i.q < 0)))
         if i.q = 2 || i.q = -2 then { c1 with ovf := true } else c1
  | _ => { c with total := qnan32 }

/-- R176: the cell as a tack holds it: a tack has no place for a begun pair, which is taken as a pair of its own (assumption 78). -/
def Cell.settled (L : Int) (c : Cell) : Cell :=
  let st := c.finishPair L
  st.images.foldl Cell.applyImage st.cell

/-- R127: the cell of a restored tile with an open chunk: the marks of the chunk are taken from the sticky flags (assumption 14). -/
def Cell.reopened (c : Cell) : Cell := { c with low := c.lo, nanDone := c.nan, big := c.pend && c.fp && c.ovf }

/-- R126: a cell's 96 bits. -/
def Cell.toTack (c : Cell) : Nat :=
  c.total.toNat +
  2 ^ 32 * (if c.fp then c.q.toNat % 2 ^ 32 else (BitVec.ofInt 48 c.q).toNat) +
  2 ^ 80 * (if c.pend then (BitVec.ofInt 10 c.e).toNat else 0) +
  (if c.pend then 2 ^ 90 else 0) + (if c.fp then 2 ^ 91 else 0) + (if c.hi then 2 ^ 92 else 0) +
  (if c.lo then 2 ^ 93 else 0) + (if c.nan then 2 ^ 94 else 0) + (if c.ovf then 2 ^ 95 else 0)

/-- R126, R127: the cell that 96 bits spell. -/
def Cell.ofTack (v : Nat) : Cell :=
  let fp := bit v 91
  { total := BitVec.ofNat 32 v,
    q := if fp then (bits v 32 32 : Int) else (BitVec.ofNat 48 (v >>> 32)).toInt,
    e := (BitVec.ofNat 10 (v >>> 80)).toInt, pend := bit v 90, fp := fp, hi := bit v 92, lo := bit v 93,
    nan := bit v 94, ovf := bit v 95, low := false, nanDone := false, big := false, begun := none }

/-- R116: the cell's flags as bits HI 1, LO 2, NAN 4, OVF 8. -/
def Cell.flags (c : Cell) : BitVec 4 :=
  (if c.hi then 1 else 0) ||| (if c.lo then 2 else 0) ||| (if c.nan then 4 else 0) ||| (if c.ovf then 8 else 0)

/-- R113 rule 1 and R121: the canonical NaN with SCALE_NAN. -/
def Cell.fillNan (c : Cell) : Cell := { c with total := qnan32, nan := true }

end Sys2Proof
end

