-- ==== Sys2Proof/Config.lean ====
section
/-! DEFINITION. What one part fixes and the free values: values the manual leaves open. A free value is an
opaque constant without a body, so no proof can see what it is. The structural constants of the
TW-VG2472-30 stand here too. -/

namespace Sys2Proof

/-- The source of every value the manual leaves open while the machine goes on. A step that needs one
reads it at `State.freeCtr` and advances the counter. Assumption 2. -/
opaque Config.freeNat : Nat → Nat

/-- R187: how far, in units in the last place, the device's approximation of one function lies from the
correctly rounded FP32 result. The arguments are the function's number and the input's FP32 bits: the manual says
that the result is a fixed function of the input, and that the 16-bit types round the FP32 result. The meaning keeps
the offset inside the bound R187 states. Assumption 6. -/
opaque Config.approxOffset : Nat → Nat → Int

/-- R72: e^(-t/tau) as the Tailor rounds it. Arguments: t and tau in nanoseconds. The meaning holds it between two
bounds of the exponential. Assumption 7. -/
opaque Config.decay : Nat → Nat → Rat

/-- Whether a signature verifies: the algorithms are named, not given. Arguments: the serial number of the
public key and the signed bytes, the signature among them. Assumption 8. -/
opaque Config.signatureOk : Nat → List (BitVec 8) → Bool

/-- A digest of bytes, as a 384-bit number; the algorithm is named, not given. Assumption 8. -/
opaque Config.digest : List (BitVec 8) → Nat

/-- Ciphering of bytes under a key's serial number and a nonce; the algorithms are named, not given.
Assumption 8. -/
opaque Config.cipher : Nat → Nat → List (BitVec 8) → List (BitVec 8)

/-- R344: the probabilities softmax gives for a list of FP32 logits, in its order, as FP32 codes: the manual fixes the order of the device's
sums by other rules and not the program. Assumption 17. -/
opaque Config.softmax : List Nat → List Nat

/-- R344: the running sums of a list of FP32 codes, as the sampling program forms them. Assumption 17. -/
opaque Config.runningSums : List Nat → List Nat

/-- R344: the natural logarithm of an FP32 code, as the sampling program forms it. Assumption 17. -/
opaque Config.lnProb : Nat → Nat

/-- R528: deciphering, under a key and a nonce. Assumption 8. -/
opaque Config.decipher : Nat → Nat → List (BitVec 8) → List (BitVec 8)

/-- R529, R592: the signature of bytes under the private half of a key. Assumption 8. -/
opaque Config.sign : Nat → List (BitVec 8) → List (BitVec 8)

/-- R577, R590, R592: the keys derived from roots and labels, as serial numbers. Assumption 8. -/
opaque Config.kdf : List Nat → Nat

/-- R592: the wrapping of one key under another: 72 bytes, and what unwraps. Assumption 8. -/
opaque Config.wrap : Nat → Nat → List (BitVec 8)
opaque Config.unwrap : Nat → List (BitVec 8) → Option Nat

/-- R592: the identity seed of this module, by serial number. Assumption 8. -/
opaque Config.identitySeed : Nat

/-- R582, R597: the certificate chain of the ECDSA P-384 identity key, which each part has of its own. Assumption 8. -/
opaque Config.certChain : List (BitVec 8)

/-- R567: whether a Thimble firmware version is in the list of validated versions: the manual names the list and not its entries.
Assumption 8. -/
opaque Config.validated : Nat → Bool

/-- Whether a reading or a sum that is no whole number of a register's units is rounded up there (R82 to R85, R618): the manual gives no
rule, and a whole number is exact. Assumption 20. -/
opaque Config.roundsUp : Rat → Bool

/-- R65: how many more pairs than 16,384 the Tailor's store of estimates holds. Assumption 20. -/
opaque Config.moreEstimates : Nat

/-- R285: the die, bank, row and burst-in-row of a burst of a channel: the manual gives the fields of the log record and
not how a burst's index maps to them. Arguments: global channel, burst. Assumption 12. -/
opaque Config.burstPlace : Nat → Nat → Nat

/-- R219: the DL of a control message, by the notice's code: the manual gives none. Assumption 73. -/
opaque Config.controlDl : Nat → Nat

/-- R207: which of its panel's outer edge routers a part attaches to. Argument: the attachment's number. Assumption 70. -/
opaque Config.edgeRouter : Nat → Nat

/-- R466: the module's 64-bit serial number, which each part has of its own. Assumption 9. -/
opaque Config.serial : Nat

/-- R583: the serial number of the public key in a fused slot, and the algorithm of an image or development key. Assumption 8. -/
opaque Config.fuseKey : Nat → Nat
opaque Config.fuseAlg : Nat → Nat

/-- R5: needles of the device (6 panels of 48). -/
def Config.needles : Nat := 288
/-- R5: panels of the device. -/
def Config.panels : Nat := 6
/-- R5: needles of one panel. -/
def Config.needlesPerPanel : Nat := 48
/-- R6: contexts. -/
def Config.contexts : Nat := 1024
/-- R6: tracked generation requests. -/
def Config.requests : Nat := 131072
/-- R6: spools. -/
def Config.spools : Nat := 1048576
/-- R6: knots. -/
def Config.knots : Nat := 16384
/-- R6: garments the device holds. -/
def Config.garments : Nat := 256

/-- SHA-384 of this module's ML-DSA-87 identity public key (R595, R592), as a number (assumption 9). -/
opaque Config.identity : Nat

end Sys2Proof
end

