-- ==== Sys2Proof/Machine/Shears.lean ====
section
/-! DEFINITION. The Shears (R98 to R108): the control word, its validity, and the conversion of elements
and of whole rows of blocks, with fresh block scales and flags. -/

namespace Sys2Proof

/-- The fields of the Shears control word (R99). -/
structure Scw where
  src : Nat
  dst : Nat
  srcScale : Nat
  dstScale : Nat
  srcB16 : Bool
  dstB16 : Bool
  round : Nat
  ovf : Bool
  fit : Bool
  reserved : Nat
  deriving DecidableEq, Repr

/-- The fields of a 32-bit control word (R99). -/
def Scw.ofNat (w : Nat) : Scw :=
  { src := bits w 0 4, dst := bits w 4 4, srcScale := bits w 8 2, dstScale := bits w 10 2,
    srcB16 := bit w 12, dstB16 := bit w 13, round := bits w 14 2, ovf := bit w 16, fit := bit w 17,
    reserved := bits w 18 14 }

/-- Block size a side uses, where it uses one (R100). -/
def Scw.srcBlock (c : Scw) : Option Nat :=
  if c.srcScale = 1 then some (if c.srcB16 then 16 else 32) else none

/-- Block size the destination side uses, where it uses one (R100). -/
def Scw.dstBlock (c : Scw) : Option Nat :=
  if c.dstScale = 1 || c.dstScale = 2 then some (if c.dstB16 then 16 else 32) else none

/-- The scale and B16 conditions of R100 for one side. -/
def scaleSideOk (f : Fmt) (scale : Nat) (b16 : Bool) : Bool :=
  (if f.isWide then scale = 0 else true) &&
  (if scale = 0 then f.isWide || f = .int8 else true) &&
  (if b16 then f = .n4 || f = .int8 else true)

/-- R100: whether the control word is valid for an operation with rows of `rowLen` elements. -/
def Scw.valid (c : Scw) (rowLen : Nat) : Bool :=
  match Fmt.ofCode c.src, Fmt.ofCode c.dst with
  | some s, some d =>
    c.srcScale != 2 && scaleSideOk s c.srcScale c.srcB16 && scaleSideOk d c.dstScale c.dstB16 &&
    c.round != 3 && !(c.ovf && d.nanCode.isNone) && c.reserved = 0 &&
    (match c.srcBlock with | some b => rowLen % b = 0 | none => true) &&
    (match c.dstBlock with | some b => rowLen % b = 0 | none => true)
  | _, _ => false

/-- The five sticky flags SH_FLAGS (R107) as a number: OVF 1, NAN_IN 2, NAN_LOST 4, UFL 8, CLAMP 16. -/
abbrev ShFlags := BitVec 5

/-- SH_OVF. -/
def shOvf : ShFlags := 1
/-- SH_NAN_IN. -/
def shNanIn : ShFlags := 2
/-- SH_NAN_LOST. -/
def shNanLost : ShFlags := 4
/-- SH_UFL. -/
def shUfl : ShFlags := 8
/-- SH_CLAMP. -/
def shClamp : ShFlags := 16

/-- R102: whether the operation copies codes and scale bytes verbatim. -/
def Scw.verbatim (c : Scw) : Bool :=
  c.src = c.dst &&
  ((c.srcScale = 0 && c.dstScale = 0) || (c.srcScale = 3 && c.dstScale = 3) ||
   (c.srcScale = 1 && c.dstScale = 1 && c.srcB16 = c.dstB16))

/-- R101: the exact value of a source element under a scale code; none is a side without a plane. -/
def scaledVal (v : FVal) (scale : Option Nat) : FVal :=
  match scale with
  | none => v
  | some x =>
    if x = 0xFF then .nan
    else match v with
      | .fin n m e => .fin n m (e + x - 127)
      | _ => v

/-- R102 step 2: the source value with its flush, and the flag the flush sets. The flush looks at the
element's own code. -/
def sourceVal (f : Fmt) (code : Nat) (scale : Option Nat) : FVal × ShFlags :=
  let (v, fl) := f.flush (f.decode code)
  (scaledVal v scale, if fl then shUfl else 0)

/-- R102 steps 3 to 8 for a value that is not NaN, under destination scale code `x` (127 for NONE and UNIT). -/
def encodeVal (d : Fmt) (ovf : Bool) (r : Round) (x : Nat) (v : FVal) : Nat × ShFlags :=
  match v with
  | .nan => (d.nanCode.getD 0, 0)
  | .inf neg =>
    if d.hasInf then (d.encode (.inf neg), 0)
    else if ovf then (d.nanCode.getD 0, shOvf)
    else (d.encodeExact neg d.maxFinite.1 d.maxFinite.2, shOvf)
  | .fin neg m e0 =>
    if m = 0 then (d.encodeExact neg 0 0, 0)
    else
      let e := e0 - x + 127
      let q := d.quantum m e
      let a := roundMag r m e q
      if magLt d.maxFinite.1 d.maxFinite.2 a q then
        (if ovf then d.nanCode.getD 0 else d.encodeExact neg d.maxFinite.1 d.maxFinite.2, shOvf)
      else if a = 0 || (d.isWide && decide ((Nat.log2 a : Int) + q < d.minExp)) then
        (d.encodeExact neg 0 0, shUfl)
      else (d.encodeExact neg a q, 0)

/-- R102 for one element that a FRESH scale does not govern: the code and the flags. `x` is the destination
scale code, 127 for NONE and UNIT. -/
def convertElem (d : Fmt) (ovf : Bool) (r : Round) (plane : Bool) (x : Nat) (v : FVal) : Nat × ShFlags :=
  if v = .nan then
    if plane && x = 0xFF then (0, shNanIn)
    else match d.nanCode with
      | some c => (c, shNanIn)
      | none => (0, shNanIn ||| shNanLost)
  else if plane && x = 0xFF then (0, 0)
  else encodeVal d ovf r x v

/-- The larger of two magnitudes. -/
def magMax (a b : Nat × Int) : Nat × Int := if magLt a.1 a.2 b.1 b.2 then b else a

/-- R106: the largest magnitude among a block's finite elements; (0, 0) where there is none. -/
def amaxOf : List FVal → Nat × Int
  | [] => (0, 0)
  | .fin _ m e :: t => if m = 0 then amaxOf t else magMax (m, e) (amaxOf t)
  | _ :: t => amaxOf t

/-- R106: emax of a destination format. -/
def Fmt.freshEmax : Fmt → Int
  | .e4m3 => 8 | .e5m2 => 15 | .e3m2 => 4 | .e2m3 => 2 | .e2m1 => 2 | .n4 => 2 | .mxint8 => 0 | .int8 => 6
  | _ => 0

/-- R106: the fresh scale code of a block of values and its flags; the NaN rule for formats without a NaN is
the caller's. -/
def freshScale (d : Fmt) (fit : Bool) (vs : List FVal) : Nat × ShFlags :=
  let am := amaxOf vs
  if am.1 = 0 then (0x7F, 0)
  else
    let la : Int := (Nat.log2 am.1 : Int) + am.2
    let e : Int :=
      if fit then
        let P := d.maxFinite
        let lp : Int := (Nat.log2 P.1 : Int) + P.2
        let c := la - lp
        if magLt P.1 (P.2 + c) am.1 am.2 then c + 1 else c
      else la - d.freshEmax
    let code := e + 127
    if code < 0 then (0, shClamp) else if 254 < code then (0xFE, shClamp) else (code.toNat, 0)

/-- R102 and R106: one destination block under a FRESH scale: the scale byte, the codes and the flags. -/
def convertFresh (d : Fmt) (ovf fit : Bool) (rs : List Round) (vs : List FVal) : Nat × List Nat × ShFlags :=
  let anyNan := vs.any (fun v => v = .nan)
  if anyNan && d.nanCode.isNone then (0xFF, vs.map (fun _ => 0), shNanIn)
  else
    let (x, fs) := freshScale d fit vs
    let out := List.zipWith (fun r v => convertElem d ovf r false x v) rs vs
    (x, out.map Prod.fst, out.foldl (fun a p => a ||| p.2) fs)

/-- What an operation through a Shears unit produces: codes, the destination plane's bytes (empty where it
writes none) and the flags. -/
structure ShOut where
  codes : List Nat
  scales : List Nat
  flags : ShFlags
  deriving DecidableEq, Repr

/-- The rounding of destination element `i`, its draw taken from the operation's generator (R104). -/
def Scw.roundOf (c : Scw) (draw : Nat → Nat) (i : Nat) : Round :=
  if c.round = 0 then .nearestEven else if c.round = 1 then .towardZero else .stochastic (draw i)

/-- A list cut into blocks of `n`, `k` of them at most. -/
def chunksOf {α : Type} (n : Nat) : Nat → List α → List (List α)
  | 0, _ => []
  | k + 1, l => if l = [] then [] else l.take n :: chunksOf n k (l.drop n)

/-- R102 over one row: `codes` the source codes, `srcSc` the row's source scale bytes (used under PLANE), `dstSc`
the row's destination scale bytes (used under PLANE), `base` the index of the row's first destination element in
the operation (R104). -/
def Scw.convertRow (c : Scw) (draw : Nat → Nat) (base : Nat) (codes srcSc dstSc : List Nat) : ShOut :=
  match Fmt.ofCode c.src, Fmt.ofCode c.dst with
  | some s, some d =>
    if c.verbatim then { codes := codes, scales := if c.dstScale = 1 then srcSc else [], flags := 0 }
    else
      let sblk := if c.srcB16 then 16 else 32
      let dblk := if c.dstB16 then 16 else 32
      let scOf (i : Nat) : Option Nat := if c.srcScale = 1 then some (srcSc.getD (i / sblk) 127) else none
      let vals := codes.mapIdx (fun i code => sourceVal s code (scOf i))
      let f0 : ShFlags := vals.foldl (fun a p => a ||| p.2) 0
      let vs := vals.map Prod.fst
      let rs := (List.range codes.length).map (fun i => c.roundOf draw (base + i))
      if c.dstScale = 2 then
        let blocks := List.zipWith (fun r v => convertFresh d c.ovf c.fit r v)
          (chunksOf dblk codes.length rs) (chunksOf dblk codes.length vs)
        { codes := (blocks.map (fun b => b.2.1)).flatten, scales := blocks.map (fun b => b.1),
          flags := blocks.foldl (fun a b => a ||| b.2.2) f0 }
      else
        let out := (List.zipWith (fun r v => (r, v)) rs vs).mapIdx (fun i p =>
          let x := if c.dstScale = 1 then dstSc.getD (i / dblk) 127 else 127
          convertElem d c.ovf p.1 (c.dstScale = 1) x p.2)
        { codes := out.map Prod.fst, scales := [], flags := out.foldl (fun a p => a ||| p.2) f0 }
  | _, _ => { codes := [], scales := [], flags := 0 }

/-- R102 over a tensor of rows of equal length, in row-major order (R104). -/
def Scw.convertRows (c : Scw) (draw : Nat → Nat) :
    Nat → List (List Nat × List Nat × List Nat) → List ShOut
  | _, [] => []
  | base, (codes, ss, ds) :: t =>
    c.convertRow draw base codes ss ds :: Scw.convertRows c draw (base + codes.length) t

end Sys2Proof
end

