-- ==== Sys2Proof/Machine/VecAlu.lean ====
section
/-! DEFINITION. The arithmetic of the vector engine on single elements and on registers seen as lists of
elements (R182 to R200), and the counter-based generator G (R199). -/

namespace Sys2Proof

/-- A vector register (R134). -/
abbrev VReg := BitVec 2048
/-- A mask register (R134). -/
abbrev MReg := BitVec 256

/-- R182: element width of an EW code; 0 for the code that is not valid. -/
def ewWidth : Nat → Nat
  | 0 => 8 | 1 => 16 | 2 => 32 | _ => 0

/-- R182: the elements of a register as codes of width `w`. -/
def vElems (w : Nat) (v : VReg) : List Nat := (List.range (2048 / w)).map (fun e => bits v.toNat (w * e) w)

/-- The register that a list of codes of width `w` spells. -/
def vOfElems (w : Nat) (l : List Nat) : VReg := BitVec.ofNat 2048 (packCodes w l)

/-- R182: the floating-point type at an EW code with FUNC[0]; none at 8 bits. -/
def vFloat (ew : Nat) (fp16 : Bool) : Option Fmt :=
  if ew = 2 then some .fp32 else if ew = 1 then some (if fp16 then .fp16 else .bf16) else none

/-- R183: which elements are active: below VL and selected by the mask, or by its inverse. -/
def activeList (n vl : Nat) (m : MReg) (minv : Bool) : List Bool :=
  (List.range n).map (fun e => decide (e < vl) && (m.getLsbD e != minv))

/-- R183: a V destination takes results in active elements and keeps the rest. -/
def mergeActive (act : List Bool) (old new : List Nat) : List Nat :=
  (List.zipWith (fun (p : Bool × Nat) n => if p.1 then n else p.2) (List.zip act old) new)

/-- R183: an M destination: active bits take results, other bits below VL keep, bits from VL on are 0. -/
def mergeMask (n vl : Nat) (act : List Bool) (old : MReg) (new : List Bool) : MReg :=
  BitVec.ofNat 256 (packCodes 1 ((List.range n).map (fun e =>
    if e < vl then (if (if act.getD e false then new.getD e false else old.getLsbD e) then 1 else 0) else 0)))

/-- The signed integer a code of width `w` spells. -/
def sInt (w c : Nat) : Int := if c % 2 ^ w < 2 ^ (w - 1) then (c % 2 ^ w : Nat) else (c % 2 ^ w : Nat) - 2 ^ w

/-- The code of width `w` of an integer, modulo 2^w. -/
def intCode (w : Nat) (i : Int) : Nat := (i % (2 ^ w : Nat)).toNat

/-- Integer square root by halving steps: the largest r with r * r at most n, r below 2^fuel. -/
def isqrtGo (n : Nat) : Nat → Nat → Nat
  | 0, r => r
  | b + 1, r => let t := r + 2 ^ b; isqrtGo n b (if t * t ≤ n then t else r)

/-- R186: the correctly rounded quotient; NaN for 0 / 0 and infinity over infinity, infinity for x / 0. -/
def Fmt.div (f : Fmt) (a b : FVal) : FVal :=
  match a, b with
  | .nan, _ => .nan
  | _, .nan => .nan
  | .inf _, .inf _ => .nan
  | .inf x, .fin n _ _ => .inf (x != n)
  | .fin n _ _, .inf y => .fin (n != y) 0 0
  | .fin n1 m1 e1, .fin n2 m2 e2 =>
    let neg := n1 != n2
    if m2 = 0 then (if m1 = 0 then .nan else .inf neg)
    else if m1 = 0 then .fin neg 0 0
    else
      -- enough quotient bits for every type, and a sticky bit below them
      let k := 30 + Nat.log2 m2
      let num := m1 * 2 ^ k
      let q := num / m2
      (f.roundFin neg (2 * q + (if num % m2 = 0 then 0 else 1)) (e1 - e2 - k - 1)).1

/-- R186: the correctly rounded square root. -/
def Fmt.sqrt (f : Fmt) (a : FVal) : FVal :=
  match a with
  | .nan => .nan
  | .inf n => if n then .nan else .inf false
  | .fin n m e =>
    if m = 0 then .fin n 0 0
    else if n then .nan
    else
      let (m1, e1) := if e % 2 = 0 then (m, e) else (2 * m, e - 1)
      let big := m1 * 2 ^ 64
      let r := isqrtGo big (Nat.log2 big / 2 + 1) 0
      (f.roundFin false (2 * r + (if r * r = big then 0 else 1)) (e1 / 2 - 32 - 1)).1

/-- Whether a is below b in value; infinities included, NaNs never. Zeros of both signs are equal. -/
def FVal.lt (a b : FVal) : Bool :=
  match a, b with
  | .nan, _ => false
  | _, .nan => false
  | .inf x, .inf y => x && !y
  | .inf x, .fin _ _ _ => x
  | .fin _ _ _, .inf y => !y
  | .fin n1 m1 e1, .fin n2 m2 e2 => decide ((sumExact n1 m1 e1 (!n2) m2 e2).1 < 0)

/-- Whether a equals b in value; a NaN equals nothing. -/
def FVal.eqv (a b : FVal) : Bool :=
  a != .nan && b != .nan && !FVal.lt a b && !FVal.lt b a

/-- R186: the minimum; -0 counts below +0, NaN if either is NaN. -/
def FVal.min2 (a b : FVal) : FVal :=
  if a = .nan || b = .nan then .nan
  else if FVal.lt a b then a else if FVal.lt b a then b else if a.sign then a else b

/-- R186: the maximum; as the minimum. -/
def FVal.max2 (a b : FVal) : FVal :=
  if a = .nan || b = .nan then .nan
  else if FVal.lt b a then a else if FVal.lt a b then b else if a.sign then b else a

/-- R186: a times b plus c with one rounding. -/
def Fmt.fma (f : Fmt) (a b c : FVal) : FVal := (f.add (FVal.mul a b) c).1

/-- R186: a compare by its condition code; 6 and 7 name none. -/
def cmpF (cond : Nat) (a b : FVal) : Bool :=
  match cond with
  | 0 => FVal.eqv a b
  | 1 => !FVal.eqv a b
  | 2 => FVal.lt a b
  | 3 => FVal.lt a b || FVal.eqv a b
  | 4 => FVal.lt b a
  | _ => FVal.lt b a || FVal.eqv a b

/-- R186: an integer compare by its condition code. -/
def cmpI (cond : Nat) (a b : Int) : Bool :=
  match cond with
  | 0 => a = b | 1 => a != b | 2 => decide (a < b) | 3 => decide (a ≤ b) | 4 => decide (b < a) | _ => decide (b ≤ a)

/-- The integer a code stands for: unsigned or signed. -/
def elemInt (uns : Bool) (w c : Nat) : Int := if uns then (c : Int) else sInt w c

-- ---------------------------------------------------------------- R187

/-- Fixed-point scale of the reference computations: 2^-320. -/
def refBits : Nat := 320

/-- ln 2 times 2^320, from the series of 1/(n 2^n), 330 terms. -/
def ln2Fix : Nat :=
  (List.range 330).foldl (fun s k => s + 2 ^ refBits / ((k + 1) * 2 ^ (k + 1))) 0

/-- e^t times 2^320 for fixed-point 0 ≤ t < 1, by its power series. -/
def expFix (t : Nat) : Nat :=
  ((List.range 80).foldl (fun (p : Nat × Nat) k =>
    let term := p.1 * t / 2 ^ refBits / (k + 1)
    (term, p.2 + term)) (2 ^ refBits, 2 ^ refBits)).2

/-- log2 of y times 2^320, for fixed-point 1 ≤ y < 2, bit by bit by squaring; 60 bits. -/
def log2Fix (y : Nat) : Nat :=
  ((List.range 60).foldl (fun (p : Nat × Nat) k =>
    let sq := p.1 * p.1 / 2 ^ refBits
    if 2 ^ (refBits + 1) ≤ sq then (sq / 2, p.2 + 2 ^ (refBits - 1 - k)) else (sq, p.2)) (y, 0)).2

/-- A magnitude times 2^320, as a natural number rounded down. -/
def toFix (m : Nat) (e : Int) : Nat := m * 2 ^ (e + refBits).toNat / 2 ^ (-(e + refBits)).toNat

/-- A reference magnitude m times 2^e cut to FP32's significand, moved by an offset of at most `bound` places about
the two nearest significands: from -(bound - 1) to bound. -/
def nearRef (fn code bound : Nat) (neg : Bool) (m : Nat) (e : Int) : FVal :=
  if m = 0 then .fin neg 0 0
  else
    let q : Int := (Nat.log2 m : Int) + e - 23
    let a := roundMag .towardZero m e q
    let off := Config.approxOffset fn code % (2 * bound : Nat) - (bound - 1 : Int)
    -- never past the largest finite value: an infinity lies outside the bound
    let m2 := ((a : Int) + off).toNat
    if magLt 0xFFFFFF 104 m2 q then .fin neg 0xFFFFFF 104 else (Fmt.fp32.roundFin neg m2 q).1

/-- The approximating functions of R187. -/
inductive ApproxFn where
  | exp2 | log2 | rcp | rsqrt | tanh
  deriving DecidableEq, Repr

/-- The function's number for `Config.approxOffset`. -/
def ApproxFn.num : ApproxFn → Nat
  | .exp2 => 0 | .log2 => 1 | .rcp => 2 | .rsqrt => 3 | .tanh => 4

/-- R187: the FP32 result for an input, by its FP32 code and its value: the special inputs exactly, every other input within the bound. -/
def approx32 (fn : ApproxFn) (code : Nat) (v : FVal) : FVal :=
  match v with
  | .nan => .nan
  | .inf n =>
    match fn with
    | .exp2 => if n then .fin false 0 0 else .inf false
    | .log2 => if n then .nan else .inf false
    | .rcp => .fin n 0 0
    | .rsqrt => if n then .nan else .fin false 0 0
    | .tanh => .fin n 1 0
  | .fin n m e =>
    match fn with
    | .exp2 =>
      if m = 0 then nearRef fn.num code 2 false 1 0
      else
        let k : Int := (Nat.log2 m : Int) + e
        if 7 ≤ k then (if n then .fin false 0 0 else .inf false)
        else
          let fx := toFix m e
          let ip := fx / 2 ^ refBits
          let fr := fx % 2 ^ refBits
          let (i, f) : Int × Nat :=
            if n then (if fr = 0 then (-(ip : Int), 0) else (-(ip : Int) - 1, 2 ^ refBits - fr)) else ((ip : Int), fr)
          if i < -126 then .fin false 0 0
          else nearRef fn.num code 2 false (expFix (f * ln2Fix / 2 ^ refBits)) (i - refBits)
    | .log2 =>
      if m = 0 then .inf true
      else if n then .nan
      else if m = 2 ^ (-e).toNat && e ≤ 0 || (m * 2 ^ e.toNat = 1 && 0 ≤ e) then .fin false 0 0
      else
        let k : Int := (Nat.log2 m : Int) + e
        let y := toFix m (e - k)
        let l := log2Fix y
        let total : Int := k * 2 ^ refBits + l
        if k = 0 || k = -1 || (k = 1 && m = 2 ^ Nat.log2 m) then
          -- inputs in [0.5, 2]: absolute error at most 2^-22; an offset of at most 2^22 parts of 2^-45
          let off := Config.approxOffset fn.num code % (2 ^ 23 : Nat) - 2 ^ 22
          let t := total + off * 2 ^ (refBits - 45)
          (Fmt.fp32.roundFin (decide (t < 0)) t.natAbs (-(refBits : Int))).1
        else nearRef fn.num code 2 (decide (total < 0)) total.natAbs (-(refBits : Int))
    | .rcp =>
      if m = 0 then .inf n
      else nearRef fn.num code 1 n (2 ^ 128 / m) (-128 - e)
    | .rsqrt =>
      if m = 0 then .inf n
      else if n then .nan
      else
        let (m1, e1) := if e % 2 = 0 then (m, e) else (2 * m, e - 1)
        let big := 2 ^ 256 / m1
        nearRef fn.num code 1 false (isqrtGo big (Nat.log2 big / 2 + 1) 0) (-(e1 / 2) - 128)
    | .tanh =>
      if m = 0 then .fin n 0 0
      else if !magLt m e 9 0 then .fin n 1 0
      else
        -- with w = e^(-2|a|): tanh |a| = (1 - w) / (1 + w); e^(-2|a|) as (e^(-t))^32 with t = |a| / 16
        let t := toFix m e / 16
        let inv := 2 ^ (2 * refBits) / expFix t
        let w := (List.range 32).foldl (fun p _ => p * inv / 2 ^ refBits) (2 ^ refBits)
        nearRef fn.num code 2 n ((2 ^ refBits - w) * 2 ^ refBits / (2 ^ refBits + w)) (-(refBits : Int))

/-- R187 at an element type: the FP32 result of the input, rounded once to the type; every BF16 and FP16 value is an FP32 one. -/
def approxElem (f : Fmt) (fn : ApproxFn) (code : Nat) : Nat :=
  let v := f.read code
  f.encode (f.round (approx32 fn (Fmt.fp32.encode v) v)).1

-- ---------------------------------------------------------------- R195, R196

/-- R195: one level of the fixed tree: neighbours combined. -/
def pairUp {α : Type} (op : α → α → α) : List α → List α
  | a :: b :: t => op a b :: pairUp op t
  | l => l

/-- R195: the tree's result over a list whose length is 2^levels. -/
def treeFold {α : Type} (op : α → α → α) (d : α) : Nat → List α → α
  | 0, l => l.getD 0 d
  | k + 1, l => treeFold op d k (pairUp op l)

/-- The number of levels of a tree with at least `n` leaves. -/
def treeLevels (n : Nat) : Nat := if n ≤ 1 then 0 else Nat.log2 (n - 1) + 1

/-- R196: the doubling scan over a list, from distance `2^k` on. -/
def scanGo {α : Type} (op : α → α → α) (n : Nat) : Nat → Nat → List α → List α
  | 0, _, l => l
  | fuel + 1, k, l =>
    if 2 ^ k < n then
      let d := 2 ^ k
      scanGo op n fuel (k + 1) (l.take d ++ List.zipWith op l (l.drop d))
    else l

/-- R196: the doubling scan. -/
def scanList {α : Type} (op : α → α → α) (l : List α) : List α := scanGo op l.length 10 0 l

-- ---------------------------------------------------------------- R199, R200

/-- Rotate a 64-bit number left. -/
def rotl64 (k s : Nat) : Nat :=
  let t := s % 64
  (k * 2 ^ t) % 2 ^ 64 + k / 2 ^ (64 - t)

/-- R199: the generator G of key `k` and counter `n`, a 32-bit word. -/
def genG (k n : Nat) : Nat :=
  let k := k % 2 ^ 64
  let x0 := Nat.xor ((n * 2 ^ 16) % 2 ^ 64) k
  let x := (List.range 3).foldl (fun x r =>
    let x := Nat.xor x (x / 2 ^ 29)
    let x := x * 0xE7A31B5D4C92F0C1 % 2 ^ 64
    (x + rotl64 k (21 * r + 7)) % 2 ^ 64) x0
  Nat.xor x (x / 2 ^ 32) % 2 ^ 32

/-- R104: the 16-bit draw of destination element `i` under key `k` and counter base `c0`. -/
def shDraw (k c0 i : Nat) : Nat := genG k ((c0 + i) % 2 ^ 48) / 2 ^ 16

/-- R200: the value VRAND gives one element. -/
def randElem (ew : Nat) (form : Bool) (u : Nat) : Nat :=
  match ew with
  | 2 => if form then Fmt.fp32.encode (.fin false (u / 2 ^ 9) (-23)) else u
  | 1 => u / 2 ^ 16
  | _ => u / 2 ^ 24

end Sys2Proof
end

