-- ==== Sys2Proof/Machine/TypesNeedle.lean ====
section
/-! DEFINITION. The state of the tick, of admission, of stitches and of a needle (chapters 02, 03, 06, 07
and the DMA engines of chapter 09), as plain data. -/

namespace Sys2Proof.Machine

/-- The phase of the tick, TICK_STATE.PHASE (R28, R29). -/
inductive Phase where
  | admission | run | guardBand | commit
  deriving DecidableEq, Repr

/-- A tick setting staged by TICK_SET (R53): from tick `at` on, this period code and guard band. -/
structure TickStage where
  at_ : Nat
  period : Nat
  guardUs : Nat
  deriving DecidableEq, Repr

/-- The tick (R26 to R28, R48 to R55). -/
structure TickState where
  /-- 48-bit tick number; its low 8 bits are the epoch. -/
  number : Nat
  phase : Phase
  /-- TICK_CFG.PERIOD_CODE, 7 bits: T = 500 us + 125 us times the code. -/
  periodCode : Nat
  /-- TICK_CFG.GUARD_US, 9 bits. -/
  guardUs : Nat
  /-- TICK_STATE.MASTER. -/
  isMaster : Bool
  /-- TICK_STATE.FREE_RUN. -/
  freeRun : Bool
  /-- TICK_STATE.MASTER_POS, 4 bits. -/
  masterPos : Nat
  /-- TICK_NOW_HI as the last read of TICK_NOW_LO latched it, 16 bits. -/
  hiLatch : Nat
  staged : List TickStage
  /-- The tick timer (R353): the instant the tick began, in ns since READY. -/
  startNs : Nat
  /-- Whether doorbells now belong to the next tick (R40: the cut-off has passed). -/
  cutoff : Bool
  /-- The master's mark of this tick (R51, R421): the next tick number and its PERIOD_CODE. -/
  markNext : Option (Nat × Nat)
  /-- The least time until C, in ns, that a needle has read in this tick (R146): time does not run backwards. -/
  leftMin : Nat
  /-- A commit has updated the registers that are updated at each commit (R440, R443). -/
  committed : Bool
  /-- The commit of this tick is over and the next tick has not begun: what arises now counts to the next tick (R541). -/
  past : Bool
  deriving DecidableEq, Repr

/-- A stitch: one run of one program on one needle within one tick (R57). -/
structure Stitch where
  /-- Order of creation on the device; the last key of R61 within a context. -/
  id : Nat
  ctx : Nat
  program : Nat
  /-- Class used, the ceiling applied (R59), and the class asked for: its descriptor's, or 7 where Olukor created it. -/
  cls : Nat
  want : Nat
  age : Nat
  tag : Nat
  arg0 : DWord
  arg1 : DWord
  arg2 : DWord
  panelMask : Nat
  repeatable : Bool
  /-- The stitch list's spool index, and none for a stitch Olukor created. -/
  list : Option Nat
  /-- Index of the entry in its list. -/
  entry : Nat
  /-- The requests whose step a stitch of Olukor runs (R340). -/
  requests : List Nat
  /-- Admissions that skipped it by R62. -/
  skips : Nat
  /-- The granule of a stock copy it waits for: image and granule (R330). -/
  heldFor : Option (Nat × Nat)
  deriving DecidableEq, Repr

/-- A segment descriptor (R147). -/
structure Seg where
  valid : Bool
  kind : Nat
  r : Bool
  w : Bool
  x : Bool
  hint : Nat
  region : Nat
  length : Nat
  base : Nat
  garment : Nat
  pos : Nat
  board : Nat
  pseg : Nat
  deriving DecidableEq, Repr

/-- How a stitch ended before its commit. -/
inductive StitchEnd where
  /-- TIE executed (R153). -/
  | tied
  /-- A fault of R155: its kind code and the index of the faulting instruction. -/
  | faulted (kind pc : Nat)
  /-- Ended at once with no fault kind: a fenced, poisoned or held function was used (R330, R549). -/
  | withdrawn
  deriving DecidableEq, Repr

/-- An outstanding KWAIT (R240): the knot, the operand, the give-up deadline in ns (0: C) and the X register that
takes the result. -/
structure KWaitRec where
  knot : Nat
  operand : DWord
  giveUp : Nat
  rd : Nat
  /-- Its place in the order of pushes. -/
  seq : Nat
  /-- The knot's state when a change satisfied the wait (R236, R240): the result is owed. -/
  met : Option Nat
  deriving DecidableEq, Repr

/-- A keyed contribution sent by ACC_SEND (R365, R366, R381): where it went, its key, its number (that of its first message), the
checksums the move path formed, the order of its push, the messages not yet acknowledged, whether an addition was discarded, and the
message of its end notice once that has left (R371). -/
structure KeyedSend where
  dest : Nat
  /-- It went through a PEER segment; then `garment` names the garment, else the context. -/
  peer : Bool
  garment : Nat
  seg : Nat
  off : Nat
  key : Nat
  msg : Nat
  sum : Nat
  abs : Nat
  order : Nat
  left : List Nat
  discarded : Bool
  endMsg : Option Nat
  deriving DecidableEq, Repr

/-- A stitch started on a needle, until its commit (R34 to R36, R152 to R155). -/
structure RunStitch where
  st : Stitch
  needle : Nat
  ended : Option StitchEnd
  /-- USER of TIE. -/
  user : Nat
  /-- SH_FLAGS of the stitch (R107, R146). -/
  shFlags : ShFlags
  /-- ACC_FLAGS: OR of the flags of the tiles used (R116). -/
  accFlags : BitVec 4
  /-- Splits caused, saturating at 65,535 (R114). -/
  splits : Nat
  noncanon : Bool
  wroteOut : Bool
  remoteSent : Bool
  /-- A function it used was fenced, poisoned or lost: dropped with WITHDRAWN (R36). -/
  withdraw : Bool
  /-- STOCK_HOLD (R330). -/
  stockHold : Option (Nat × Nat)
  /-- Remote operations and context-space writes not acknowledged, by twice the message number, plus 1 for a knot
  operation. -/
  unacked : List Nat
  /-- What each was sent by: the vector operation, told by its first message's number, and the place in the order of pushes (R142, R190). -/
  sentBy : FMap (Option Nat × Nat)
  /-- DMAs it issued on D0 and D1, modulo 256 (R221). -/
  dmaSeq0 : Nat
  dmaSeq1 : Nat
  /-- The cycles since its start that it last read (R146). -/
  cycles : Nat
  /-- Barriers it arrived at in phases that have not filled: knot index and arrivals (R241). -/
  arrivals : List (Nat × Nat)
  /-- Keyed contributions it sent (R365). -/
  keyed : List KeyedSend
  /-- Channels its accesses used (R305). -/
  channels : List Nat
  /-- Members that messages of the stitch went to (R429). -/
  peers : List Nat
  deriving DecidableEq, Repr

/-- The rows of a weight slab (R159, R164). -/
structure Slab where
  fmt : Nat
  klen : Nat
  nlen : Nat
  /-- Block size of the slab's scales; 0 for a slab without a plane. -/
  block : Nat
  rows : List (List Nat)
  scales : List (List Nat)
  deriving DecidableEq, Repr

/-- An accumulator tile: its cells, by 128 r + c, a cleared cell unlisted, and its control state (R173). -/
structure Tile where
  cells : FMap Cell
  live : Bool
  canon : Bool
  hold : Bool
  isOpen : Bool
  fmtA : Nat
  fmtB : Nat
  pos : Nat
  cursor : Nat
  row0 : Nat
  rows : Nat
  deriving DecidableEq, Repr

/-- The cleared tile, not live (R172). -/
def Tile.cleared : Tile :=
  { cells := [], live := false, canon := false, hold := false, isOpen := false, fmtA := 0, fmtB := 0, pos := 0,
    cursor := 0, row0 := 0, rows := 0 }

/-- A DMA descriptor's fields (R222). -/
structure DmaDesc where
  src : Nat
  dst : Nat
  elems : Nat
  rows : Nat
  srcPitch : Nat
  dstPitch : Nat
  scw : Nat
  srcHint : Nat
  dstHint : Nat
  lock : Bool
  fence : Bool
  deadline : Nat
  ctrPitch : Nat
  sscale : Nat
  dscale : Nat
  sscalePitch : Nat
  dscalePitch : Nat
  key : Nat
  ctr : Nat
  reserved : Nat
  deriving DecidableEq, Repr

/-- A DMA slot (R221, R226). -/
structure DmaSlot where
  desc : DmaDesc
  seq : Nat
  stitch : Nat
  started : Bool
  done : Bool
  status : Nat
  shFlags : ShFlags
  bytes : Nat
  /-- Index of the DMA instruction in its image, for a fault (R155). -/
  pc : Nat
  /-- Writes to peers not acknowledged, by message number. -/
  msgs : List Nat
  /-- Bytes and flags that a DMASTAT has shown as reached (R226). -/
  acked : Nat
  seen : ShFlags
  /-- The place of the DMA in the order of pushes (R142). -/
  order : Nat
  deriving DecidableEq, Repr

/-- One instruction, or a QSYNC token (group 0x4), waiting in a queue, with what its push captured (R137, R138, R142): its
group, op and fields, the values of its X sources, VL and EW, the X-window's registers where it addresses them, and the
operand or DMA descriptor the scalar unit read at the push (R161, R221). -/
structure Queued where
  group : Nat
  op : Nat
  f : FmtR
  /-- QSYNC's mask. -/
  mask : Nat
  x1 : DWord
  x2 : DWord
  x3 : DWord
  xd : DWord
  xwin : FMap DWord
  vl : Nat
  ew : Nat
  desc : List Byte
  /-- Index of the instruction in its image, for a fault (R155). -/
  pc : Nat
  /-- Its place in the order of pushes, for a QSYNC token (R142). -/
  seq : Nat
  deriving DecidableEq, Repr

/-- A needle (R128, R134, R159). -/
structure Needle where
  /-- The context whose image it holds. -/
  ctx : Option Nat
  /-- The stitches admitted for this tick, in order, not started. -/
  admitted : List Stitch
  /-- The stitch it runs. -/
  run : Option RunStitch
  pc : Nat
  /-- Instruction store: the image's words by index, and its length in instructions (R151). -/
  image : FMap DWord
  imageLen : Nat
  /-- The program and the table version the store holds (R151). -/
  imageOf : Option (Nat × Nat × Nat)
  x : FMap DWord
  /-- X registers pending a queued write (R139). -/
  xPend : List Nat
  v : FMap VReg
  m : FMap MReg
  vl : Nat
  ew : Nat
  tiles : FMap Tile
  w0 : Option Slab
  w1 : Option Slab
  sleeve : Mem
  d0 : FMap DmaSlot
  d1 : FMap DmaSlot
  /-- Matrix-queue entries that could not start yet. -/
  mq : List Queued
  /-- A QSYNC token at the head of the vector queue, with the vector instructions behind it (R142). -/
  vq : List Queued
  kwait : Option KWaitRec
  /-- Remote knot operations that wait for their result (R237): message number, OP, the X register and the operand. -/
  knotOps : List (Nat × Nat × Nat × Nat)
  /-- Pushes that had to wait, and tokens, in this stitch: the order QSYNC names (R142). -/
  pushes : Nat
  /-- Segment descriptors and Patterns in force since dispatch (R150, R148). -/
  segs : FMap Seg
  segLens : FMap Nat
  fenced : Bool
  selfTest : Bool
  /-- NEEDLE_FENCE took effect at this commit: the needle is fenced from the next (R569). -/
  fenceFrom : Option Nat
  /-- The self-test that runs: its command; and its end, whether it passed and the banks that failed (R570). -/
  testCmd : Option Nat
  testEnd : Option (Bool × List Nat)
  /-- Sleeve banks fenced (R132). -/
  banks : List Nat
  /-- Corrected Sleeve errors (R132). -/
  corrected : Nat
  deriving DecidableEq, Repr

/-- A needle right after reset (R134, R136: nothing of a context is left). -/
def Needle.reset : Needle :=
  { ctx := none, admitted := [], run := none, pc := 0, image := [], imageLen := 0, imageOf := none,
    x := [], xPend := [], v := [], m := [], vl := 64, ew := 2, tiles := [], w0 := none, w1 := none, sleeve := [],
    d0 := [], d1 := [], mq := [], vq := [], kwait := none, knotOps := [], pushes := 0, segs := [], segLens := [], fenced := false,
    selfTest := false, fenceFrom := none, testCmd := none, testEnd := none, banks := [], corrected := 0 }

/-- A saved needle image of a context (R156): the live Sleeve bytes and the live tiles. -/
structure SaveImage where
  sleeve : Mem
  tiles : FMap Tile
  /-- When the context left the needle, for the replacement order of R156. -/
  left : Nat
  deriving DecidableEq, Repr

/-- The power and heat state of one panel (R68, R72 to R77, R82). -/
structure Panel where
  /-- PANEL_THERM.FREQ_CODE in force, 0 to 48. -/
  freqCode : Nat
  /-- The value a read returns before the commit (RWC). -/
  freqStaged : Nat
  /-- TEMP_C, 8 bits. -/
  tempC : Nat
  /-- FORECAST_C, 8 bits. -/
  forecastC : Nat
  /-- d_p in thousandths, 500 to 1000. -/
  derate : Nat
  hot : Bool
  /-- PANEL_THERM.DROOP. -/
  droop : Bool
  /-- The rail is below 97 % and the clock stretched (R75). -/
  stretched : Bool
  /-- The instant of this tick at which a stretch that lasts began, in ns. -/
  stretchAt : Nat
  /-- Nanoseconds of stretch in this tick (R76). -/
  stretchNs : Nat
  /-- The governor's factor in sixteenths (R77); 16 for none. -/
  governor : Nat
  /-- I_p in mW (R68). -/
  idleMw : Rat
  /-- R_p in mK/W and tau_p in microseconds, calibrated at bring-up (R72). -/
  rMilliK : Nat
  tauUs : Nat
  /-- Hottest hotspot reading, in thousandths of a degree (R72). -/
  hotspot : Int
  deriving DecidableEq, Repr

/-- An estimate of a pair of context and program (R65): e in mJ and c in cycles, as rationals, and the commit that last
admitted the pair. -/
structure Estimate where
  ctx : Nat
  program : Nat
  e : Rat
  c : Rat
  last : Nat
  deriving DecidableEq, Repr

/-- The needle a placement plan gives a context (R31), and what admission placed there. -/
structure PlanEntry where
  needle : Nat
  ctx : Nat
  deriving DecidableEq, Repr

/-- Admission, energy and heat (chapter 03). -/
structure Admission where
  pending : List Stitch
  plan : List PlanEntry
  nextId : Nat
  estimates : List Estimate
  /-- POWER_CFG in force: LIMIT_10W, RESERVE_PCT, TLIM_C; and as staged. -/
  limit : Nat
  reserve : Nat
  tlim : Nat
  limitStaged : Nat
  reserveStaged : Nat
  tlimStaged : Nat
  /-- X, the carried excess, in mJ (R69). -/
  carry : Rat
  /-- Module-level rails and the module's energy of the last tick, in mJ. -/
  railsMj : Rat
  /-- The period, in ns, of the tick that the rails' energy was measured in (R69). -/
  measuredNs : Nat
  energyMj : Rat
  budgetMj : Rat
  /-- Coolant inlet temperature in thousandths of a degree (R72). -/
  inletMilliC : Int
  panels : FMap Panel
  /-- The governor acted in this tick (R77, R84). -/
  governorActed : Bool
  /-- The last tick in which it acted (R518). -/
  governedAt : Option Nat
  /-- The spool of the admission trace (R84). -/
  trace : Option Nat
  /-- Totals of the last admission, for the trace. -/
  charged : Rat
  admittedN : Nat
  cutClass : Nat
  stop : Nat
  deferBudget : Nat
  deferPlace : Nat
  deriving DecidableEq, Repr

end Sys2Proof.Machine
end

