-- ==== Sys2Proof/Machine/TypesMemory.lean ====
section
/-! DEFINITION. The state of the Lining's arbiters, of knots and spools, of the memory controllers, of Patterns and the
Hem tier, of the Bolt and of the shared stock (chapters 09 to 13), as plain data. -/

namespace Sys2Proof.Machine

/-- One arbiter on a message's way (R208): its site, the input code there, and the input itself, device-wide (R217). -/
structure Hop where
  site : Nat
  input : Nat
  port : Nat
  deriving DecidableEq, Repr

/-- A request at an arbiter (R211 to R216). Times are in half nanoseconds since C of the tick before. -/
structure ArbReq where
  id : Nat
  input : Nat
  /-- The input it lies in, device-wide (R217). -/
  port : Nat
  dl : Nat
  beats : Nat
  lock : Bool
  /-- Open row at a memory channel (second key of R212). -/
  openRow : Bool
  arrival : Nat
  /-- When its present wait began: the request, or the last revocation (R228). -/
  since : Nat
  /-- The first beat boundary after that instant. -/
  firstB : Nat
  /-- How long one of its beats takes. -/
  beat : Nat
  /-- The rest of the header (R211). -/
  ctx : Nat
  kind : Nat
  src : Attach
  dst : Attach
  /-- A copy of a channel move: the burst slots it may take in 1 µs while other traffic waits (R302); 0 for any other message. -/
  share : Nat
  /-- The arbiters still ahead of it (R209). -/
  next : List Hop
  deriving DecidableEq, Repr

/-- The counters of one input of an arbiter (R228). -/
structure ArbCtr where
  grants : Nat
  revokes : Nat
  waits : Nat
  waitNs : Nat
  maxWait : Nat
  late : Nat
  locked : Nat
  deriving DecidableEq, Repr

/-- Counters at READY. -/
def ArbCtr.zero : ArbCtr := { grants := 0, revokes := 0, waits := 0, waitNs := 0, maxWait := 0, late := 0, locked := 0 }

/-- An arbiter (R212): the messages whose last beat is on its way here (R209), the requests that wait, the owner with the instant its
transfer began, the instant reached and the counters by input. -/
structure Arbiter where
  coming : List ArbReq
  waiting : List ArbReq
  owner : Option (ArbReq × Nat)
  now : Nat
  counters : FMap ArbCtr
  /-- Transfers completed in this tick: their ids, oldest first. -/
  delivered : List Nat
  /-- The last window of 1 µs in which a move's copies were granted, and the burst slots they took in it (R302). -/
  window : Nat
  copied : Nat
  deriving DecidableEq, Repr

/-- An arbiter without traffic. -/
def Arbiter.idle : Arbiter := { coming := [], waiting := [], owner := none, now := 0, counters := [], delivered := [], window := 0, copied := 0 }

/-- The type and state of a knot (R230). -/
inductive KnotState where
  /-- VALUE, 48 bits. -/
  | counter (value : BitVec 48)
  | barrier (target arrived phase : Nat)
  | event (flag : Bool)
  deriving DecidableEq, Repr

/-- A signaller of a knot (R243): local by context and program, remote by board and position. -/
inductive Signaller where
  | here (ctx program : Nat)
  | remote (board pos : Nat)
  deriving DecidableEq, Repr

/-- An open knot (R230 to R233, R243). -/
structure Knot where
  gen : Nat
  owner : Nat
  gknot : Bool
  state : KnotState
  changes : Nat
  /-- The last four distinct signallers, newest first. -/
  signallers : List Signaller
  /-- Arrivals since the last phase change: the stitch and how many (R241). -/
  arrivals : List (Nat × Nat)
  deriving DecidableEq, Repr

/-- A wait edge found at a commit (R243). -/
structure WaitEdge where
  ctx : Nat
  program : Nat
  knot : Nat
  deriving DecidableEq, Repr

/-- A cycle under watch (R244): its edges, the commits in a row it was found, whether reported. -/
structure KnotCycle where
  id : Nat
  edges : List WaitEdge
  remote : Bool
  /-- More edges were found than examined (R245). -/
  trunc : Bool
  seen : Nat
  reported : Bool
  last : Nat
  deriving DecidableEq, Repr

/-- An open spool (R246 to R250). -/
structure Spool where
  gen : Nat
  base : Nat
  mirror : Nat
  pidx : Nat
  cidx : Nat
  esize : Nat
  log2n : Nat
  kind : Nat
  port : Nat
  /-- Owning context; none for the management spools. -/
  owner : Option Nat
  vector : Nat
  irq : Bool
  /-- Records not written since the last one (R247). -/
  missed : Nat
  /-- Event sequence number (R556). -/
  seq : Nat
  deriving DecidableEq, Repr

/-- A stitch list (R38, R60): the head entry's state. -/
structure ListState where
  held : Bool
  /-- The head has been read and is pending or running. -/
  headTaken : Bool
  /-- The commit at which the head became the head, once it has (R60). -/
  age : Option Nat
  drops : Nat
  /-- A completion slot is reserved for the head (R449). -/
  slot : Bool
  /-- The read of the head failed (R251) or it was refused (R58): its completion waits for the next commit. -/
  refused : Option Nat
  deriving DecidableEq, Repr

/-- States of a channel, coded by MEM_STATUS.STATE (R286, R296). -/
inductive ChState where
  | online | degraded | moving | offline | gusset | fenced | training
  deriving DecidableEq, Repr

/-- STATE code of R286. -/
def ChState.code : ChState → Nat
  | .online => 0 | .degraded => 1 | .moving => 2 | .offline => 3 | .gusset => 4 | .fenced => 5 | .training => 6

/-- A run of channel chunks in use, and by what (R292, R295). -/
structure ChunkRun where
  start : Nat
  len : Nat
  deriving DecidableEq, Repr

/-- What the repair record in the Bolt's service area keeps of a channel (R272): the pins that its spare lanes serve, the pins found failing at
training that start erased, and the rows repaired softly. -/
structure ChanRepair where
  spare0 : Option Nat
  spare1 : Option Nat
  erased : List Nat
  sppr : List (Nat × Nat × Nat)
  deriving DecidableEq, Repr

/-- The record of a channel that was never repaired. -/
def ChanRepair.none_ : ChanRepair := { spare0 := none, spare1 := none, erased := [], sppr := [] }

/-- The repair record (R272): the channels' repairs and the list of gussets (R298), none before the first bring-up chose it. -/
structure RepairRecord where
  chans : FMap ChanRepair
  gussets : Option (List Nat)
  deriving DecidableEq, Repr

/-- A memory channel (R267 to R272, R286, R296). -/
structure Channel where
  state : ChState
  spare0 : Option Nat
  spare1 : Option Nat
  erased : List Nat
  corrLimit : Nat
  moveWanted : Bool
  /-- The commit at which MOVE_WANTED began to wait for a gusset (R305). -/
  wantedAt : Option Nat
  /-- Pin sets of the last 64 corrected bursts, newest first (R269). -/
  pinSets : List (List Nat)
  /-- The poison table: burst indices (R267). -/
  poison : List Nat
  ceTotal : Nat
  /-- Corrected bursts by tick, of the last 1,000 ticks, newest first (R518). -/
  ceTicks : List (Nat × Nat)
  ueTotal : Nat
  /-- Reads of listed bursts (R266). -/
  poisonReads : Nat
  /-- Corrected bursts that erased pins do not explain, of the last 24 hours, with their ticks (R287). -/
  ceRows : List (Nat × Nat)
  /-- Hard-repair rows used, by 64 times the die plus the bank (R287). -/
  hppr : FMap Nat
  sppr : List (Nat × Nat × Nat)
  /-- Rows that held an uncorrectable burst, or needed unexplained corrections at three bursts within 24 hours (R287). -/
  badRows : List (Nat × Nat × Nat)
  keepDenied : Nat
  runs : List ChunkRun
  /-- The tick of the last gusset test that passed (R273, R297), and whether the pass under way found a bad burst. -/
  tested : Nat
  testBad : Bool
  /-- The Pincushion bank's fence: the channel runs without a Pincushion (R280). -/
  noPincushion : Bool
  /-- A repair or retraining command waits for its result: the command's number (R288). -/
  retrain : Option Nat
  /-- The burst that the scrub reads next (R273). -/
  scrubAt : Nat
  /-- The end of a training that takes effect at the commit: whether it passed (R300, R304). -/
  trainResult : Option Bool
  /-- Chunks that read as poison after their source was fenced during a move (R304). -/
  lost : List Nat
  deriving DecidableEq, Repr

/-- Hard-repair rows of one bank of a channel, of which it has 64 (R287): a DESIGN CHOICE, assumption 9. -/
def hpprPerBank : Nat := 4

/-- R287: hard-repair rows left for a bank. -/
def Channel.hpprLeft (c : Channel) (die bank : Nat) : Nat := hpprPerBank - FMap.getD c.hppr (64 * die + bank) 0

/-- R286, R287: hard-repair rows left in the channel. -/
def Channel.hpprFree (c : Channel) : Nat := 64 * hpprPerBank - (c.hppr.map Prod.snd).foldl (· + ·) 0

/-- A channel after bring-up: trained clean (R270). -/
def Channel.trained : Channel :=
  { state := .online, spare0 := none, spare1 := none, erased := [], corrLimit := 4, moveWanted := false, wantedAt := none,
    pinSets := [], poison := [], ceTotal := 0, ceTicks := [], ueTotal := 0, poisonReads := 0, ceRows := [], hppr := [], sppr := [], badRows := [], keepDenied := 0, runs := [], tested := 0, testBad := false, noPincushion := false, retrain := none,
    scrubAt := 0, trainResult := none, lost := [] }

/-- A Pincushion line, keyed by channel and burst (R276 to R279). -/
structure PcLine where
  owner : Option Nat
  keep : Bool
  dirty : Bool
  /-- Recency stamp: larger is more recent. -/
  stamp : Nat
  deriving DecidableEq, Repr

/-- A record of a controller's log ring (R285). -/
structure LogRec where
  tick : Nat
  kind : Nat
  source : Nat
  erasedUsed : Bool
  symbols : Nat
  channel : Nat
  burst : Nat
  pins : List Nat
  ctx : Nat
  ceTotal : Nat
  deriving DecidableEq, Repr

/-- A stack die: its temperature, and whether refresh is doubled and the command rate halved on its channels (R275). -/
structure Die where
  tempC : Nat
  refresh2 : Bool
  slow : Bool
  deriving DecidableEq, Repr

/-- A memory controller: its log ring, the records lost, its Pincushion lines by channel times 2^26 plus burst, and the
error counts of its 16 Pincushion banks (R276, R285, R542). -/
structure Controller where
  log : List LogRec
  lost : Nat
  lines : FMap PcLine
  /-- Ticks of the uncorrectable line errors and of the residue mismatches of each bank, newest first. -/
  bankErrors : FMap (List Nat)
  bankResidue : FMap (List Nat)
  bankFenced : List Nat
  stamp : Nat
  /-- The stack's twelve dies. -/
  dies : FMap Die
  deriving DecidableEq, Repr

/-- A controller without lines or records. -/
def Controller.empty : Controller := { log := [], lost := 0, lines := [], bankErrors := [], bankResidue := [], bankFenced := [], stamp := 0, dies := [] }

/-- A Pattern (R289, R290). -/
structure Pattern where
  spread : Nat
  place : Nat
  scratch : Bool
  unit : Nat
  hemGrant : Nat
  len : Nat
  /-- 1 stacks, 2 Hem. -/
  residence : Nat
  hemBase : Nat
  /-- Slot entries: channel and CHUNK_BASE. -/
  slots : List (Nat × Nat)
  deriving DecidableEq, Repr

/-- A Pattern staged by PATTERN_SET and not yet current (R292, R294). -/
structure PatternStage where
  pat : Pattern
  /-- Zeroing has ended: the tick whose cut-off follows its end, at whose commit the Pattern becomes current (R292). -/
  zeroed : Option Nat
  /-- The command whose completion waits, by its number; none where another command owns it. -/
  cmd : Option Nat
  deriving DecidableEq, Repr

/-- A Hem grant (R307). -/
structure Grant where
  port : Nat
  enc : Bool
  base : Nat
  len : Nat
  deriving DecidableEq, Repr

/-- A channel move (R299 to R304). -/
structure Move where
  src : Nat
  dst : Nat
  share : Nat
  /-- The copy set in the order of its copying: rising, and at the end the chunks that are copied again (R301); and the chunks marked copied. -/
  copySet : List Nat
  copied : List Nat
  /-- 1 KiB units of the chunk in hand that are acknowledged. -/
  units : List Nat
  /-- The drain ended before the cut-off: the remap is staged (R300). -/
  staged : Bool
  failed : Bool
  /-- The remap has been applied at this commit (R303). -/
  remapped : Bool
  deriving DecidableEq, Repr

/-- State of an image in the Bolt (R317). -/
inductive ImageState where
  | valid | installing | damaged
  deriving DecidableEq, Repr

/-- What an install that runs does with the installed version of its number (R319, R481, R573). -/
inductive InstallMode where
  | new | replace | repair
  deriving DecidableEq, Repr

/-- An image version in the Bolt, or an install under way (R313, R317 to R320, R573). -/
structure BoltImage where
  image : Nat
  version : Nat
  granules : Nat
  /-- The manifest: header, digest table and signature (R318). -/
  manifest : List Byte
  copies : Nat
  state : ImageState
  damaged : List Nat
  /-- Granules unreadable from one copy and not rewritten there: copy and granule (R334). -/
  bad : List (Nat × Nat)
  /-- Replaced by a newer version and kept for a stock map (R320). -/
  pinned : Bool
  /-- The granules' bytes, by 2^21 times the granule plus the byte. -/
  content : Mem
  /-- An install: its command, mode, where its image is staged, and whether every block is verified. -/
  cmd : Option Nat
  mode : InstallMode
  stagedAt : Nat
  verified : Bool
  /-- A repair's new blocks, by copy, block, stack and number: taken and being written, and written since the last commit (R573). -/
  taken : List (Nat × Nat × Nat × Nat)
  rewritten : List (Nat × Nat × Nat × Nat)
  /-- Where each copy's blocks lie, in order: stack and block number (R313, R315). -/
  places : List (List (Nat × Nat))
  deriving DecidableEq, Repr

/-- A Bolt stack (R312, R315 to R317). Its blocks are numbered: 0 to 29,801 user blocks, 29,802 to 31,593 spare ones. -/
structure BoltStack where
  userBlocks : Nat
  /-- User blocks from this one to 29,801 have never been used. -/
  fresh : Nat
  /-- Blocks used before and free now. -/
  free : List Nat
  spare : Nat
  retired : Nat
  /-- Erase counts of the blocks that have been erased. -/
  erases : FMap Nat
  corrected : Nat
  unreadable : Nat
  /-- Pages whose last read needed more than 48 corrections: image, version, copy, page (R315). -/
  heavy : List (Nat × Nat × Nat × Nat)
  deriving DecidableEq, Repr

/-- State of a granule of a stock copy (R329). -/
inductive GranuleState where
  | resident
  /-- HELD since the commit of the tick. -/
  | held (since : Nat)
  | lost
  deriving DecidableEq, Repr

/-- A shared-stock copy (R321 to R324, R329). -/
structure StockCopy where
  image : Nat
  version : Nat
  granules : Nat
  holdLimit : Nat
  /-- The Olukor Pattern it lies in. -/
  slots : List (Nat × Nat)
  /-- Region chunks rebuilt elsewhere after a fence, with their channel and channel chunk (R333). -/
  rebuilt : FMap (Nat × Nat)
  /-- Granules not RESIDENT. -/
  states : FMap GranuleState
  /-- Filled, and readable from this tick on. -/
  readable : Option Nat
  /-- Granules written and verified while a fill runs. -/
  filled : List Nat
  /-- Granules recopied and verified, released at the next commit (R331). -/
  recopied : List Nat
  fillId : Nat
  /-- 0 a local fill, 1 the reader of a board fill, 2 a receiver (R480). -/
  role : Nat
  /-- Receivers of a board fill (reader and relay) by position, rising, and the reader's position (receiver). -/
  peers : List Nat
  reader : Nat
  /-- The sides that have staged, the tick of this side's commit, and whether the fill has begun (R323). -/
  staged : List Nat
  stagedAt : Nat
  begun : Bool
  cmd : Option Nat
  /-- The command fills a mapped copy again (R480). -/
  refresh : Bool
  /-- The manifest the copy was filled under (R318). -/
  manifest : List Byte
  /-- Receivers left out or lost, as positions (R323, R324). -/
  leftOut : List Nat
  /-- Every granule is written and verified: the granules this command wrote; done at the next commit (R321). -/
  ended : Option Nat
  /-- HELD granules for which every source failed: the tick of the last try (R331). -/
  failedAt : FMap Nat
  /-- Recopies that run, and the source of R331 that each asks: 1 to 3. -/
  recopying : FMap Nat
  /-- Chunks of granules recopied onto other chunks, which the next release switches (R333). -/
  switching : FMap (Nat × Nat)
  /-- The position of the reader that filled the copy (R323, R331). -/
  source : Option Nat
  deriving DecidableEq, Repr

/-- A running WEIGHT_LOAD (R325 to R328): its command, context, source, image and version, and its descriptor. -/
structure WeightLoad where
  cmd : Nat
  ctx : Nat
  source : Nat
  image : Nat
  version : Nat
  desc : DmaDesc
  /-- The Pattern it allocates first (R479). -/
  pat : Option Nat
  /-- Rows written so far (R328). -/
  moved : Nat
  deriving DecidableEq, Repr

end Sys2Proof.Machine
end

