-- ==== Sys2Proof/Machine/TypesHost.lean ====
section
/-! DEFINITION. The state the host sees and writes: contexts, doorbell pages, the management mailboxes, the records that
wait for the commit, the staged table entries (chapters 02, 06, 18, 19), as plain data. -/

namespace Sys2Proof.Machine

/-- A program table entry (R58). -/
structure Prog where
  entry : Nat
  live : Nat
  energyHint : Nat
  cyclesHint : Nat
  deriving DecidableEq, Repr

/-- The five energy counters of a context since CTX_OPEN (R85). -/
structure EnergyCtr where
  admitted : Nat
  leftBudget : Nat
  leftPlace : Nat
  chargedMj : Rat
  measuredMj : Rat
  deriving DecidableEq, Repr

/-- Counters at CTX_OPEN. -/
def EnergyCtr.zero : EnergyCtr := { admitted := 0, leftBudget := 0, leftPlace := 0, chargedMj := 0, measuredMj := 0 }

/-- A private burst found lost in this tick (R335): the first one's segment, finder, region chunk and channel, and which
bursts, as channel times 2^26 plus burst. -/
structure PrivateUe where
  seg : Nat
  source : Nat
  chunk : Nat
  chan : Nat
  bursts : List Nat
  deriving DecidableEq, Repr

/-- CTX_STATUS.STATE of an open context (R443). -/
inductive CtxState where
  | open_ | paused | quiesced
  deriving DecidableEq, Repr

/-- The registers of a doorbell page that its spools do not hold (R443): the last index accepted at each doorbell lives
in the spool; DB_ERR is here as four bits, and CTX_STATUS as the last commit left it. -/
structure DoorbellPage where
  errIndex : Bool
  errSize : Bool
  errHandle : Bool
  errClosed : Bool
  ctxStatus : Word
  deriving DecidableEq, Repr

/-- A page after reset. -/
def DoorbellPage.reset : DoorbellPage :=
  { errIndex := false, errSize := false, errHandle := false, errClosed := false, ctxStatus := 0 }

/-- The kind of a record owed to host memory, in the order R450, R455 and R42 give. -/
inductive RecKind where
  /-- Step 1: stitch completion. -/
  | stitchEnd
  | requestEnd
  | stepEnd
  /-- Step 3. -/
  | command
  | bobbin
  | energyTrace
  | tape
  | event
  deriving DecidableEq, Repr

/-- A record of the commit that is due (R42): its spool and generation, its kind, the ascending keys of its place within
the kind, and its bytes. -/
structure OutRec where
  spool : Nat
  gen : Nat
  kind : RecKind
  /-- Context index for step 1 and step 3; the management owner sorts first (R441). -/
  ctx : Nat
  /-- Object index (step 1); twice the fetch number (step 3), plus 1 for a request end that a command caused. -/
  key : Nat
  bytes : List Byte
  deriving DecidableEq, Repr

/-- The management mailboxes (R441, R442). -/
structure Mgmt where
  setup : Nat
  openAsked : Option Nat
  closeAsked : Bool
  isOpen : Bool
  port : Nat
  err : Bool
  /-- The commit at which the spools last closed. -/
  closedAt : Option Nat
  /-- Events held while no management event spool is open (R556). -/
  heldEvents : List (List Byte)
  heldMissed : Nat
  deriving DecidableEq, Repr

/-- One entry of an MSI-X table (R437): address, data, masked. -/
structure MsixEntry where
  addr : Nat
  data : Nat
  masked : Bool
  deriving DecidableEq, Repr

end Sys2Proof.Machine
end

