-- ==== Sys2Proof/Machine/TypesGen.lean ====
section
/-! DEFINITION. The state of generation: a context's settings and its requests (chapter 14), as plain data. -/

namespace Sys2Proof.Machine

/-- The parameters GEN_CFG sets (R336). -/
structure GenCfg where
  reqBase : Nat
  maxReq : Nat
  vocab : Nat
  pleatPool : Nat
  pleatChunks : Nat
  maxPleats : Nat
  tableSeg : Nat
  prefillProg : Nat
  stepProg : Nat
  prefillMax : Nat
  batch : Nat
  /-- Draft image, none where GEN_CFG names none. -/
  draftImage : Option Nat
  draftPool : Nat
  draftChunks : Nat
  pauseGrant : Nat
  deriving DecidableEq, Repr

/-- The states of a request, in the order of their codes 0 to 9 (R338). -/
inductive ReqState where
  | free | prefill | decode | pausing | paused | resuming | expired | finished | cancelled | failed
  deriving DecidableEq, Repr

/-- The code of a state (R338). -/
def ReqState.code : ReqState → Nat
  | .free => 0 | .prefill => 1 | .decode => 2 | .pausing => 3 | .paused => 4 | .resuming => 5 | .expired => 6
  | .finished => 7 | .cancelled => 8 | .failed => 9

/-- A tracked request that is not FREE (R337 to R357). -/
structure Request where
  gen : Nat
  ctx : Nat
  state : ReqState
  bobbin : Nat
  /-- The bobbin's records are the 8-byte ones of the Prosor window (R515). -/
  narrow : Bool
  tag : Nat
  prompt : Nat
  promptLen : Nat
  maxNew : Nat
  seed : Nat
  temp : Nat
  topK : Nat
  topP : Nat
  repPen : Nat
  repWin : Nat
  stop : List Nat
  lpMode : Nat
  dMax : Nat
  depth : Nat
  offCount : Nat
  /-- Committed length: prompt positions and tokens. -/
  length : Nat
  /-- Prompt positions prefilled. -/
  prefilled : Nat
  tokens : Nat
  /-- The tokens committed, newest first, for the penalty history (R344). -/
  history : List Nat
  /-- Pool pleats in position order, and the draft pool's. -/
  pleats : List Nat
  draftPleats : List Nat
  /-- Paused: grant and the start of each run, in pleat order, the draft's after. -/
  grant : Nat
  hemRuns : List (Nat × Nat)
  /-- The running copy has ended: whether every pleat was acknowledged (R351, R353). -/
  copyDone : Option Bool
  ttl : Nat
  /-- The instant C_P in nanoseconds of the tick timer, while PAUSED (R353). -/
  pausedAt : Nat
  /-- The state to restore (R339). -/
  prior : ReqState
  resumed : Bool
  openCommit : Nat
  /-- The commit since which it waits for a step (R340). -/
  age : Nat
  /-- Spans a garment (R356); this device is its home. -/
  garment : Bool
  home : Bool
  /-- The home, as a member. -/
  homeAt : Nat
  /-- Members that acknowledged the open, and the commit at which REQ_OPEN completes. -/
  acks : List Nat
  openCmd : Option (Nat × Nat)
  /-- No step before this commit (R356). -/
  noStepBefore : Nat
  /-- A Hem read of its resume failed, or a member was lost, or its bobbin closed (R355): status and whether a marker goes. -/
  failing : Option (Nat × Bool)
  deriving DecidableEq, Repr

/-- A request state change that a home carries to this member (R356), and whether it has come to the step of the commit in which the
home made it. -/
structure ShadowUpdate where
  upd : ReqUpdate
  deriving DecidableEq, Repr

end Sys2Proof.Machine
end

