-- ==== Sys2Proof/Machine/TypesBoard.lean ====
section
/-! DEFINITION. The state of training steps and ledgers, of the Tape, of turns, of links, boards and garments (chapters 15
to 17), as plain data. -/

namespace Sys2Proof.Machine

/-- STEP_MODE (R362). -/
structure StepMode where
  lenient : Bool
  fixed : Bool
  always : Bool
  deriving DecidableEq, Repr

/-- The reset modes (R362). -/
def StepMode.reset : StepMode := { lenient := false, fixed := false, always := false }

/-- A slot of a tile within one attempt (R371): the tick it started in, the sender, the additions applied, the end notice's
checksums and whether it landed. -/
structure SlotRec where
  startedAt : Nat
  /-- The sending member. -/
  sender : Nat
  /-- The commit's tick at which it became APPLIED. -/
  appliedAt : Option Nat
  landed : Bool
  /-- Additions applied so far, of 16,384. -/
  count : Nat
  /-- The message number of the ACC_SEND that started it, to tell a duplicate (R372). -/
  sendId : Nat
  /-- The end notice's two checksums, once it has arrived (R381). -/
  ended : Option (Nat × Nat)
  deriving DecidableEq, Repr

/-- A ledger entry of a tile (R370). FP64 sums are held as their 64-bit codes. -/
structure TileRec where
  slots : FMap SlotRec
  cksum : Nat
  abssum : Nat
  torn : Option (Nat × Nat)
  done : Bool
  nonfinite : Bool
  /-- The FIXED summation is done (R369), and the checksum comparison (R382). -/
  summed : Bool
  checked : Bool
  /-- Areas written with zeros in this attempt (R367): 0 SUM, 1 + k slot k. -/
  zeroed : List Nat
  deriving DecidableEq, Repr

/-- An entry that reads as empty (R370). -/
def TileRec.blank : TileRec :=
  { slots := [], cksum := 0, abssum := 0, torn := none, done := false, nonfinite := false, summed := false, checked := false,
    zeroed := [] }

/-- States of a REDUCE step (R361). -/
inductive StepState where
  | open_ | complete | sealed | done | repeat_
  deriving DecidableEq, Repr

/-- A REDUCE step (R360 to R388). -/
structure Step where
  step : Nat
  attempt : Nat
  state : StepState
  redSeg : Nat
  tiles : Nat
  contrib : Nat
  openedAt : Nat
  deadline : Nat
  divSeg : Nat
  divOff : Nat
  divUnit : Nat
  optList : Nat
  optCount : Nat
  optDone : Nat
  garment : Bool
  mode : StepMode
  n : Nat
  tag : Nat
  ledger : FMap TileRec
  rejected : Nat
  /-- The reason and place of a REPEAT: code, tile, slot, origin (R388). -/
  why : Nat × Nat × Nat × Nat
  /-- The LENIENT deadline has passed: a slot that had not started is omitted (R375). -/
  omitting : Bool
  completeAt : Nat
  sealedAt : Nat
  /-- Members heard: board times 16 plus position. -/
  completeFrom : List Nat
  sealedFrom : List Nat
  /-- An ABORT held: the sender. -/
  abortFrom : Option Nat
  /-- A member lost at this commit (R386). -/
  lostAt : Option Nat
  /-- Notices of this tick: tile, slot, and whether a COMMIT (R371). -/
  notices : List (Nat × Nat × Bool)
  divWritten : Bool
  /-- A loss replay after a restore (R535). -/
  replay : Bool
  deriving DecidableEq, Repr

/-- The Tape totals of a tag on a needle in the current step (R391, R392). -/
structure TapeTotal where
  tag : Nat
  needle : Nat
  stitches : Nat
  dropped : Nat
  cycles : Nat
  waitNs : Nat
  /-- The first tick of the phase in the step. -/
  firstTick : Nat
  deriving DecidableEq, Repr

/-- Training state of a context (chapter 15). -/
structure Train where
  accEvery : Nat
  /-- LOCAL steps since the last REDUCE step. -/
  localSteps : Nat
  mode : StepMode
  /-- Last step number, its attempt, and whether it ended REPEAT. -/
  last : Option (Nat × Nat × Bool)
  /-- REDUCE steps opened with ATTEMPT 0: the buffer's parity. -/
  bufCount : Nat
  /-- The two buffers' steps. -/
  buf0 : Option Step
  buf1 : Option Step
  /-- Last REDUCE step that reached DONE (R404). -/
  lastDone : Option Nat
  tapeSpool : Option Nat
  tapeMap : List (Nat × Nat)
  totals : List TapeTotal
  openedAt : Nat
  deriving DecidableEq, Repr

/-- A context that has opened no step (R359, R362). -/
def Train.reset : Train :=
  { accEvery := 1, localSteps := 0, mode := StepMode.reset, last := none, bufCount := 0, buf0 := none, buf1 := none,
    lastDone := none, tapeSpool := none, tapeMap := [], totals := [], openedAt := 0 }

/-- Phases of a turn (R396). -/
inductive TurnPhase where
  | staged | copying | basted
  deriving DecidableEq, Repr

/-- A turn (R393 to R409). -/
structure Turn where
  id : Nat
  cmd : Nat
  toTrain : Bool
  srcCtx : Nat
  genCtx : Nat
  garment : Nat
  plan : Nat
  /-- LAYER of each move of the plan. -/
  moves : List Nat
  layers : Nat
  firstLayer : Nat
  /-- INBOUND of each layer (R398). -/
  layerTable : List Nat
  readyKnot : Nat
  basteLayers : Nat
  segSet : List Seg
  release : List Nat
  foreground : Bool
  stageTicks : Nat
  stagedAt : Nat
  stagedFrom : List Nat
  phase : TurnPhase
  start : Nat
  baste : Nat
  /-- Moves of the plan acknowledged, and those to peers begun, by index. -/
  acked : List Nat
  begun : List Nat
  /-- Messages that died at a commit, sent again in the next tick (R399): member and words. -/
  again : List (Nat × List Nat)
  /-- The next sequence number within this sender's plan (R399). -/
  seq : Nat
  /-- Bytes received by layer, and the (position, sequence) pairs counted. -/
  layerBytes : FMap Nat
  counted : List (Nat × Nat)
  /-- Members whose READY_KNOT reads LAYERS. -/
  layersFrom : List Nat
  sourceStep : Nat
  sent : Nat
  received : Nat
  /-- What step 1 of this commit found: 0 nothing, 1 the baste, 2 the finish (R396, R403). -/
  found : Nat
  /-- The commit at which a member's loss was declared (R407). -/
  lostAt : Option Nat
  /-- Ends in step 3 of the next commit: status, origin, move tag (R407). -/
  ending : Option (Nat × Nat × Nat)
  deriving DecidableEq, Repr

/-- R402: whether a turn has passed its start. -/
def Turn.quiesces (t : Turn) : Bool := t.phase != .staged

/-- States of a link, LINK_STATUS.STATE (R435). -/
inductive LinkState where
  | down | training | up | half | fenced | recal
  deriving DecidableEq, Repr

/-- STATE code of R435. -/
def LinkState.code : LinkState → Nat
  | .down => 0 | .training => 1 | .up => 2 | .half => 3 | .fenced => 4 | .recal => 5

/-- A flit kept for replay (R412): its sequence number, the epoch of its message and the message's number. -/
structure KeptFlit where
  seq : Nat
  epoch : Nat
  message : Nat
  deriving DecidableEq, Repr

/-- What a link's keys are derived from (R588, R590): the link secret, the generation of each direction, both logical positions and the map
version. -/
structure LinkKey where
  secret : Nat
  genOut : Nat
  genIn : Nat
  lpos : Nat
  farLpos : Nat
  mapVersion : Nat
  deriving DecidableEq, Repr

/-- A Thread link or Selvedge port (R410 to R416, R435). -/
structure Link where
  state : LinkState
  farPos : Nat
  farBoard : Nat
  farLink : Nat
  /-- SHA-384 of the far end's identity public key, learned in the handshake (R595). -/
  farId : Nat
  /-- The data lane the spare serves; none while it is free. -/
  spareFor : Option Nat
  /-- The half in use in state HALF (R414): 0 lanes 0 to 3, 1 lanes 4 to 7. -/
  half : Nat
  /-- Lanes fenced (R542). -/
  lanesOut : List Nat
  cause : Nat
  replayed : Nat
  fecCorr : Nat
  uncorr : Nat
  tagFail : Nat
  /-- Tag failures in this tick (R413). -/
  tagFailTick : Nat
  latency : Nat
  missed : Nat
  /-- A heartbeat arrived in this tick (R420). -/
  beat : Bool
  recals : Nat
  stale : Nat
  /-- Sequence number the receiver expects, and the sender's next. -/
  expect : Nat
  next : Nat
  /-- A flit was lost: NAK has been sent and every flit but the one expected is discarded (R412). -/
  nak : Bool
  retry : List KeptFlit
  /-- Flit credits the far end has returned, by virtual channel (R411, R420). -/
  credits : FMap Nat
  key : Option LinkKey
  /-- Flits sent under the key: the count in the nonce (R413). -/
  flits : Nat
  /-- The commits at which the generations of the two directions change (R589). -/
  switchOut : Option Nat
  switchIn : Option Nat
  idle : Bool
  recalLane : Option Nat
  recalCmd : Option Nat
  /-- Flits replayed and lanes switched, by tick, of the last 1,000 ticks (R519). -/
  replayTicks : List (Nat × Nat)
  switchTicks : List Nat
  deriving DecidableEq, Repr

/-- A link that is DOWN. -/
def Link.reset : Link :=
  { state := .down, farPos := 0, farBoard := 0, farLink := 0, farId := 0, spareFor := none, half := 0, lanesOut := [], cause := 0,
    replayed := 0, fecCorr := 0, uncorr := 0, tagFail := 0, tagFailTick := 0, latency := 0, missed := 0, beat := false, recals := 0,
    stale := 0, expect := 0, next := 0, nak := false, retry := [], credits := [], key := none, flits := 0, switchOut := none,
    switchIn := none, idle := false, recalLane := none, recalCmd := none, replayTicks := [], switchTicks := [] }

/-- A garment the device holds (R426, R433). -/
structure Garment where
  /-- Its contexts on this device. -/
  ctxs : List Nat
  /-- Members: board times 16 plus logical position. -/
  members : List Nat
  joined : List Nat
  live : Bool
  waiting : Bool
  openedAt : Nat
  /-- The GARMENT_OPEN commands that wait for it to become live. -/
  cmds : List Nat
  deriving DecidableEq, Repr

/-- A message sent over the links (control, notices, joins, remote operations): what it is, where it goes, its number, and the link it
left by; none where no link carries it. -/
structure LinkMsg where
  id : Nat
  /-- Destination: board times 16 plus logical position. -/
  dest : Nat
  kind : Nat
  epoch : Nat
  words : List Nat
  via : Option Nat
  /-- Virtual channel (R411). -/
  vc : Nat
  /-- DL, LOCK and CTX (R211). -/
  head : MsgHead
  deriving DecidableEq, Repr

/-- A substitution on its way (R434): the logical position, the spare, the commit and the command. -/
structure Substitution where
  pos : Nat
  spare : Nat
  at_ : Nat
  cmd : Nat
  deriving DecidableEq, Repr

/-- A loss declared in this tick (R429, R431): physical and logical position, board, cause, whether it was the board master, operations
failed and tiles torn. -/
structure Loss where
  phys : Nat
  lpos : Nat
  board : Nat
  cause : Nat
  master : Bool
  ops : Nat
  torn : Nat
  deriving DecidableEq, Repr

/-- The best epoch mark of this tick (R425): the sender's board, its hops to the reference, its offset in ns, its tick number, and the
difference in ns between the marks' instant of C and this board's. -/
structure RefMark where
  board : Nat
  hops : Nat
  offset : Int
  tick : Nat
  ahead : Int
  deriving DecidableEq, Repr

/-- The board (R417 to R434). -/
structure Board where
  /-- The physical position in force: 0xF for a module that runs alone. -/
  posId : Nat
  /-- The straps as sampled at module reset (R417): POS_ID, BOARD_ID[3:0] and BOARD_ID[5:4]. -/
  strapPos : Nat
  boardId : Nat
  boardHi : Nat
  /-- Logical to physical position, identity unless listed (R419). -/
  posMap : FMap Nat
  mapVersion : Nat
  live : List Nat
  spareMask : Nat
  /-- The stored array setting X, Y (R422), and the one in force since bring-up. -/
  array : Option (Nat × Nat)
  arrayNow : Option (Nat × Nat)
  isolated : Bool
  losses : List Loss
  /-- Physical positions and boards whose loss has been named (R428). -/
  named : List (Nat × Nat)
  /-- Logical positions and boards lost and not substituted (R434). -/
  lost : List (Nat × Nat)
  subs : List Substitution
  /-- The array reference followed: board, hops, offset in ns (R425). -/
  refBoard : Nat
  refHops : Nat
  refOffset : Int
  refMark : Option RefMark
  /-- Selvedge ports held until a module reset (R425). -/
  arrayHeld : Bool
  /-- Selvedge ports out of the routes since a commit (R424). -/
  rerouted : List Nat
  /-- Steering of C in this tick, in ns (R421, R425). -/
  steer : Int
  /-- JOINs heard for garments not open here: garment, member and tick (R426). -/
  joins : List (Nat × Nat × Nat)
  /-- STAGED heard for turns not staged here: garment, turn, member and tick (R395). -/
  stagedHeard : List (Nat × Nat × Nat × Nat)
  /-- Notices of board fills that this side has not staged yet (R323): image, version, FILL_ID, position, and the tick of the notice. -/
  fillHeard : List (Nat × Nat × Nat × Nat × Nat)
  outgoing : List LinkMsg
  nextMsg : Nat
  deriving DecidableEq, Repr

/-- R417: BOARD_ID[4]. -/
def Board.arrayStrap (b : Board) : Bool := b.boardHi % 2 = 1

/-- R417: straps that no position has. -/
def Board.strapBad (b : Board) : Bool := (9 ≤ b.strapPos && b.strapPos ≤ 14) || 2 ≤ b.boardHi

end Sys2Proof.Machine
end

