-- ==== Sys2Proof/Machine/TypesModule.lean ====
section
/-! DEFINITION. The state of the Prosor window (chapter 20), of risk, checkpoints and recall (chapter 21), of fences and pools
(chapter 22), of the Tailor and the Thimble (chapters 23, 24) and of the module (chapter 25), as plain data. -/

namespace Sys2Proof.Machine

/-- A command of the Prosor window that is outstanding (R507, R508): its eight words, the port of its doorbell and the
commit at which it takes effect. -/
structure WinCmd where
  ctx : Nat
  words : List Word
  port : Nat
  at_ : Nat
  /-- Applied and long-running: the number its completion will carry. -/
  started : Option Nat
  deriving DecidableEq, Repr

/-- A completion entry owed to the window's page (R513): context, SEQ, status, W_OPCODE, the commit and the result words. -/
structure WinDone where
  ctx : Nat
  seq : Nat
  status : Nat
  op : Nat
  commit : Nat
  results : List Nat
  deriving DecidableEq, Repr

/-- The Prosor window (R502 to R507). -/
structure Window where
  /-- Words kept of each slot's command; the expected index is their count (R505). -/
  slots : FMap (List Word)
  enable : BitVec 64
  enableStaged : BitVec 64
  pageLo : Word
  pageLoStaged : Word
  pageHi : Word
  pageHiStaged : Word
  torn : BitVec 64
  busy : BitVec 64
  errCtx : Nat
  errCause : Nat
  outstanding : List WinCmd
  /-- Completions owed to the page at this commit. -/
  done : List WinDone
  /-- SEQ of each context's current completion entry, 0 until the first (R506). -/
  seq : FMap Nat
  deriving DecidableEq, Repr

/-- The window after module reset. -/
def Window.reset : Window :=
  { slots := [], enable := 0, enableStaged := 0, pageLo := 0, pageLoStaged := 0, pageHi := 0, pageHiStaged := 0,
    torn := 0, busy := 0, errCtx := 0, errCause := 0, outstanding := [], done := [], seq := [] }

/-- Why a checkpoint runs (R522). -/
inductive CkptKind where
  | host | monitor | recalling
  deriving DecidableEq, Repr

/-- What the sections of an image hold for which the manual gives no layout: types 0x01, 0x02 and 0x06 to 0x09 (R525). -/
structure CkptRest where
  needles : Nat
  liveMax : Nat
  quota : Nat
  reqBase : Nat
  reqCount : Nat
  ceiling : Nat
  peerPriv : Bool
  genCfg : Option GenCfg
  mode : StepMode
  accEvery : Nat
  high : Nat
  low : Nat
  hint : Option Nat
  grants : FMap Grant
  /-- The garment's identifier and members. -/
  garment : Option (Nat × List Nat)
  /-- Image and version of every current STOCK segment. -/
  stock : List (Nat × Nat)
  progs : FMap Prog
  spools : List (Nat × Spool)
  requests : List (Nat × Request)
  /-- Last step, attempt, and whether it ended REPEAT or was not DONE. -/
  last : Option (Nat × Nat × Bool)
  bufCount : Nat
  localSteps : Nat
  lastDone : Option Nat
  images : FMap SaveImage
  deriving DecidableEq, Repr

/-- R525: the bytes of a section, by its type, as the device lays them out, and what it reads from those of types 0x01, 0x02 and 0x06 to
0x09: the manual gives no layout (assumption 18). -/
opaque Config.encodeSection : Nat → CkptRest → List Byte
opaque Config.decodeSections : List (Nat × List Byte) → Option CkptRest

/-- A section of an image (R530): type, number, place and length in the image data, and the bytes copied at the fix; a DATA section has
none, its bytes are read while it streams (R525). -/
structure CkptSection where
  typ : Nat
  num : Nat
  off : Nat
  len : Nat
  bytes : List Byte
  deriving DecidableEq, Repr

/-- A checkpoint under way (R522 to R531). -/
structure Ckpt where
  kind : CkptKind
  id : Nat
  cmd : Option Nat
  fixedAt : Nat
  dest : Nat
  blocks : Nat
  ports : Nat
  slot : Nat
  sections : List CkptSection
  /-- Image data length in bytes, and data blocks. -/
  bytes : Nat
  total : Nat
  header : List Byte
  /-- Serial number of the checkpoint key (R592). -/
  key : Nat
  /-- Digests of the data blocks read and encrypted, by block. -/
  digests : FMap Nat
  acked : List Nat
  /-- Blocks sent again after a failed write (R528). -/
  retried : List Nat
  /-- The commit has released the context from the hold of R524. -/
  released : Bool
  /-- Ends at the next commit: the status. -/
  ended : Option Nat
  deriving DecidableEq, Repr

/-- A restore under way (R532 to R534). -/
structure Restore where
  cmd : Nat
  id : Nat
  source : Nat
  alternate : Option Nat
  ports : Nat
  replay : Bool
  rest : CkptRest
  segs : FMap Seg
  patterns : FMap Pattern
  knots : List (Nat × Knot)
  /-- Poisoned bursts of the image: Pattern, region chunk, burst. -/
  poison : List (Nat × Nat × Nat)
  sections : List CkptSection
  digests : List Nat
  key : Nat
  total : Nat
  verified : List Nat
  /-- Requests made of each block so far. -/
  tries : FMap Nat
  lastStep : Option Nat
  /-- Every block is written and verified: the tables become current at the next commit. -/
  ready : Bool
  /-- The block that no request could supply. -/
  failed : Option Nat
  deriving DecidableEq, Repr

/-- A recall under way (R536 to R538): its command, when it was accepted, the deadline in ns, and its checkpoint's parameters. -/
structure Recall where
  cmd : Nat
  at_ : Nat
  deadline : Nat
  id : Nat
  dest : Nat
  blocks : Nat
  ports : Nat
  /-- Its checkpoint, adopted or fixed, has begun. -/
  fixed : Bool
  deriving DecidableEq, Repr

/-- The destination of a context's checkpoints (R522, R527): address, blocks, ports, the command's identifier, monitor checkpoints taken to
it, and the slot written last. -/
structure CkptDest where
  addr : Nat
  blocks : Nat
  ports : Nat
  id : Nat
  taken : Nat
  slot : Option Nat
  deriving DecidableEq, Repr

/-- A complete checkpoint (R531): identifier, address, slot, commit. -/
structure CkptDone where
  id : Nat
  addr : Nat
  slot : Nat
  at_ : Nat
  deriving DecidableEq, Repr

/-- Risk and checkpoints of a context (R517 to R538). -/
structure RiskCtx where
  high : Nat
  low : Nat
  hint : Option Nat
  armed : Bool
  score : Nat
  /-- The host's hint in force holds until the next RISK_SET (R519). -/
  dest : Option CkptDest
  /-- The last complete checkpoint, none once a later one has begun to write its slot. -/
  last : Option CkptDone
  /-- A crossing or CKPT_WANT is held (R523). -/
  want : Bool
  running : Option Ckpt
  restore : Option Restore
  recalling : Option Recall
  /-- The next REDUCE step is a replay (R535). -/
  replay : Bool
  deriving DecidableEq, Repr

/-- The thresholds of a new context (R490, R520). -/
def RiskCtx.reset : RiskCtx :=
  { high := 768, low := 512, hint := none, armed := true, score := 0, dest := none, last := none, want := false,
    running := none, restore := none, recalling := none, replay := false }

/-- R524: whether a checkpoint holds the context from admission. -/
def RiskCtx.held (r : RiskCtx) : Bool := match r.running with | some k => !k.released | none => false

/-- R523, R524, R536: whether STEP_BEGIN of a REDUCE step is turned away: a crossing or CKPT_WANT is held, a checkpoint holds the context, or
a recall waits for its checkpoint. -/
def RiskCtx.stepBusy (r : RiskCtx) : Bool :=
  r.want || r.held || (match r.running with | some k => k.kind = .monitor | none => false) || (match r.recalling with | some c => !c.fixed | none => false)

/-- An Olukor Tailor cluster's condition (R19, R546). -/
inductive ClusterState where
  | active | standby | fenced | selfTest | copying
  /-- It has copied the active state and becomes the standby at the commit. -/
  | copied
  deriving DecidableEq, Repr

/-- A patch overlay (R562 to R566): its identifier and where it is staged. -/
structure Overlay where
  id : Nat
  bytes : List Byte
  deriving DecidableEq, Repr

/-- The Tailor (R19, R546, R561 to R566). -/
structure Tailor where
  clusterA : ClusterState
  clusterB : ClusterState
  activeB : Bool
  active : Option Overlay
  staged : Option Overlay
  /-- An overlay under verification: the command's number. -/
  staging : Option (Nat × Overlay)
  /-- The overlay in the Bolt's service area (R564, R565). -/
  service : Option Overlay
  /-- A fault has taken the active role from its cluster: it passes at this tick's commit (R546). -/
  passing : Bool
  deriving DecidableEq, Repr

/-- A key slot of the Thimble (R583). -/
structure KeySlot where
  alg : Nat
  purpose : Nat
  test : Bool
  key : Nat
  deriving DecidableEq, Repr

/-- An SPDM session (R591, R597): its port, whether its handshake finished, and key updates. -/
structure SpdmSession where
  id : Nat
  port : Nat
  finished : Bool
  updates : Nat
  deriving DecidableEq, Repr

/-- The SPDM responder's connection state of one DOE port (R597). -/
structure SpdmPort where
  version : Bool
  capabilities : Bool
  /-- The algorithms agreed: bit 0 ECDSA P-384, bit 1 SHA-384, bit 2 secp384r1, bit 3 AES-256-GCM. -/
  algorithms : Nat
  deriving DecidableEq, Repr

/-- A port on which no request was made. -/
def SpdmPort.reset : SpdmPort := { version := false, capabilities := false, algorithms := 0 }

/-- What the responder answers (R568, R597, R598): the contents that the manual gives, without SPDM's own framing. -/
inductive SpdmAnswer where
  | busy
  | error
  | version
  | capabilities
  | algorithms (agreed : Nat)
  /-- SHA-384 of the chain in certificate slot 0. -/
  | digests (d : Nat)
  | certificate (bytes : List Byte)
  | challenge (signature : List Byte)
  /-- Index and digest of each measurement asked for, and the signature where one was asked for. -/
  | measurements (l : List (Nat × Nat)) (signature : Option (List Byte))
  | session (id : Nat)
  | done
  deriving DecidableEq, Repr

/-- A THIMBLE_UPDATE under way (R567, R596). -/
structure ThimbleJob where
  cmd : Nat
  objType : Nat
  payload : List Byte
  verified : Bool
  deriving DecidableEq, Repr

/-- The Thimble (R576 to R598). -/
structure Thimble where
  slots : FMap KeySlot
  /-- The owner root in force, by serial number; none where none is installed (R590, R592). -/
  owr : Option Nat
  /-- MODE persistent, and the approved mode in force. -/
  modeApproved : Bool
  approved : Bool
  /-- A verified mode record: APPROVED and ZEROISE, for the next module reset (R596). -/
  modeNext : Option (Bool × Bool)
  fwActive : Nat
  fwVersions : FMap Nat
  version : Nat
  /-- The new slot passed its self-tests: it is shown as the running one from the next commit on (R567, R598). -/
  fwNext : Bool
  counters : FMap Nat
  job : Option ThimbleJob
  restarting : Option Nat
  /-- Key serial numbers: the next one, the stock key, the device data key, and each context's. -/
  nextKey : Nat
  stockKey : Option Nat
  deviceKey : Option Nat
  ctxKeys : FMap Nat
  /-- The Hem key of each open context (R582, R586). -/
  hemKeys : FMap Nat
  error : Bool
  ide : FMap Nat
  sessions : List SpdmSession
  ports : FMap SpdmPort
  /-- What the Thimble answered last on each port's DOE mailbox. -/
  answers : FMap SpdmAnswer
  nextSession : Nat
  deriving DecidableEq, Repr

/-- States of the module (R615). -/
inductive ModState where
  | unpowered | held | step (k : Nat) | ready | withdrawn | failed | thermtrip
  deriving DecidableEq, Repr

/-- R614, R615: whether the device presents the state of a withdrawn one. -/
def ModState.isOut : ModState → Bool
  | .withdrawn => true | .failed => true | .thermtrip => true | _ => false

/-- What the Chalk, or the Tailor on a host port, answers a PLDM request with (R617, R618). -/
inductive PldmAnswer where
  /-- The PLDM types supported. -/
  | types (l : List Nat)
  | reading (v : Int)
  | unavailable
  /-- No such sensor. -/
  | unknown
  /-- The FRU record: ordering code, serial number, ROM release and THIMBLE_VER. -/
  | fru (ordering : List Byte) (serial rom thimble : Nat)
  deriving DecidableEq, Repr

/-- The module: pins, power and bring-up, the Chalk and its sensors (R599 to R618). -/
structure Module where
  state : ModState
  v48 : Bool
  pwrOk : Bool
  modResetN : Bool
  perst0N : Bool
  perst1N : Bool
  alertN : Bool
  thermtripN : Bool
  failCause : Nat
  refLost : Nat
  /-- Both host ports report an uncorrectable internal error (R553). -/
  aer : Bool
  /-- Readings by sensor identifier (R618); one without a source is not listed. -/
  sensors : FMap Int
  staticAddr : Nat
  dynAddr : Option Nat
  ibi : Bool
  /-- MCTP endpoint IDs, by binding: 0 I3C, 1 H0, 2 H1. -/
  eids : FMap Nat
  /-- Host ports trained and answering (R610). -/
  port0 : Bool
  port1 : Bool
  /-- The 48 V input as measured at the last C, in mV (R518). -/
  milliV : Nat
  /-- Whether the last configuration request of a port was answered normally, and not with RRS (R615). -/
  config : FMap Bool
  /-- The last answer on each binding. -/
  pldm : FMap PldmAnswer
  deriving DecidableEq, Repr

/-- The fences and error counts of units that have no record of their own (R539 to R547). -/
structure Fences where
  /-- Corrected faults of the four classes of R559 since the last summary. -/
  ce : FMap Nat
  /-- Ticks of the uncorrectable header errors of each Lining router, newest first (R552). -/
  headerErrors : FMap (List Nat)
  /-- Pools whose emptiness has been reported and that have not refilled (R555): 0 gusset, 1 Bolt, 2 link lane, 3 board, with
  the scope in units of 4. -/
  poolEmpty : List Nat
  /-- Channels fenced since the last commit, with the cause code of R305. -/
  channelLost : List (Nat × Nat)
  /-- Contexts with a context-fatal fault since the last commit: context, cause, area, channel (R550). -/
  fatal : List (Nat × Nat × Nat × Nat)
  /-- Contexts that met poison from host memory since the last commit: context, segment, port, address (R549). -/
  hostPoison : List (Nat × Nat × Nat × Nat)
  /-- Spools whose writes failed, with the generation (R457). -/
  spoolFaults : List (Nat × Nat)
  /-- Olukor areas of contexts whose copy is lost and not rebuilt: context, chunk, copy (R295, R550). -/
  areaLost : List (Nat × Nat × Nat)
  deriving DecidableEq, Repr

end Sys2Proof.Machine
end

