-- ==== Sys2Proof/Machine/State.lean ====
section
/-! DEFINITION. The state of the device as plain data, its value after reset, and the reasons a step can stop. -/

namespace Sys2Proof.Machine

/-- Why a step stops with a fault. -/
inductive Fault where
  /-- A command or event names a unit the device does not have (a needle above 287, a link above 19, a panel above 5, a
  channel above 767): raised by every meaning whose operand names a unit by number. Safe: no such command exists. -/
  | noSuchUnit
  deriving DecidableEq, Repr

/-- Why a step is refused. -/
inductive Refusal where
  /-- The command has no meaning in this model yet: raised by exec's own arm only. Safe. -/
  | notModelled (mnemonic : String)
  deriving DecidableEq, Repr

/-- A context index that is in use (R470) with everything the device holds for it. -/
structure Context where
  gen : Nat
  state : CtxState
  /-- Quiesced by a turn while paused by the host (R402). -/
  pausedToo : Bool
  ceiling : Nat
  peerPriv : Bool
  needles : Nat
  liveMax : Nat
  quota : Nat
  reqBase : Nat
  reqCount : Nat
  cmdSpool : Nat
  cplSpool : Nat
  evtSpool : Nat
  segs : FMap Seg
  progs : FMap Prog
  /-- The version of the program table: it advances whenever an entry becomes current (R151). -/
  progVersion : Nat
  patterns : FMap Pattern
  patternStages : FMap PatternStage
  grants : FMap Grant
  /-- Selectors of scratch chunks whose committed image is the second: Pattern times 2^32 plus region chunk (R37). -/
  selectors : List Nat
  energy : EnergyCtr
  images : FMap SaveImage
  genCfg : Option GenCfg
  train : Train
  garment : Option Nat
  risk : RiskCtx
  /-- Completions owed beyond those of fetched commands (R449). -/
  owed : Nat
  /-- Private bursts found uncorrectable in this tick: segment, source, region chunk, channel, count (R335). -/
  privateUe : Option PrivateUe
  saveUe : Bool
  /-- Requests left waiting for pleats (R349). -/
  pleatShort : Nat
  /-- The slots of the two copies of its save area, by copy (R295, R471). -/
  areaA : List (Nat × Nat)
  /-- Chunks of the areas rebuilt elsewhere (R295): by twice the chunk plus the copy, the channel and channel chunk. -/
  areaMoved : FMap (Nat × Nat)
  areaB : List (Nat × Nat)
  closing : Bool
  deriving DecidableEq, Repr

/-- A staged entry of a double-buffered table (R45): it becomes current in step 2 of the commit. -/
inductive Staged where
  | seg (ctx i : Nat) (d : Seg)
  | prog (ctx id : Nat) (p : Option Prog)
  | ceiling (ctx v : Nat)
  | genCfg (ctx : Nat) (g : GenCfg)
  | draft (req d : Nat)
  | stepMode (ctx : Nat) (m : StepMode)
  | accEvery (ctx n : Nat)
  | tape (ctx : Nat) (spool : Option Nat) (pairs : List (Nat × Nat))
  | power (limit reserve tlim : Nat)
  | freq (panel code : Nat)
  | risk (ctx high low : Nat) (hint : Option Nat)
  | spareMask (mask : Nat)
  /-- WIN_ENABLE and WIN_PAGE (R503): the high or the low register, and its value. -/
  | winEnable (hi : Bool) (v : Nat)
  | winPage (hi : Bool) (v : Nat)
  deriving DecidableEq, Repr

/-- A context's staged edit's context, for the order of step 2 (R39); device-wide edits come first. -/
def Staged.ctx : Staged → Nat
  | .seg c _ _ => c + 1 | .prog c _ _ => c + 1 | .ceiling c _ => c + 1 | .genCfg c _ => c + 1
  | .draft _ _ => 1 | .stepMode c _ => c + 1 | .accEvery c _ => c + 1 | .tape c _ _ => c + 1 | .power _ _ _ => 0
  | .freq _ _ => 0 | .risk c _ _ _ => c + 1 | .spareMask _ => 0 | .winEnable _ _ => 0 | .winPage _ _ => 0

/-- The state of the block. Chapters of the manual give each field; INVENTORY.md lists them with their rules and resets. -/
structure State where
  /-- Commands that wait, first in, first out. -/
  pending : List Instr
  /-- The model's own counter: the next free value (assumption 2). -/
  freeCtr : Nat
  tick : TickState
  adm : Admission
  needles : FMap Needle
  /-- Stitches that left their needle in this tick and wait for the commit (R153, R34). -/
  finished : List RunStitch
  /-- Scratch chunks written in this tick: context, Pattern, region chunk, writer (R37). -/
  scratchWriters : List (Nat × Nat × Nat × Nat)
  arbiters : FMap Arbiter
  knots : FMap Knot
  knotGens : FMap Nat
  cycles : List KnotCycle
  nextCycle : Nat
  spools : FMap Spool
  /-- R252: the active spool states beside those of the contexts' command, completion and event spools, the least recently used first. -/
  activeSpools : List Nat
  spoolGens : FMap Nat
  lists : FMap ListState
  /-- Indices not free until the commit given (R255): kind (0 context, 1 request, 2 spool, 3 knot) times 2^20 plus index. -/
  freeAt : FMap Nat
  staleEpoch : Nat
  staleGen : Nat
  /-- STALE_LAST (R257). -/
  staleLast : Word
  channels : FMap Channel
  controllers : FMap Controller
  scrubHours : Nat
  gussetReserve : Nat
  /-- The repair record in the Bolt's service area (R272, R298). -/
  repair : RepairRecord
  gussetHold : Nat
  moves : List Move
  /-- The stacks' bytes, by channel times 2^32 plus byte (R289), in plaintext (R261). -/
  stack : Mem
  /-- Host memory, by host-physical address. -/
  host : Mem
  /-- What the host ports last enciphered into host memory under grants with ENC, in plaintext, by host address (R586; assumption 43). -/
  hemPlain : Mem
  bolt0 : BoltStack
  bolt1 : BoltStack
  images : List BoltImage
  stock : FMap StockCopy
  loads : List WeightLoad
  contexts : FMap Context
  ctxGens : FMap Nat
  requests : FMap Request
  reqGens : FMap Nat
  shadowUpdates : List ShadowUpdate
  /-- R348, R349: writes of pleat tables that wait for the next admission phase: context, context address, bytes. -/
  tableWrites : List (Nat × Nat × List Byte)
  /-- Handles of requests closed at this commit, with their contexts (R354). -/
  closedNow : List (Nat × Nat)
  turns : List Turn
  links : FMap Link
  board : Board
  garments : FMap Garment
  mgmt : Mgmt
  pages : FMap DoorbellPage
  mgmtPage : DoorbellPage
  /-- The MSI-X tables: 2,048 times the port (1 or 2) plus the vector. -/
  msix : FMap MsixEntry
  msixPending : List Nat
  /-- Interrupt messages sent in this tick: vectors by their numbers, newest first (R456). -/
  msixSent : List Nat
  nextCmd : Nat
  /-- Commands fetched and not applied (R40, R41), in fetch order, each with the tick it belongs to. -/
  fetched : List (Nat × CmdReq)
  /-- Producer indices of the command spools at the cut-off, by spool index (R40). -/
  cutPidx : FMap Nat
  /-- Long-running commands: the request and what is owed (R448). -/
  running : List CmdReq
  /-- Completions of long-running commands due at the next commit: the command's number, status and result words. -/
  due : List (Nat × Nat × List Nat)
  shadow : List Staged
  /-- What registers staged after the cut-off, for the next tick (R40, R81). -/
  shadowNext : List Staged
  /-- Records due at this commit (R42). -/
  out : List OutRec
  window : Window
  fences : Fences
  tailor : Tailor
  thimble : Thimble
  mod : Module
  /-- DEV_STATUS and the registers updated at each commit, as the last commit left them (R440). -/
  devStatus : Word
  /-- BOARD_STATE as the last commit left it (R436). -/
  boardState : Word
  deriving DecidableEq, Repr

/-- A panel after reset (R79, R82). Idle floor and calibration constants: assumption 9. -/
def Panel.reset : Panel :=
  { freqCode := 0x24, freqStaged := 0x24, tempC := 0, forecastC := 0, derate := 1000, hot := false, droop := false,
    stretched := false, stretchAt := 0, stretchNs := 0, governor := 16, idleMw := 0, rMilliK := 0, tauUs := 0, hotspot := 0 }

/-- The tick after reset (R26, R28). -/
def TickState.reset : TickState :=
  { number := 0, phase := .admission, periodCode := 0x0C, guardUs := 0x28, isMaster := false, freeRun := true,
    masterPos := 0xF, hiLatch := 0, staged := [], startNs := 0, cutoff := false, markNext := none, leftMin := 2000000, committed := false,
    past := false }

/-- Admission after reset (R79, R81 to R83). -/
def Admission.reset : Admission :=
  { pending := [], plan := [], nextId := 0, estimates := [], limit := 0x140, reserve := 5, tlim := 95, limitStaged := 0x140,
    reserveStaged := 5, tlimStaged := 95, carry := 0, railsMj := 0, measuredNs := 2000000, energyMj := 0, budgetMj := 0, inletMilliC := 0,
    panels := [], governorActed := false, governedAt := none, trace := none, charged := 0, admittedN := 0, cutClass := 0,
    stop := 0, deferBudget := 0, deferPlace := 0 }

/-- A Bolt stack after reset, nothing installed (R312). -/
def BoltStack.reset : BoltStack :=
  { userBlocks := 29802, fresh := 0, free := [], spare := 1792, retired := 0, erases := [], corrected := 0,
    unreadable := 0, heavy := [] }

/-- The board after reset: a module that runs alone (R417, R433; the strap values are assumption 9). -/
def Board.reset : Board :=
  { posId := 0xF, strapPos := 0xF, boardId := 0, boardHi := 0, posMap := [], mapVersion := 0, live := [], spareMask := 0x100,
    array := none, arrayNow := none, isolated := false, losses := [], named := [], lost := [], subs := [], refBoard := 0, refHops := 0,
    refOffset := 0, refMark := none, arrayHeld := false, rerouted := [], steer := 0, joins := [], stagedHeard := [], fillHeard := [], outgoing := [], nextMsg := 0 }

/-- The management mailboxes after reset (R442). -/
def Mgmt.reset : Mgmt :=
  { setup := 0, openAsked := none, closeAsked := false, isOpen := false, port := 0, err := false, closedAt := none,
    heldEvents := [], heldMissed := 0 }

/-- The Tailor after cold bring-up (R19). -/
def Tailor.reset : Tailor :=
  { clusterA := .active, clusterB := .standby, activeB := false, active := none, staged := none, staging := none,
    service := none, passing := false }

/-- R583: the slots that lie in fuses: firmware, provisioning, image and development keys. -/
def fuseSlots : FMap KeySlot :=
  (List.range 16).map (fun n => (n,
    { alg := if n < 2 then 0 else Config.fuseAlg n % 2, purpose := 0, test := n = 15, key := Config.fuseKey n }))

/-- The Thimble after reset (R577, R583; what no rule states is assumption 9). -/
def Thimble.reset : Thimble :=
  { slots := fuseSlots, owr := none, modeApproved := false, approved := false, modeNext := none, fwActive := 0, fwVersions := [],
    version := 0, fwNext := false, counters := [], job := none, restarting := none, nextKey := 1, stockKey := none, deviceKey := none,
    ctxKeys := [], hemKeys := [], error := false, ide := [], sessions := [], ports := [], answers := [],
    nextSession := 1 }

/-- The module without its 48 V input (R615). -/
def Module.reset : Module :=
  { state := .unpowered, v48 := false, pwrOk := false, modResetN := false, perst0N := false, perst1N := false, alertN := true,
    thermtripN := true, failCause := 0, refLost := 0, aer := false, sensors := [], staticAddr := 0, dynAddr := none, ibi := false,
    eids := [], port0 := false, port1 := false, milliV := 0, config := [], pldm := [] }

/-- No fence and no error. -/
def Fences.reset : Fences :=
  { ce := [], headerErrors := [], poolEmpty := [], channelLost := [], fatal := [],
    hostPoison := [], spoolFaults := [], areaLost := [] }

/-- The machine right after reset: every register at the value the manual states, and where it states none at the value the
log names. -/
def State.reset : State :=
  { pending := [], freeCtr := 0, tick := TickState.reset, adm := Admission.reset, needles := [], finished := [],
    scratchWriters := [], arbiters := [], knots := [], knotGens := [], cycles := [], nextCycle := 0, spools := [], activeSpools := [],
    spoolGens := [], lists := [], freeAt := [], staleEpoch := 0, staleGen := 0, staleLast := 0, channels := [],
    controllers := [], scrubHours := 12, gussetReserve := 8, repair := { chans := [], gussets := none }, gussetHold := 0, moves := [], stack := [],
    host := [], hemPlain := [], bolt0 := BoltStack.reset, bolt1 := BoltStack.reset, images := [], stock := [], loads := [], contexts := [],
    ctxGens := [], requests := [], reqGens := [], shadowUpdates := [], tableWrites := [], closedNow := [], turns := [], links := [], board := Board.reset,
    garments := [], mgmt := Mgmt.reset, pages := [], mgmtPage := DoorbellPage.reset, msix := [], msixPending := [],
    msixSent := [], nextCmd := 0, fetched := [], cutPidx := [], running := [], due := [], shadow := [], shadowNext := [], out := [], window := Window.reset,
    fences := Fences.reset, tailor := Tailor.reset, thimble := Thimble.reset, mod := Module.reset,
    devStatus := 0x00000300, boardState := 0x0000000F }

end Sys2Proof.Machine
end

