-- ==== Sys2Proof/Machine/Ops.lean ====
section
/-! DEFINITION. The named operations every meaning is written over: units by number, registers, free values, the end of a
stitch by a fault, addresses and their checks, reads and writes of context space through the segment unit, and the records a
commit owes to host memory. -/

namespace Sys2Proof.Machine

-- ---------------------------------------------------------------- status codes (R458)

def stOk : Nat := 0x00
def stAlreadyDone : Nat := 0x01
def stLateDropped : Nat := 0x02
def stWithdrawn : Nat := 0x03
def stFenced : Nat := 0x04
def stNoRoom : Nat := 0x05
def stNoSpare : Nat := 0x06
def stStale : Nat := 0x07
def stExpired : Nat := 0x08
def stPeerLost : Nat := 0x09
def stBadDigest : Nat := 0x0A
def stNotApproved : Nat := 0x0B
def stBadParam : Nat := 0x0C
def stBadOpcode : Nat := 0x0D
def stBusy : Nat := 0x0E
def stSegFault : Nat := 0x0F
def stPoisoned : Nat := 0x10
def stDenied : Nat := 0x11
def stHostFault : Nat := 0x12

-- ---------------------------------------------------------------- fault kinds (R155)

def fkIllegal : Nat := 0x1
def fkAlign : Nat := 0x2
def fkSpace : Nat := 0x3
def fkSlvBound : Nat := 0x4
def fkXwin : Nat := 0x5
def fkSegInvalid : Nat := 0x6
def fkSegPerm : Nat := 0x7
def fkSegBound : Nat := 0x8
def fkScw : Nat := 0x9
def fkPair : Nat := 0xA
def fkCursor : Nat := 0xB
def fkTack : Nat := 0xC
def fkScratch : Nat := 0xD

/-- R155: the completion status of a fault kind. -/
def faultStatus (k : Nat) : Nat :=
  if k = fkIllegal || k = fkScw || k = fkPair || k = fkCursor || k = fkTack then stBadParam else stSegFault

-- ---------------------------------------------------------------- free values

/-- A fresh free value (assumption 2) and the state with the counter advanced. -/
def State.draw (s : State) : Nat × State :=
  (Config.freeNat s.freeCtr, { s with freeCtr := s.freeCtr + 1 })

/-- A free value from 0 to `max`. -/
def State.drawUpTo (s : State) (max : Nat) : Nat × State :=
  let (v, s1) := s.draw
  (v % (max + 1), s1)

/-- R79: the panel clock in MHz. -/
def Panel.mhz (p : Panel) : Nat := 900 + 25 * p.freqCode

/-- `n` free bytes from the counter `c` on. -/
def freeBytes (c : Nat) : Nat → List Byte
  | 0 => []
  | n + 1 => BitVec.ofNat 8 (Config.freeNat c) :: freeBytes (c + 1) n

/-- A quantity as a whole number of units (assumption 20). -/
def roundUnits (q : Rat) : Int := q.floor + (if (q.floor : Rat) ≠ q && Config.roundsUp q then 1 else 0)

-- ---------------------------------------------------------------- units by number

/-- The needle with a global number: 48 times its panel plus its index (R5). -/
def State.needle (s : State) (n : Nat) : Needle := FMap.getD s.needles n Needle.reset

/-- Replaces a needle. -/
def State.setNeedle (s : State) (n : Nat) (nd : Needle) : State := { s with needles := FMap.set s.needles n nd }

/-- A channel of the device (R16). -/
def State.channel (s : State) (c : Nat) : Channel := FMap.getD s.channels c Channel.trained

/-- The tick period in nanoseconds (R28). -/
def TickState.periodNs (t : TickState) : Nat := 500000 + 125000 * t.periodCode

/-- Replaces a channel. -/
def State.setChannel (s : State) (c : Nat) (ch : Channel) : State := { s with channels := FMap.set s.channels c ch }

/-- The controller of a stack. -/
def State.controller (s : State) (k : Nat) : Controller := FMap.getD s.controllers k Controller.empty

/-- Replaces a controller. -/
def State.setController (s : State) (k : Nat) (c : Controller) : State :=
  { s with controllers := FMap.set s.controllers k c }

/-- A panel. -/
def State.panel (s : State) (p : Nat) : Panel := FMap.getD s.adm.panels p Panel.reset

/-- Replaces a panel. -/
def State.setPanel (s : State) (p : Nat) (v : Panel) : State :=
  { s with adm := { s.adm with panels := FMap.set s.adm.panels p v } }

/-- A link. -/
def State.link (s : State) (l : Nat) : Link := FMap.getD s.links l Link.reset

/-- Replaces a link. -/
def State.setLink (s : State) (l : Nat) (v : Link) : State := { s with links := FMap.set s.links l v }

/-- An open context by its index. -/
def State.ctx? (s : State) (c : Nat) : Option Context := FMap.get? s.contexts c

/-- Applies `f` to an open context. -/
def State.modCtx (s : State) (c : Nat) (f : Context → Context) : State :=
  { s with contexts := FMap.modify s.contexts c f }

/-- Applies `f` to a request. -/
def State.modReq (s : State) (r : Nat) (f : Request → Request) : State :=
  { s with requests := FMap.modify s.requests r f }

/-- The current generation of a context index; generations start at 1 (R7). -/
def State.ctxGen (s : State) (c : Nat) : Nat := FMap.getD s.ctxGens c 1

/-- The current generation of a request index. -/
def State.reqGen (s : State) (r : Nat) : Nat := FMap.getD s.reqGens r 1

/-- The current generation of a spool index. -/
def State.spoolGen (s : State) (i : Nat) : Nat := FMap.getD s.spoolGens i 1

/-- The current generation of a knot index. -/
def State.knotGen (s : State) (i : Nat) : Nat := FMap.getD s.knotGens i 1

/-- R7: the generation after `g`: from 255 to 1, never 0. -/
def nextGen (g : Nat) : Nat := if g ≥ 255 then 1 else g + 1

/-- R6: a context handle. -/
def ctxHandle (gen c : Nat) : Nat := gen * 2 ^ 10 + c
/-- R6: a request handle. -/
def reqHandle (gen r : Nat) : Nat := gen * 2 ^ 17 + r
/-- R6: a spool handle. -/
def spoolHandle (gen i : Nat) : Nat := gen * 2 ^ 20 + i
/-- R6: a knot handle. -/
def knotHandle (gen i : Nat) : Nat := gen * 2 ^ 14 + i

/-- The handle of an open context. -/
def State.ctxHandleOf (s : State) (c : Nat) : Nat := ctxHandle (s.ctxGen c) c

-- ---------------------------------------------------------------- X, V and M registers (R134)

/-- Reads an X register; X0 reads as zero. -/
def Needle.getX (nd : Needle) (r : Nat) : DWord := if r = 0 then 0 else FMap.getD nd.x r 0

/-- Writes an X register; a write to X0 is discarded. -/
def Needle.setX (nd : Needle) (r : Nat) (v : DWord) : Needle :=
  if r = 0 then nd else { nd with x := FMap.set nd.x r v }

/-- Reads a V register. -/
def Needle.getV (nd : Needle) (r : Nat) : VReg := FMap.getD nd.v r 0

/-- Writes a V register. -/
def Needle.setV (nd : Needle) (r : Nat) (v : VReg) : Needle := { nd with v := FMap.set nd.v r v }

/-- Reads an M register; M0 reads as all ones. -/
def Needle.getM (nd : Needle) (r : Nat) : MReg := if r = 0 then BitVec.allOnes 256 else FMap.getD nd.m r 0

/-- Writes an M register; a write to M0 is discarded. -/
def Needle.setM (nd : Needle) (r : Nat) (v : MReg) : Needle :=
  if r = 0 then nd else { nd with m := FMap.set nd.m r v }

/-- A tile of the needle. -/
def Needle.tile (nd : Needle) (t : Nat) : Tile := FMap.getD nd.tiles t Tile.cleared

/-- Replaces a tile. -/
def Needle.setTile (nd : Needle) (t : Nat) (v : Tile) : Needle := { nd with tiles := FMap.set nd.tiles t v }

/-- A cell of a tile, by row and column. -/
def Tile.cell (t : Tile) (r n : Nat) : Cell := FMap.getD t.cells (128 * r + n) Cell.cleared

/-- Replaces a cell; a cleared cell is not listed. -/
def Tile.setCell (t : Tile) (r n : Nat) (c : Cell) : Tile :=
  { t with cells := if c = Cell.cleared then FMap.del t.cells (128 * r + n) else FMap.set t.cells (128 * r + n) c }

/-- Applies `f` to all 16,384 cells of a tile. -/
def Tile.mapCells (t : Tile) (f : Cell → Cell) : Tile :=
  { t with cells := if f Cell.cleared = Cell.cleared then (t.cells.map (fun p => (p.1, f p.2))).filter (fun p => p.2 != Cell.cleared)
      else (List.range 16384).map (fun i => (i, f (FMap.getD t.cells i Cell.cleared))) }

/-- R116, R173: the OR of the cells' flags. -/
def Tile.flags (t : Tile) : BitVec 4 := t.cells.foldl (fun a p => a ||| p.2.flags) 0

-- ---------------------------------------------------------------- the end of a stitch

/-- R155: a fault ends the needle's stitch at once: its kind and the index of the instruction `pc` are recorded and the
instructions still queued are discarded. What is in flight runs on. -/
def State.faultAt (s : State) (n kind pc : Nat) : State :=
  let nd := s.needle n
  match nd.run with
  | none => s
  | some r =>
    match r.ended with
    | some (.faulted _ _) => s
    | some .withdrawn => s
    | _ => s.setNeedle n { nd with run := some { r with ended := some (.faulted kind pc) }, mq := [], vq := [], xPend := [] }

/-- R153: whether the needle's stitch still has queued work, a DMA descriptor outstanding or a KWAIT. -/
def Needle.busy (nd : Needle) : Bool :=
  nd.kwait.isSome || !nd.mq.isEmpty || !nd.vq.isEmpty || nd.d0.any (fun p => !p.2.done) || nd.d1.any (fun p => !p.2.done)

/-- R155: a fault of the instruction at the needle's pc. -/
def State.faultStitch (s : State) (n kind : Nat) : State := s.faultAt n kind (s.needle n).pc

/-- R330, R549: ends the stitch at once, as a fault does but with no fault kind; it is dropped with WITHDRAWN. -/
def State.withdrawStitch (s : State) (n : Nat) (hold : Option (Nat × Nat)) : State :=
  let nd := s.needle n
  match nd.run with
  | none => s
  | some r =>
    let e := match r.ended with | none => some StitchEnd.withdrawn | e => e
    s.setNeedle n { nd with run := some { r with ended := e, withdraw := true, stockHold := hold },
                            mq := [], vq := [], xPend := [] }

/-- Applies `f` to the run record of the stitch on a needle. -/
def State.modRun (s : State) (n : Nat) (f : RunStitch → RunStitch) : State :=
  let nd := s.needle n
  s.setNeedle n { nd with run := nd.run.map f }

/-- R34, R142: the stitch waits for the acknowledgement of a message: twice its number, plus 1 for a knot operation. `op` tells a vector
operation by its first message (R192); `order` is its place in the order of pushes. -/
def RunStitch.awaits (r : RunStitch) (k : Nat) (op : Option Nat) (order : Nat) : RunStitch :=
  { r with unacked := r.unacked ++ [k], sentBy := FMap.set r.sentBy k (op, order) }

/-- R429: messages of the stitch go to members. -/
def RunStitch.reaches (r : RunStitch) (ms : List Nat) : RunStitch := { r with peers := (r.peers ++ ms).eraseDups }

/-- Drops a stitch with WITHDRAWN at the commit (R36), wherever its record is. -/
def State.withdrawById (s : State) (id : Nat) : State :=
  { s with
    needles := s.needles.map (fun p => (p.1, { p.2 with run := p.2.run.map (fun r =>
      if r.st.id = id then { r with withdraw := true } else r) })),
    finished := s.finished.map (fun r => if r.st.id = id then { r with withdraw := true } else r) }

-- ---------------------------------------------------------------- addresses (R129 to R131)

/-- An address as the needle splits it (R129); `none_` is any other space or a non-zero reserved bit. -/
inductive Addr where
  | ctx (seg off : Nat)
  | sleeve (off : Nat)
  | none_
  deriving DecidableEq, Repr

/-- R129: splits a 64-bit address. -/
def splitAddr (a : Nat) : Addr :=
  let sp := bits a 56 8
  if sp = 0 then (if bits a 48 8 = 0 then .ctx (bits a 42 6) (bits a 0 42) else .none_)
  else if sp = 1 then (if bits a 22 34 = 0 then .sleeve (bits a 0 22) else .none_)
  else .none_

/-- R130, R133, R543: the fault of an access of `len` bytes at a Sleeve offset, none where it is allowed; `window` says that a
vector load may read the X-window. A fenced bank faults with SLV_BOUND. -/
def Needle.sleeveFault (nd : Needle) (off len : Nat) (window : Bool) : Option Nat :=
  if off + len ≤ 0x300000 then
    (if nd.banks.any (fun b => decide (b * 0x40000 < off + len) && decide (off < (b + 1) * 0x40000)) then some fkSlvBound else none)
  else if off ≥ 0x300000 && off + len ≤ 0x300100 then (if window then none else some fkXwin)
  else some fkSlvBound

/-- The needs of an access (R148). -/
inductive Need where
  | read | write | fetch
  deriving DecidableEq, Repr

/-- R148: the fault of an access of `len` bytes at offset `off` of segment `seg`, none where every check passes. The
descriptors and region lengths are those the needle loaded at dispatch (R150). -/
def segFault (nd : Needle) (seg off len : Nat) (need : Need) : Option Nat :=
  match FMap.get? nd.segs seg with
  | none => some fkSegInvalid
  | some d =>
    if !d.valid then some fkSegInvalid
    else if d.kind ≤ 2 && !FMap.has nd.segLens seg then some fkSegInvalid
    else if (match need with | .read => !d.r | .write => !d.w | .fetch => !d.x) then some fkSegPerm
    else if off + len > 65536 * d.length then some fkSegBound
    else match FMap.get? nd.segLens seg with
      | some l => if len != 0 && d.base + (off + len - 1) / 65536 ≥ l then some fkSegBound else none
      | none => none

-- ---------------------------------------------------------------- where bytes live (R149, R289, R293, R308, R309)

/-- Where a byte of context space lives. -/
inductive Place where
  /-- A channel's byte. -/
  | stack (chan addr : Nat)
  /-- A host-physical byte; under a grant with ENC, the context whose Hem key ciphers it and the tweak of its unit (R586). -/
  | host (addr : Nat) (enc : Option (Nat × Nat))
  /-- A peer's segment. -/
  | peer (garment board pos seg off : Nat)
  /-- Nowhere: the region does not exist. -/
  | nowhere
  deriving DecidableEq, Repr

/-- R289, R293: the channel and channel byte of region chunk `j`, byte `b`, of a Pattern in the stacks; `image` is the
scratch image, 0 or 1. -/
def Pattern.stackByte (p : Pattern) (image j b : Nat) : Place :=
  let m := p.slots.length
  if m = 0 then .nowhere
  else match p.slots[j % m]? with
    | none => .nowhere
    | some (c, base) =>
      let k := if p.scratch then base + 2 * (j / m) + image else base + j / m
      .stack c (k * 65536 + b)

/-- R308, R586: the place of byte `b` of grant chunk `k` of grant `n` of context `c`. The tweak carries the index of the byte's 64-byte unit
within the grant in [41:0] and the grant number in [51:42]. -/
def Grant.byte (g : Grant) (c n k b : Nat) : Place :=
  .host (g.base + 65536 * k + b) (if g.enc then some (c, (65536 * k + b) / 64 % 2 ^ 42 + n % 1024 * 2 ^ 42) else none)

/-- R289, R308, R309: the place of region chunk `j`, byte `b`, of a Pattern of context `c`. -/
def patternByte (c : Nat) (cx : Context) (p : Pattern) (image j b : Nat) : Place :=
  if p.residence = 2 then
    match FMap.get? cx.grants p.hemGrant with
    | none => .nowhere
    | some g =>
      g.byte c p.hemGrant (if p.scratch then p.hemBase + 2 * j + image else p.hemBase + j) b
  else p.stackByte image j b

/-- R37: the committed image of a scratch chunk of a Pattern. -/
def committedImage (cx : Context) (pat j : Nat) : Nat := if cx.selectors.contains (pat * 2 ^ 32 + j) then 1 else 0

/-- Bytes per granule of an image (R312). -/
def granuleBytes : Nat := 2097152

/-- R149: the place of byte `off` of a segment of context `c` for stitch `id`: its writer reads its own writes of a
scratch chunk (R37), and writes go to the other image. -/
def State.place (s : State) (c : Nat) (d : Seg) (seg off id : Nat) (write : Bool) : Place :=
  match s.ctx? c with
  | none => .nowhere
  | some cx =>
    let j := d.base + off / 65536
    let b := off % 65536
    if d.kind ≤ 2 then
      match FMap.get? cx.patterns d.region with
      | none => .nowhere
      | some p =>
        let ci := committedImage cx d.region j
        let own := s.scratchWriters.any (fun w => w = (c, d.region, j, id))
        let image := if p.scratch && (write || own) then 1 - ci else ci
        patternByte c cx p image j b
    else if d.kind = 3 then
      match FMap.get? s.stock d.region with
      | none => .nowhere
      | some k =>
        match FMap.get? k.rebuilt j with
        | some (ch, ck) => .stack ch (65536 * ck + b)
        | none =>
          Pattern.stackByte
            { spread := 1, place := 0, scratch := false, unit := 0, hemGrant := 0, len := 0, residence := 1, hemBase := 0,
              slots := k.slots } 0 j b
    else if d.kind = 4 then
      match FMap.get? cx.grants d.region with
      | none => .nowhere
      | some g => g.byte c d.region j b
    else
      -- R147: a PEER segment names board, position and the peer's segment; the offset passes through
      .peer d.garment d.board d.pos d.pseg (off + 0 * seg)

-- ---------------------------------------------------------------- host memory under a grant with ENC (R586)

/-- Bytes as a 64-byte unit. -/
def unit64 (bs : List Byte) : List Byte := (bs ++ List.replicate 64 0).take 64

/-- R586: the serial number of a context's Hem key; 0, which no key has, once it is destroyed. -/
def State.hemKey (s : State) (c : Nat) : Nat := (FMap.get? s.thimble.hemKeys c).getD 0

/-- R586: what the host-port engine writes to host memory for a unit of a context's plaintext under a tweak. -/
def State.hemSeal (s : State) (e : Nat × Nat) (bs : List Byte) : List Byte := unit64 (Config.cipher (s.hemKey e.1) e.2 bs)

/-- R586: the plaintext of the unit that holds host byte `a`: what the engine last enciphered there while host memory still holds that
ciphertext under this key and tweak; else what deciphering gives, which is other data and no error. -/
def State.hemUnit (s : State) (e : Nat × Nat) (a : Nat) : List Byte :=
  let u := a / 64 * 64
  let p := Mem.readN s.hemPlain u 64
  let c := Mem.readN s.host u 64
  if c = s.hemSeal e p then p else unit64 (Config.decipher (s.hemKey e.1) e.2 c)

/-- R307, R586: writes whole units: 64 bytes of plaintext at host byte `a`, a multiple of 64. -/
def State.putHemUnit (s : State) (e : Nat × Nat) (a : Nat) (bs : List Byte) : State :=
  { s with host := Mem.writeN s.host a (s.hemSeal e bs), hemPlain := Mem.writeN s.hemPlain a bs }

/-- R307: a byte of Hem memory as the device reads it. -/
def State.hostByte (s : State) (a : Nat) : Option (Nat × Nat) → Byte
  | none => Mem.read s.host a
  | some e => (s.hemUnit e a).getD (a % 64) 0

/-- R307: writes a byte of Hem memory; under ENC its unit is deciphered, changed and enciphered again. -/
def State.putHostByte (s : State) (a : Nat) (enc : Option (Nat × Nat)) (v : Byte) : State :=
  match enc with
  | none => { s with host := Mem.write s.host a v }
  | some e => s.putHemUnit e (a / 64 * 64) ((s.hemUnit e a).set (a % 64) v)

/-- `n` bytes of Hem memory from `a`, a multiple of 64, whose first unit has the tweak of `enc`. -/
def State.hostRun (s : State) (a : Nat) (enc : Option (Nat × Nat)) (n : Nat) : List Byte :=
  match enc with
  | none => Mem.readN s.host a n
  | some e => ((List.range (n / 64)).map (fun i => s.hemUnit (e.1, e.2 + i) (a + 64 * i))).flatten

/-- Writes bytes of Hem memory in whole units from `a`, a multiple of 64. -/
def State.putHostRun (s : State) (a : Nat) (enc : Option (Nat × Nat)) (bs : List Byte) : State :=
  match enc with
  | none => { s with host := Mem.writeN (Mem.clearRange s.host a bs.length) a bs }
  | some e => (List.range (bs.length / 64)).foldl (fun (t : State) i => t.putHemUnit (e.1, e.2 + i) (a + 64 * i) (slice bs (64 * i) 64)) s

-- ---------------------------------------------------------------- records for host memory

/-- R43, R541: the tick to which what arises now counts: after a tick's commit it is the next. -/
def State.now (s : State) : Nat := s.tick.number + (if s.tick.past then 1 else 0)

/-- Appends a record. -/
def State.emit (s : State) (r : OutRec) : State := { s with out := s.out ++ [r] }

/-- The bytes of 32-bit words, little-endian. -/
def wordsLE (ws : List Nat) : List Byte := (ws.map (natLE 4)).flatten

/-- R450: the words of a completion: header and five result words, or the kind's own. -/
def completionWords (s : State) (status kind tag w2hi : Nat) (rest : List Nat) : List Byte :=
  wordsLE ([status + kind * 2 ^ 8 + tag * 2 ^ 16, s.tick.number % 2 ^ 32,
            s.tick.number / 2 ^ 32 % 2 ^ 16 + w2hi * 2 ^ 16] ++ (rest ++ List.replicate (5 - rest.length) 0).take 5)

end Sys2Proof.Machine
end

