-- ==== Sys2Proof/Machine/Records.lean ====
section
/-! DEFINITION. The records a commit owes to host memory: command completions (R450, R451), events (R556, R557) with the hold of
R560, and the fence report (R541, R542). -/

namespace Sys2Proof.Machine

/-- Whether the module takes work (R615). -/
def State.isReady (s : State) : Bool := s.mod.state = .ready

/-- Whether a host port's link is up and answers (R610, R615). -/
def State.hostPortUp (s : State) (port : Nat) : Bool := if port = 1 then s.mod.port0 else s.mod.port1

/-- The management spools' indices (R441). -/
def mgmtCmd : Nat := 0
def mgmtCpl : Nat := 1
def mgmtEvt : Nat := 2

/-- R556: an event record without MISSED and SEQ, which the write adds. -/
def eventBytes (tick code cls : Nat) (mgmt : Bool) (handle : Nat) (payload : List Nat) : List Byte :=
  wordsLE ([code + cls * 2 ^ 8 + (if mgmt then 2 ^ 11 else 0), tick % 2 ^ 32, tick / 2 ^ 32 % 2 ^ 16, handle] ++
    (payload ++ List.replicate (4 - payload.length) 0).take 4)

/-- R455, R557: an event to the management event spool, or held while none is open (R560). `handle` names the context
concerned, 0 for the device. -/
def State.mgmtEvent (s : State) (code cls handle : Nat) (payload : List Nat) : State :=
  let b := eventBytes s.now code cls true handle payload
  if s.mgmt.isOpen then
    s.emit { spool := mgmtEvt, gen := s.spoolGen mgmtEvt, kind := .event, ctx := 0, key := 0, bytes := b }
  else if s.mgmt.heldEvents.length < 64 then
    { s with mgmt := { s.mgmt with heldEvents := s.mgmt.heldEvents ++ [b] } }
  else { s with mgmt := { s.mgmt with heldMissed := s.mgmt.heldMissed + 1 } }

/-- R455: an event to a context's event spool, while the context is open (R560). -/
def State.ctxEvent (s : State) (c code cls : Nat) (payload : List Nat) : State :=
  match s.ctx? c with
  | none => s
  | some cx =>
    s.emit { spool := cx.evtSpool, gen := s.spoolGen cx.evtSpool, kind := .event, ctx := c + 1, key := 0,
             bytes := eventBytes s.now code cls false (s.ctxHandleOf c) payload }

/-- R557: an event of class 2 or 3 about a context goes to both spools. -/
def State.bothEvent (s : State) (c code cls : Nat) (payload : List Nat) : State :=
  (s.ctxEvent c code cls payload).mgmtEvent code cls (s.ctxHandleOf c) payload

/-- The context a command serves; none for the management owner. -/
def originCtx : Origin → Option Nat
  | .mgmt => none
  | .context c => some c
  | .window c _ => some c

/-- R511: the W_OPCODE of an Olukor command that the window carries. -/
def winOpcode (op : Nat) : Nat :=
  match [0x00, 0x01, 0x12, 0x13, 0x14, 0x16, 0x20, 0x22, 0x30, 0x31, 0x40, 0x50, 0x51, 0x52, 0x53, 0x54, 0x90, 0x91, 0x92, 0x93, 0x98,
      0x9A].findIdx? (· = op) with
  | some i => i + 1
  | none => 0

/-- R513: a completion entry is due. -/
def State.winDone (s : State) (c seq status op : Nat) (results : List Nat) : State :=
  let d : WinDone := { ctx := c, seq := seq, status := status, op := op, commit := s.tick.number, results := results }
  { s with window := { s.window with done := s.window.done ++ [d] } }

/-- R450, R451: the completion of a command: status and result words. A command of the Prosor window has its completion written
to the window's page (R513), whose record is held with the command's slot; every other goes to its completion spool. A completion
whose spool closed goes nowhere. -/
def State.complete (s : State) (r : CmdReq) (status : Nat) (results : List Nat) : State :=
  let b := completionWords s status 0 r.tag (r.opcode % 2 ^ 16) results
  match r.origin with
  | .mgmt =>
    s.emit { spool := mgmtCpl, gen := s.spoolGen mgmtCpl, kind := .command, ctx := 0, key := 2 * r.num, bytes := b }
  | .context c =>
    match s.ctx? c with
    | none => s
    | some cx =>
      s.emit { spool := cx.cplSpool, gen := s.spoolGen cx.cplSpool, kind := .command, ctx := c + 1, key := 2 * r.num, bytes := b }
  | .window c _ => s.winDone c r.tag status (winOpcode r.opcode) results

-- ---------------------------------------------------------------- withdrawing work (R36, R541)

/-- R34: whether a started stitch is finished: tied off, acknowledged and not waiting. -/
def RunStitch.isFinished (r : RunStitch) (waits : Bool) : Bool :=
  r.ended = some .tied && r.unacked = [] && !waits && !r.withdraw

/-- The contexts of the unfinished stitches that `p` selects, one entry per stitch. -/
def State.usersOf (s : State) (p : Nat → RunStitch → Bool) : List Nat :=
  (s.needles.filterMap (fun q => match q.2.run with
    | some r => if p q.1 r && !r.isFinished q.2.busy then some r.st.ctx else none
    | none => none)) ++
  s.finished.filterMap (fun r => if p r.needle r && !r.isFinished false then some r.st.ctx else none)

/-- R541: marks the unfinished stitches that `p` selects to be dropped with WITHDRAWN. -/
def State.withdrawWhere (s : State) (p : Nat → RunStitch → Bool) : State :=
  { s with
    needles := s.needles.map (fun q => (q.1, { q.2 with run := q.2.run.map (fun r =>
      if p q.1 r && !r.isFinished q.2.busy then { r with withdraw := true } else r) })),
    finished := s.finished.map (fun r => if p r.needle r && !r.isFinished false then { r with withdraw := true } else r) }

/-- A list without its repeats. -/
def dedup (l : List Nat) : List Nat := l.foldl (fun a x => if a.contains x then a else a ++ [x]) []

/-- R557: EV_FENCE, to the management owner and to each context whose stitches were withdrawn. -/
def State.evFence (s : State) (kind cause : Nat) (returned : Bool) (ident : Nat) (users : List Nat) (fenced : Nat) : State :=
  let w0 := kind + cause * 2 ^ 4 + (if returned then 2 ^ 8 else 0)
  let pay := [w0, ident, users.length, fenced]
  let s1 := s.mgmtEvent 0x01 2 0 pay
  (dedup users).foldl (fun a c => a.ctxEvent c 0x01 2 pay) s1

/-- R7, R255: the generation of an index of a kind (0 context, 1 request, 2 spool, 3 knot) advances at a close, and the index is
free again from step 3 of the second commit after this one. -/
def State.retireIndex (s : State) (kind i : Nat) : State :=
  let s := { s with freeAt := FMap.set s.freeAt (kind * 2 ^ 20 + i) (s.tick.number + 2) }
  match kind with
  | 0 => { s with ctxGens := FMap.set s.ctxGens i (nextGen (s.ctxGen i)) }
  | 1 => { s with reqGens := FMap.set s.reqGens i (nextGen (s.reqGen i)) }
  | 2 => { s with spoolGens := FMap.set s.spoolGens i (nextGen (s.spoolGen i)) }
  | _ => { s with knotGens := FMap.set s.knotGens i (nextGen (s.knotGen i)) }

/-- R255: whether an index of a kind may be given out at this commit. -/
def State.indexFree (s : State) (kind i : Nat) : Bool :=
  FMap.getD s.freeAt (kind * 2 ^ 20 + i) 0 ≤ s.tick.number

/-- The first index at or after `i`, of `fuel` indices, that is not in use and that R255 lets out. -/
def State.allocGo (s : State) (kind : Nat) (used : Nat → Bool) : Nat → Nat → Option Nat
  | _, 0 => none
  | i, fuel + 1 => if !used i && s.indexFree kind i then some i else s.allocGo kind used (i + 1) fuel

/-- R231, R255: the lowest free index from `lo` below `hi` that is not in use. -/
def State.allocIndex (s : State) (kind : Nat) (used : Nat → Bool) (lo hi : Nat) : Option Nat :=
  s.allocGo kind used lo (hi - lo)

end Sys2Proof.Machine
end

