-- ==== Sys2Proof/Machine/Peers.lean ====
section
/-! DEFINITION. Positions, boards and the routes between them (R418, R419, R422 to R424), the state of a peer for a message to it, and the
discard counters (R257). -/

namespace Sys2Proof.Machine

/-- R257: a message or command discarded for its epoch or its generation: counted from READY on, saturating, and STALE_LAST set. The SRC
field's coding is internal: a free value. -/
def State.noteStale (s : State) (gen : Bool) (kind epoch : Nat) : State :=
  if !s.isReady then s
  else
  let (src, s1) := s.drawUpTo 65535
  { s1 with
    staleEpoch := if gen then s1.staleEpoch else satAdd (2 ^ 32 - 1) s1.staleEpoch 1
    staleGen := if gen then satAdd (2 ^ 32 - 1) s1.staleGen 1 else s1.staleGen
    staleLast := BitVec.ofNat 32 (kind % 16 + (if gen then 16 else 0) + epoch % 256 * 2 ^ 8 + src * 2 ^ 16) }

/-- The device's epoch now (R48, R49): from C on no message of the commit's tick is sent or accepted, so the commit phase has the epoch of the
tick that it opens (assumption 71). -/
def State.sendEpoch (s : State) : Nat := (if s.tick.phase = .commit then s.tick.number + 1 else s.tick.number) % 256

/-- R48, R256: what a message of a kind that carries an epoch meets at its receiver: one of another epoch than this device's is discarded
without effect or acknowledgement, and counted. -/
def State.receive (s : State) (kind epoch : Nat) (f : State → State) : State :=
  if epoch != s.sendEpoch then s.noteStale false kind epoch else f s

/-- A member of a garment: 16 times its board plus its logical position. -/
def memberOf (board pos : Nat) : Nat := 16 * board + pos

/-- R419: the physical position of a logical one on this board. -/
def Board.physical (b : Board) (pos : Nat) : Nat := FMap.getD b.posMap pos pos

/-- R419: the logical position that a physical one has on this board: the one a substitution gave it, or its own. -/
def Board.logical (b : Board) (phys : Nat) : Nat :=
  match b.posMap.find? (fun p => p.2 = phys) with
  | some p => p.1
  | none => phys

/-- This device as a member. -/
def State.self (s : State) : Nat := memberOf s.board.boardId (s.board.logical s.board.posId)

/-- R418: the Thread links that join physical position `a` to physical position `b` of the same board. -/
def threadLinks (a b : Nat) : List Nat :=
  (List.range 16).filter (fun i => decide (if i < 8 then (a + i + 1) % 9 = b else (a + i + 2) % 9 = b))

/-- R418: the far end's link number of link Ti. -/
def farLink (i : Nat) : Nat := if i < 8 then 7 - i else 23 - i

/-- R414: whether a link carries payload. -/
def Link.carries (l : Link) : Bool := l.state = .up || l.state = .half || l.state = .recal

/-- R422: the ports that leave along a dimension of the torus: 0 X, 1 Y. -/
def dimPorts (dim : Nat) : List Nat := if dim = 0 then [16, 17] else [18, 19]

/-- R422: a board's coordinate in a dimension, and how many boards the array has in it. -/
def boardCoord (dim b : Nat) : Nat := if dim = 0 then b % 4 else b / 4
def Board.arraySize (b : Board) (dim : Nat) : Nat :=
  match b.arrayNow with | some (x, y) => if dim = 0 then x else y | none => 1

/-- R424, R425: whether a Selvedge port offers a route now. -/
def State.portUp (s : State) (l : Nat) : Bool := (s.link l).carries && !s.board.arrayHeld

/-- R424: whether a ring still offers a route. -/
def State.ringOpen (s : State) (dim : Nat) : Bool := (dimPorts dim).any s.portUp

/-- R423, R424: the port by which a message leaves along a dimension towards a coordinate: the shorter direction, the lower index on a tie;
with two boards both ports carry traffic, by the message's number; a port out of the routes gives way to the other. -/
def State.portFor (s : State) (dim to_ id : Nat) : Option Nat :=
  let n := s.board.arraySize dim
  let d := (to_ + n - boardCoord dim s.board.boardId) % n
  let ports := dimPorts dim
  let first := if n = 2 then ports[id % 2]? else if d ≤ n - d then ports[0]? else ports[1]?
  match first with
  | none => none
  | some p =>
    let q := if s.board.rerouted.contains p then (ports.find? (fun x => x != p)).getD p else p
    if s.portUp q then some q else none

/-- R418, R423: the link by which message `id` leaves for a member; none where no link carries it. Of a peer's links that carry payload,
the message's number chooses. -/
def State.routeLink (s : State) (member id : Nat) : Option Nat :=
  let b := member / 16
  let phys := s.board.physical (member % 16)
  if phys != s.board.posId then
    let ls := (threadLinks s.board.posId phys).filter (fun l => (s.link l).carries)
    ls[id % Nat.max 1 ls.length]?
  else if boardCoord 0 b != boardCoord 0 s.board.boardId then s.portFor 0 (boardCoord 0 b) id
  else if boardCoord 1 b != boardCoord 1 s.board.boardId then s.portFor 1 (boardCoord 1 b) id
  else none

/-- R411, R423: the virtual channel of a message that leaves by a link: plane Q or S, after the dateline where it crosses from board index
0 to the last in the port's dimension, or back. -/
def State.vcOf (s : State) (l vc : Nat) : Nat :=
  if l < 16 then vc
  else
    let dim := (l - 16) / 2
    let x := boardCoord dim s.board.boardId
    let last := s.board.arraySize dim - 1
    let crosses := if l % 2 = 0 then x = last else x = 0
    if crosses then vc % 2 + 2 else vc

/-- R237, R423, R424: what a message to a member meets: OK, FENCED where every link to its position on this board is fenced, PEER_LOST
where its position is lost or no ring offers a route. -/
def State.peerState (s : State) (m : Nat) : Nat :=
  let b := m / 16
  let phys := s.board.physical (m % 16)
  let thread : Nat :=
    if phys = s.board.posId then stOk
    else if !s.board.live.contains phys then stPeerLost
    else if (threadLinks s.board.posId phys).all (fun l => (s.link l).state = .fenced) then stFenced
    else stOk
  if m = s.self then stOk
  else if s.board.lost.contains (m % 16, b) then stPeerLost
  else if b = s.board.boardId then thread
  else if thread != stOk then thread
  else if boardCoord 0 b != boardCoord 0 s.board.boardId && !s.ringOpen 0 then stPeerLost
  else if boardCoord 1 b != boardCoord 1 s.board.boardId && !s.ringOpen 1 then stPeerLost
  else stOk

-- ---------------------------------------------------------------- deadlines (R219)

/-- R29: C, in ns after the start of the tick. -/
def TickState.commitNs (t : TickState) : Nat := t.periodNs - 8000

/-- R219: the DL of a message, in ns after the start of the tick; `at_` is its instant in half nanoseconds since C of the tick before. -/
def TickState.deadline (t : TickState) (s : Sender) (at_ : Nat) : Nat :=
  let c := t.commitNs
  let cg := c - 1000 * t.guardUs
  match s with
  | .dma d => if d = 0 then cg else Nat.min d c
  | .stitch => cg
  | .knot => cg
  | .adder d => d
  | .save => c - 4000
  | .restore => 12000
  | .reply d => d
  | .record => 4000
  | .background => c - 1000
  | .basting fg => if fg then cg else c - 1000
  | .gusset => c - 1000
  | .peer d _ => d
  | .host => at_ / 2 + 2000 - 8000

/-- R211, R219: the header of a message that a sender makes for a context, by its handle; `lock` asks for a locked sequence (R216). -/
def State.headFor (s : State) (by_ : Sender) (lock : Bool) (ctx : Nat) : MsgHead :=
  { dl := s.tick.deadline by_ 0, lock := lock, ctx := ctx }

/-- The header of a control message, Olukor's traffic (R211). COMMIT and TEAR (codes 10, 11, R371) and COMPLETE (code 7, R384) carry a DL
100 us after the start of the tick; R219 names none for the others: a free value (assumption 73). -/
def controlHead (code : Nat) : MsgHead :=
  { dl := if code = 7 || code = 10 || code = 11 then 100000 else Config.controlDl code % 2 ^ 24, lock := false, ctx := 0 }

-- ---------------------------------------------------------------- sending (R48, R411, R412)

/-- The kinds of a message over the links (R211). -/
def msgRead : Nat := 0
def msgWrite : Nat := 1
def msgAdd : Nat := 2
def msgKnot : Nat := 3
def msgControl : Nat := 7

/-- The payload bytes of a message, told from its kind and words. -/
def msgBytes (kind n : Nat) : Nat := if kind = msgWrite then n / 2 else if kind = msgAdd then 4 * n else 32

/-- R411, R412, R413: the flits of a message enter a link's retry buffer and are counted under its key. -/
def Link.send (l : Link) (msg epoch n : Nat) : Link :=
  let fs := (List.range n).map (fun i => ({ seq := (l.next + i) % 4096, epoch := epoch, message := msg } : KeptFlit))
  { l with
    retry := (l.retry ++ fs).drop (l.retry.length + n - 1024)
    next := (l.next + n) % 4096
    flits := l.flits + n }

/-- Sends a message by a link, or by none. -/
def State.sendVia (s : State) (via : Option Nat) (dest kind epoch vc : Nat) (head : MsgHead) (words : List Nat) : State :=
  let id := s.board.nextMsg
  let m : LinkMsg :=
    { id := id, dest := dest, kind := kind, epoch := epoch, words := words, via := via,
      vc := match via with | some l => s.vcOf l vc | none => vc, head := head }
  let s1 := { s with board := { s.board with
      outgoing := s.board.outgoing ++ [m]
      nextMsg := id + 1 } }
  match via with
  | none => s1
  | some l => s1.setLink l ((s1.link l).send id epoch (1 + msgBytes kind words.length / 400))

/-- Sends a message to a member: the next number is its identifier (R211). -/
def State.sendMsg (s : State) (dest kind : Nat) (head : MsgHead) (words : List Nat) : State :=
  s.sendVia (s.routeLink dest s.board.nextMsg) dest kind s.sendEpoch (if kind = 4 || kind = 5 then 1 else 0) head words

end Sys2Proof.Machine
end

