-- ==== Sys2Proof/Machine/Cmd.lean ====
section
/-! DEFINITION. What is common to every Olukor command (R447, R459 to R463): the fields of its entry and block, the checks in their
order, the context it acts on, its output buffer and its completion. -/

namespace Sys2Proof

/-- The parameter word at an offset of the entry, 0x04 to 0x3C (R446). -/
def CmdReq.w (r : CmdReq) (off : Nat) : Nat := (r.params.getD (off / 4 - 1) 0).toNat

/-- A field of a parameter word. -/
def CmdReq.f (r : CmdReq) (off lo len : Nat) : Nat := bits (r.w off) lo len

/-- Two parameter words, low word first. -/
def CmdReq.d (r : CmdReq) (off : Nat) : Nat := r.w off + 2 ^ 32 * r.w (off + 4)

/-- The word at an offset of the parameter block (R461). -/
def CmdReq.bw (r : CmdReq) (off : Nat) : Nat := leNat (slice r.block off 4)

/-- A field of a word of the block. -/
def CmdReq.bf (r : CmdReq) (off lo len : Nat) : Nat := bits (r.bw off) lo len

/-- Two words of the block, low word first. -/
def CmdReq.bd (r : CmdReq) (off : Nat) : Nat := r.bw off + 2 ^ 32 * r.bw (off + 4)

end Sys2Proof

namespace Sys2Proof.Machine

/-- What a command leaves: the state and, unless it is long-running and has started, its status and result words. -/
abbrev CmdResult := State × Option (Nat × List Nat)

/-- A row of the opcode table (R465): the opcode, whether it is a management command, whether it stages a table (S2), and what it
does. -/
structure CmdRow where
  op : Nat
  mgmt : Bool
  stages : Bool
  act : CmdReq → State → CmdResult

/-- A command that fails changes nothing (R463). -/
def State.fail (s : State) (status : Nat) : CmdResult := (s, some (status, []))

/-- A command that completes OK. -/
def State.done (s : State) (results : List Nat) : CmdResult := (s, some (stOk, results))

/-- A long-running command that has started. -/
def State.startedCmd (s : State) : CmdResult := (s, none)

/-- Ones in bits [lo+len-1:lo]. -/
def fld (lo len : Nat) : Nat := (2 ^ len - 1) * 2 ^ lo

/-- What lies at 0x30 to 0x38 of an entry (R461, R462). -/
inductive CmdForm where
  | plain | block | out
  deriving DecidableEq, Repr

/-- The words that the form itself uses. -/
def CmdForm.words : CmdForm → List (Nat × Nat)
  | .plain => []
  | .block => [(0x30, 2 ^ 32 - 1), (0x34, 2 ^ 32 - 1)]
  | .out => [(0x30, 2 ^ 32 - 1), (0x34, 2 ^ 32 - 1), (0x38, 2 ^ 32 - 1)]

/-- R12, R447, R460 to R462: reserved bits are zero and the block's or buffer's address is aligned; `allow` gives the bits that each word
from 0x08 on may use. -/
def formOk (r : CmdReq) (form : CmdForm) (allow : List (Nat × Nat)) : Bool :=
  let all := form.words ++ allow
  r.reserved = 0 && r.w 0x04 < 2 ^ 18 &&
  (List.range 14).all (fun i =>
    let off := 8 + 4 * i
    let mask := (all.filter (fun p => p.1 = off)).foldl (fun (a : Nat) p => a ||| p.2) 0
    r.w off &&& mask = r.w off) &&
  (form = .plain || r.w 0x30 % 64 = 0)

/-- R12: the words of a block outside the bits that `allow` gives are zero, over `n` words from `off`. -/
def blockOk (r : CmdReq) (off n : Nat) (allow : List (Nat × Nat)) : Bool :=
  (List.range n).all (fun i =>
    let o := off + 4 * i
    let mask := (allow.filter (fun p => p.1 = o)).foldl (fun (a : Nat) p => a ||| p.2) 0
    r.bw o &&& mask = r.bw o)

/-- R7, R8: the open context that a handle names. -/
def State.handleCtx (s : State) (h : Nat) : Option Nat :=
  let c := h % 2 ^ 10
  if FMap.has s.contexts c && h = s.ctxHandleOf c then some c else none

/-- R460: the context a context-scoped command acts on, or the status of its refusal. A context closed earlier in the same step 3 gives
ALREADY_DONE (R44, R473). -/
def State.cmdCtx (s : State) (r : CmdReq) : Except Nat Nat :=
  let h := r.w 0x04
  match originCtx r.origin with
  | some c =>
    if h = 0 || h = s.ctxHandleOf c then .ok c
    else if h / 2 ^ 10 != s.ctxGen (h % 2 ^ 10) then .error stStale
    else .error stBadParam
  | none =>
    match s.handleCtx h with
    | none => .error stStale
    | some c =>
      match s.ctx? c with
      | some cx => if cx.closing then .error stAlreadyDone else .ok c
      | none => .error stStale

/-- A context-scoped command: the form's checks, then the context's. -/
def State.ctxCmd (s : State) (r : CmdReq) (form : CmdForm) (allow : List (Nat × Nat)) (k : Nat → Context → CmdResult) : CmdResult :=
  if !formOk r form allow then s.fail stBadParam
  else match s.cmdCtx r with
  | .error e => s.fail e
  | .ok c => match s.ctx? c with
    | none => s.fail stStale
    | some cx => k c cx

/-- R460: a device-scoped command: the form's checks, and CTX is 0. -/
def State.devCmd (s : State) (r : CmdReq) (form : CmdForm) (allow : List (Nat × Nat)) (k : CmdResult) : CmdResult :=
  if !formOk r form allow || r.w 0x04 != 0 then s.fail stBadParam else k

/-- R447, R459, R472: the status that ends a command before its own parameter checks. -/
def State.gate (s : State) (row : CmdRow) (r : CmdReq) : Option Nat :=
  if r.readFailed then some stHostFault
  else if row.mgmt && r.origin != .mgmt then some stDenied
  else match originCtx r.origin with
    | some c => match s.ctx? c with
      | some cx => if cx.closing then some stAlreadyDone else none
      | none => none
    | none => none

/-- R257: a command that completes STALE is counted; the KIND the register shows for it is a free value. -/
def State.countStale (s : State) (status : Nat) : State :=
  if status = stStale then
    let (k, s1) := s.drawUpTo 15
    s1.noteStale true k s.tick.number
  else s

/-- Writes a command's completion (R448), or keeps it among the long-running ones. -/
def State.settle (p : CmdResult) (r : CmdReq) : State :=
  match p.2 with
  | some (st, res) => (p.1.countStale st).complete r st res
  | none => { p.1 with running := p.1.running ++ [r] }

/-- A command's effect with the checks before it; its status and results are not written yet. -/
def State.attempt (s : State) (row : CmdRow) (r : CmdReq) : CmdResult :=
  match s.gate row r with
  | some st => s.fail st
  | none => row.act r s

/-- R447, R463: a command is checked, acts, and completes unless it is long-running. A module that is not READY takes no command. -/
def State.perform (s : State) (row : CmdRow) (r : CmdReq) : State :=
  if !s.isReady then s else State.settle (s.attempt row { r with opcode := row.op }) { r with opcode := row.op }

/-- A long-running command of a context still running, by its number. -/
def State.runningCmd (s : State) (num : Nat) : Option CmdReq := s.running.find? (fun r => r.num = num)

/-- R448: completes a long-running command, where it still runs. -/
def State.finishCmd (s : State) (num status : Nat) (results : List Nat) : State :=
  match s.runningCmd num with
  | none => s
  | some r => ({ s with running := s.running.filter (fun x => x.num != num) }.countStale status).complete r status results

/-- R448: the completion of a long-running command is due at the next commit. -/
def State.dueCmd (s : State) (num status : Nat) (results : List Nat) : State :=
  { s with due := s.due ++ [(num, status, results)] }

/-- R462: the whole records that fit a buffer. -/
def fitRecords : Nat → List (List Byte) → List (List Byte)
  | _, [] => []
  | room, b :: t => if b.length ≤ room then b :: fitRecords (room - b.length) t else []

/-- R462: writes records to the output buffer, whole ones only; RESULT0 is how many were written, RESULT1 how many there are. -/
def State.outRecords (s : State) (r : CmdReq) (recs : List (List Byte)) : CmdResult :=
  let put := fitRecords (r.w 0x38) recs
  ({ s with host := Mem.writeN s.host (r.d 0x30) put.flatten }).done [put.length, recs.length]

/-- Bytes of a record of words, zero-filled to `n` bytes. -/
def recordOf (ws : List Nat) (n : Nat) : List Byte := (wordsLE ws ++ List.replicate n 0#8).take n

-- ---------------------------------------------------------------- objects named by handles (R8, R460)

/-- The spool that a handle names for context `c`: STALE unless it is open under that generation, BAD_PARAM when it is another's. -/
def State.cmdSpool (s : State) (c h : Nat) : Except Nat (Nat × Spool) :=
  let i := h % 2 ^ 20
  match FMap.get? s.spools i with
  | none => .error stStale
  | some sp => if sp.gen != h / 2 ^ 20 then .error stStale else if sp.owner != some c then .error stBadParam else .ok (i, sp)

/-- Whether two contexts share a garment. -/
def State.sameGarment (s : State) (a b : Nat) : Bool :=
  match s.ctx? a, s.ctx? b with
  | some x, some y => x.garment.isSome && x.garment = y.garment
  | _, _ => false

/-- The knot that a handle names for context `c`. -/
def State.cmdKnot (s : State) (c h : Nat) : Except Nat (Nat × Knot) :=
  let i := h % 2 ^ 14
  match FMap.get? s.knots i with
  | none => .error stStale
  | some k => if k.gen != h / 2 ^ 14 then .error stStale else if k.owner != c then .error stBadParam else .ok (i, k)

/-- The request that a handle names for context `c`. -/
def State.cmdReqOf (s : State) (c h : Nat) : Except Nat (Nat × Request) :=
  let i := h % 2 ^ 17
  match FMap.get? s.requests i with
  | none => .error stStale
  | some q => if q.gen != h / 2 ^ 17 then .error stStale else if q.ctx != c then .error stBadParam else .ok (i, q)

end Sys2Proof.Machine
end

