-- ==== Sys2Proof/Machine/Spools.lean ====
section
/-! DEFINITION. Spools (R246 to R254): descriptors, the index check, the records of a commit as they are written to host memory
(R42, R247, R249, R450), and MSI-X (R456). -/

namespace Sys2Proof.Machine

/-- R248: bytes of an entry. -/
def esizeBytes (e : Nat) : Nat := 8 * 2 ^ e

/-- R247, R248: the entry size a KIND must have. -/
def kindEsize (kind : Nat) : Nat :=
  match kind with
  | 0 => 3 | 3 => 1 | 6 => 3 | _ => 2

/-- R248: a spool descriptor's fields, none where one is invalid; it starts empty. `narrow` allows the 8-byte bobbins of the Prosor
window. PIDX, CIDX, GEN and OWNER are not read. -/
def readSpoolDesc (ws : List Nat) (gen : Nat) (owner : Option Nat) (narrow : Bool) : Option Spool :=
  let w := fun i => ws.getD i 0
  let base := w 0 + 2 ^ 32 * w 1
  let mirror := w 2 + 2 ^ 32 * w 3
  let a := w 6
  let b := w 7
  let esize := bits a 0 3
  let log2n := bits a 3 5
  let kind := bits a 8 4
  let port := bits a 12 2
  let sizeOk := esize = kindEsize kind || (narrow && kind = 3 && esize = 0)
  if base % 4096 = 0 && mirror % 8 = 0 && kind ≤ 6 && sizeOk && 4 ≤ log2n && log2n ≤ 24 && port != 3 && bits a 14 2 = 0 &&
      bits a 24 8 = 0 && bits b 22 10 = 0 then
    some { gen := gen, base := base, mirror := mirror, pidx := 0, cidx := 0, esize := esize, log2n := log2n, kind := kind, port := port,
           owner := owner, vector := bits b 10 11, irq := bit b 21, missed := 0, seq := 0 }
  else none

/-- R248: the words of an open spool's descriptor. -/
def Spool.words (sp : Spool) : List Nat :=
  [sp.base % 2 ^ 32, sp.base / 2 ^ 32, sp.mirror % 2 ^ 32, sp.mirror / 2 ^ 32, sp.pidx, sp.cidx,
   sp.esize + sp.log2n * 2 ^ 3 + sp.kind * 2 ^ 8 + sp.port * 2 ^ 12 + sp.gen * 2 ^ 16,
   (match sp.owner with | some c => c | none => 0) + sp.vector * 2 ^ 10 + (if sp.irq then 2 ^ 21 else 0)]

/-- R246: entries the ring holds. -/
def Spool.count (sp : Spool) : Nat := (sp.pidx + 2 ^ 32 - sp.cidx) % 2 ^ 32

/-- R246: free entries. -/
def Spool.free (sp : Spool) : Nat := 2 ^ sp.log2n - sp.count

/-- R247: kinds that the host produces. -/
def Spool.hostProduced (sp : Spool) : Bool := sp.kind = 0 || sp.kind = 4

/-- R246: where the entry of an index lies. -/
def Spool.slotAddr (sp : Spool) (i : Nat) : Nat := sp.base + esizeBytes sp.esize * (i % 2 ^ sp.log2n)

/-- Replaces a spool. -/
def State.setSpool (s : State) (i : Nat) (sp : Spool) : State := { s with spools := FMap.set s.spools i sp }

/-- R249: writes the index the device advances to MIRROR. -/
def State.writeMirror (s : State) (sp : Spool) : State :=
  { s with host := Mem.writeLE s.host sp.mirror 8 (if sp.hostProduced then sp.cidx else sp.pidx) }

/-- R18, R248, R456: a spool's vector in the table of its host port: entry `vector` of port 1 or 2 has the number 2,048 times the port plus
the vector. Where PORT leaves the choice, the lowest port whose link is up. -/
def State.vecKey (s : State) (sp : Spool) : Nat :=
  (if sp.port = 1 || sp.port = 2 then sp.port else if s.mod.port0 || !s.mod.port1 then 1 else 2) * 2048 + sp.vector

/-- R456: raises an MSI-X vector, by its number: a masked one sets its pending bit. -/
def State.raise (s : State) (v : Nat) : State :=
  let e := FMap.getD s.msix v { addr := 0, data := 0, masked := true }
  if e.masked then
    (if s.msixPending.contains v then s else { s with msixPending := s.msixPending ++ [v] })
  else { s with msixSent := v :: s.msixSent }

/-- R456: raises each vector of a list once. -/
def State.raiseAll (s : State) (vs : List Nat) : State := (dedup vs).foldl (fun (a : State) v => a.raise v) s

/-- Bytes with the 16-bit field at an offset replaced. -/
def patch16 (l : List Byte) (off v : Nat) : List Byte :=
  l.take off ++ natLE 2 v ++ l.drop (off + 2)

/-- R84, R247, R391, R556: a record with its MISSED field and, for an event, its SEQ. -/
def Spool.stampRec (sp : Spool) (b : List Byte) : List Byte :=
  let m := Nat.min 65535 sp.missed
  if sp.kind = 2 then patch16 (patch16 b 2 m) 10 (sp.seq % 65536)
  else if sp.kind = 5 || sp.kind = 6 then patch16 b 6 m
  else b

/-- R247: whether records are counted, not held, when the spool is full. -/
def Spool.counting (sp : Spool) : Bool := sp.kind = 2 || sp.kind = 5 || sp.kind = 6

/-- R252: a command, completion or event spool of an open context is always active. -/
def State.alwaysActive (s : State) (i : Nat) : Bool :=
  match FMap.get? s.spools i with
  | none => false
  | some sp => sp.kind ≤ 2 && (match sp.owner with | some c => FMap.has s.contexts c | none => false)

/-- R252: the active spool states that the engine holds. -/
def State.activeCount (s : State) : Nat := (s.spools.filter (fun p => s.alwaysActive p.1)).length + s.activeSpools.length

/-- R252: a spool with a record to be written, or with an entry taken and not yet answered, has something in flight. -/
def State.spoolInFlight (s : State) (i : Nat) : Bool :=
  s.out.any (fun r => r.spool = i) ||
    (match FMap.get? s.lists i with | some ls => ls.headTaken || ls.refused.isSome | none => false)

/-- R252: the device produces to a spool or consumes from it: it becomes active, and the least recently used state with nothing in flight
is written back and evicted when the engine has no room. -/
def State.useSpool (s : State) (i : Nat) : State :=
  if s.alwaysActive i then s
  else
    let rest := s.activeSpools.filter (fun k => k != i)
    let kept := if s.activeCount < 16384 || rest.length < s.activeSpools.length then rest
      else match rest.find? (fun k => !s.spoolInFlight k) with
        | some v => rest.filter (fun k => k != v)
        | none => rest
    { s with activeSpools := kept ++ [i] }

/-- R247, R249: one record into a device-produced spool: a full spool of a counting kind counts it. -/
def State.putRecord (s : State) (i : Nat) (sp : Spool) (b : List Byte) : State :=
  if sp.free = 0 then (if sp.counting then s.setSpool i { sp with missed := sp.missed + 1 } else s)
  else
    { ((s.useSpool i).setSpool i { sp with pidx := (sp.pidx + 1) % 2 ^ 32, missed := 0, seq := sp.seq + 1 }) with
      host := Mem.writeN s.host (sp.slotAddr sp.pidx) (sp.stampRec b) }

/-- The order of a record's kind within its spool (R42, R450). -/
def RecKind.order : RecKind → Nat
  | .stitchEnd => 0 | .requestEnd => 1 | .stepEnd => 2 | .command => 3 | .bobbin => 4 | .energyTrace => 5 | .tape => 6 | .event => 7

/-- Whether record `a` comes no later than record `b` in a spool. -/
def OutRec.before (a b : OutRec) : Bool :=
  a.kind.order < b.kind.order || (a.kind.order = b.kind.order && a.key ≤ b.key)

/-- Puts a record behind those that come no later. -/
def insertRec (r : OutRec) : List OutRec → List OutRec
  | [] => [r]
  | x :: t => if x.before r then x :: insertRec r t else r :: x :: t

/-- The records in their order, equal ones as they were raised. -/
def sortRecs (l : List OutRec) : List OutRec := l.foldl (fun a r => insertRec r a) []

/-- R248, R610: whether the host port that a spool's records take is there: PORT 0 takes either. -/
def State.spoolPortUp (s : State) (sp : Spool) : Bool := if sp.port = 0 then s.mod.port0 || s.mod.port1 else s.hostPortUp sp.port

/-- R457: a write to a spool failed: it is closed at the next commit. -/
def State.noteSpoolFault (s : State) (i gen : Nat) : State :=
  { s with fences := { s.fences with
    spoolFaults := if s.fences.spoolFaults.contains (i, gen) then s.fences.spoolFaults else s.fences.spoolFaults ++ [(i, gen)] } }

/-- R42, R450: writes the records due for spool `i` in their order and then the mirror; the vectors to raise. A record whose spool has
closed is not written, nor is one whose host port is in reset: that write fails (R457, R610). -/
def State.flushSpool (s : State) (i : Nat) : State × List Nat :=
  let mine := sortRecs (s.out.filter (fun r => r.spool = i))
  let s1 := { s with out := s.out.filter (fun r => r.spool != i) }
  match FMap.get? s1.spools i with
  | none => (s1, [])
  | some sp0 =>
    let live := mine.filter (fun r => r.gen = sp0.gen)
    if !live.isEmpty && !s.spoolPortUp sp0 then (s1.noteSpoolFault i sp0.gen, [])
    else
    let s2 := live.foldl (fun (a : State) r =>
      match FMap.get? a.spools i with | some sp => a.putRecord i sp r.bytes | none => a) s1
    match FMap.get? s2.spools i with
    | none => (s2, [])
    | some sp =>
      if sp.pidx = sp0.pidx then (s2, [])
      else (s2.writeMirror sp, if sp.irq then [s2.vecKey sp] else [])

/-- R42, R43, R456: writes every record due, those of event spools last, and raises each vector once. -/
def State.flushAll (s : State) : State :=
  let all := dedup (s.out.map (fun r => r.spool))
  let ev := dedup ((s.out.filter (fun r => r.kind = .event)).map (fun r => r.spool))
  let ids := all.filter (fun i => !ev.contains i) ++ ev
  let p := ids.foldl (fun (a : State × List Nat) i =>
    let (s1, vs) := a.1.flushSpool i
    (s1, a.2 ++ vs)) (s, [])
  p.1.raiseAll p.2

/-- R254, R255: closes a spool: what it is owed is written, and its index waits to be used again. -/
def State.closeSpool (s : State) (i : Nat) : State :=
  if !FMap.has s.spools i then s
  else
    let (s1, vs) := s.flushSpool i
    let s2a := s1.raiseAll vs
    -- a completion slot reserved for the list's head is given back (R449)
    let s2 := match FMap.get? s2a.lists i, (FMap.get? s2a.spools i).bind (fun sp => sp.owner) with
      | some ls, some c => if ls.slot then s2a.modCtx c (fun x => { x with owed := x.owed - 1 }) else s2a
      | _, _ => s2a
    { (s2.retireIndex 2 i) with
      spools := FMap.del s2.spools i
      activeSpools := s2.activeSpools.filter (fun k => k != i)
      lists := FMap.del s2.lists i
      adm := { s2.adm with pending := s2.adm.pending.filter (fun t => t.list != some i) } }

/-- R250: whether a value lies from `lo` to `hi`, counted modulo 2^32. -/
def between32 (lo v hi : Nat) : Bool :=
  (v + 2 ^ 32 - lo) % 2 ^ 32 ≤ (hi + 2 ^ 32 - lo) % 2 ^ 32

/-- R249, R250: the host's index for a spool: PIDX of a host-produced one, CIDX of a device-produced one; none where it is refused. -/
def Spool.hostIndex (sp : Spool) (v : Nat) : Option Spool :=
  if sp.hostProduced then
    (if between32 sp.pidx v ((sp.cidx + 2 ^ sp.log2n) % 2 ^ 32) then some { sp with pidx := v } else none)
  else (if between32 sp.cidx v sp.pidx then some { sp with cidx := v } else none)

/-- The doorbell page of a context, or the management page. -/
def State.page (s : State) (p : Option Nat) : DoorbellPage :=
  match p with
  | none => s.mgmtPage
  | some c => FMap.getD s.pages c DoorbellPage.reset

/-- Replaces a page. -/
def State.setPage (s : State) (p : Option Nat) (d : DoorbellPage) : State :=
  match p with
  | none => { s with mgmtPage := d }
  | some c => { s with pages := FMap.set s.pages c d }

/-- R443: a page's own command, completion or event spool, by 0, 1 or 2; none where its context is not open. -/
def State.pageSpool (s : State) (p : Option Nat) (k : Nat) : Option Nat :=
  match p with
  | none => if s.mgmt.isOpen then some k else none
  | some c => match s.ctx? c with
    | none => none
    | some cx => some (if k = 0 then cx.cmdSpool else if k = 1 then cx.cplSpool else cx.evtSpool)

/-- R250, R444: the host's index reaches spool `i` through a page: an accepted one is kept, any other sets DB_ERR.INDEX and raises
EV_SPOOL_INDEX while the context is open. -/
def State.hostIndexWrite (s : State) (p : Option Nat) (i v : Nat) : State :=
  match FMap.get? s.spools i with
  | none => s
  | some sp =>
    match sp.hostIndex v with
    | some sp1 => s.setSpool i sp1
    | none =>
      let s1 := s.setPage p { s.page p with errIndex := true }
      let held := if sp.hostProduced then sp.pidx else sp.cidx
      match p with
      | none => s1
      | some c => s1.ctxEvent c 0x13 0 [spoolHandle sp.gen i + (if sp.hostProduced then 0 else 2 ^ 28), v, held]

/-- R444: CMD_DB, CPL_DB or EVT_DB of a page. -/
def State.ownDoorbell (s : State) (p : Option Nat) (k v : Nat) : State :=
  match s.pageSpool p k with
  | none => s.setPage p { s.page p with errClosed := true }
  | some i => s.hostIndexWrite p i v

/-- R444: SPOOL_DB: it reaches the context's other spools. On the management page it is ignored (R443). A set bit of [63:60] is refused
as a handle that names no spool is. -/
def State.spoolDoorbell (s : State) (p : Option Nat) (v : Nat) : State :=
  match p with
  | none => s
  | some c =>
    if !FMap.has s.contexts c then s.setPage p { s.page p with errClosed := true }
    else
      let h := v / 2 ^ 32
      let bad := s.setPage p { s.page p with errHandle := true }
      if h ≥ 2 ^ 28 then bad
      else match s.cmdSpool c h with
        | .error _ => bad
        | .ok (i, sp) => if sp.kind ≤ 2 then bad else s.hostIndexWrite p i (v % 2 ^ 32)

-- ---------------------------------------------------------------- the commands (R494)

/-- R494: SPOOL_OPEN. -/
def actSpoolOpen (r : CmdReq) (s : State) : CmdResult :=
  s.ctxCmd r .plain ((List.range 8).map (fun i => (8 + 4 * i, 2 ^ 32 - 1))) (fun c _ =>
    let ws := (List.range 8).map (fun i => r.w (8 + 4 * i))
    let narrow := match r.origin with | .window _ _ => true | _ => false
    match s.allocIndex 2 (fun i => FMap.has s.spools i) 3 Config.spools with
    | none =>
      (match readSpoolDesc ws 1 (some c) narrow with
       | none => s.fail stBadParam
       | some sp => s.fail (if sp.kind ≤ 2 then stBadParam else stNoRoom))
    | some i =>
      match readSpoolDesc ws (s.spoolGen i) (some c) narrow with
      | none => s.fail stBadParam
      | some sp =>
        if sp.kind ≤ 2 then s.fail stBadParam
        else
          let s1 := s.setSpool i sp
          let s2 := if sp.kind = 4 then
              { s1 with lists := FMap.set s1.lists i { held := false, headTaken := false, age := none, drops := 0, slot := false, refused := none } }
            else s1
          s2.done [spoolHandle sp.gen i])

/-- Command 0x98. -/
def rowSpoolOpen : CmdRow := { op := 0x98, mgmt := false, stages := false, act := actSpoolOpen }

/-- SPOOL_OPEN, R494. -/
def execSpoolOpen (r : CmdReq) (s : State) : Host.Outcome State Fault Refusal := .next (s.perform rowSpoolOpen r)

/-- R494: SPOOL_READ writes the descriptor. -/
def actSpoolRead (r : CmdReq) (s : State) : CmdResult :=
  s.ctxCmd r .out [(0x08, fld 0 28)] (fun c _ =>
    match s.cmdSpool c (r.w 0x08) with
    | .error e => s.fail e
    | .ok (_, sp) => s.outRecords r [wordsLE sp.words])

/-- Command 0x99. -/
def rowSpoolRead : CmdRow := { op := 0x99, mgmt := false, stages := false, act := actSpoolRead }

/-- SPOOL_READ, R494. -/
def execSpoolRead (r : CmdReq) (s : State) : Host.Outcome State Fault Refusal := .next (s.perform rowSpoolRead r)

/-- R355, R454, R469, R499: what ends with a spool: requests of a bobbin fail with STALE at the next commit, a trace or Tape that names it
stops. -/
def State.spoolEnds (s : State) (i : Nat) : State :=
  { s with
    requests := s.requests.map (fun p => (p.1, if p.2.bobbin = i then { p.2 with failing := some (stStale, false) } else p.2))
    adm := { s.adm with trace := if s.adm.trace = some i then none else s.adm.trace }
    contexts := s.contexts.map (fun p => (p.1, { p.2 with
      train := { p.2.train with tapeSpool := if p.2.train.tapeSpool = some i then none else p.2.train.tapeSpool } })) }

/-- R494: SPOOL_CLOSE. -/
def actSpoolClose (r : CmdReq) (s : State) : CmdResult :=
  s.ctxCmd r .plain [(0x08, fld 0 28)] (fun c _ =>
    match s.cmdSpool c (r.w 0x08) with
    | .error e => s.fail e
    | .ok (i, sp) => if sp.kind ≤ 2 then s.fail stBadParam else ((s.spoolEnds i).closeSpool i).done [])

/-- Command 0x9A. -/
def rowSpoolClose : CmdRow := { op := 0x9A, mgmt := false, stages := false, act := actSpoolClose }

/-- SPOOL_CLOSE, R494, R254. -/
def execSpoolClose (r : CmdReq) (s : State) : Host.Outcome State Fault Refusal := .next (s.perform rowSpoolClose r)

end Sys2Proof.Machine
end

