-- ==== Sys2Proof/Machine/WinRegs.lean ====
section
/-! DEFINITION. The registers of the Prosor window and its command slots (R502 to R507), and the staging of what a register sets. -/

namespace Sys2Proof.Machine

/-- R45: stages a table entry for this tick's commit. -/
def State.stage (s : State) (e : Staged) : State := { s with shadow := s.shadow ++ [e] }

/-- R40, R81: stages what a register write sets: after the cut-off it belongs to the next tick. A POWER_LIMIT of the
same commit is applied after it (assumption 86). -/
def State.stageReg (s : State) (e : Staged) : State :=
  if s.tick.cutoff then { s with shadowNext := s.shadowNext ++ [e] } else s.stage e

-- ---------------------------------------------------------------- the window's registers (R503)

/-- Replaces the low or the high half of a 64-bit mask. -/
def putHalf (m : BitVec 64) (hi : Bool) (v : Nat) : BitVec 64 :=
  if hi then BitVec.ofNat 64 (m.toNat % 2 ^ 32 + v % 2 ^ 32 * 2 ^ 32) else BitVec.ofNat 64 (m.toNat / 2 ^ 32 * 2 ^ 32 + v % 2 ^ 32)

/-- W1C of a half of a 64-bit mask. -/
def clearHalf (m : BitVec 64) (hi : Bool) (v : Nat) : BitVec 64 :=
  m &&& ~~~(BitVec.ofNat 64 (v % 2 ^ 32 * (if hi then 2 ^ 32 else 1)))

/-- R503: a write of WIN_ENABLE_LO or _HI: a read returns it at once, and it takes effect in step 2 of its tick's commit. -/
def State.winEnableWrite (s : State) (hi : Bool) (v : Nat) : State :=
  { s with window := { s.window with enableStaged := putHalf s.window.enableStaged hi v } }.stageReg (.winEnable hi (v % 2 ^ 32))

/-- R503: the bits that WIN_PAGE_LO or _HI holds. -/
def pageBits (hi : Bool) (v : Nat) : Nat := if hi then v % 2 ^ 9 else v % 2 ^ 32 / 2 ^ 12 * 2 ^ 12

/-- R503: a write of WIN_PAGE_LO or _HI. -/
def State.winPageWrite (s : State) (hi : Bool) (v : Nat) : State :=
  let b := pageBits hi v
  let w := s.window
  { s with window := if hi then { w with pageHiStaged := BitVec.ofNat 32 b } else { w with pageLoStaged := BitVec.ofNat 32 b } }.stageReg
    (.winPage hi b)

/-- R503: WIN_PAGE as it is in force: the page's address, where VALID is set. -/
def Window.page (w : Window) : Option Nat :=
  if bit w.pageHi.toNat 8 then some (w.pageLo.toNat + w.pageHi.toNat % 2 ^ 8 * 2 ^ 32) else none

/-- R503, R507: WIN_OUT: whether a context has a command outstanding. -/
def Window.busyCtx (w : Window) (c : Nat) : Bool := w.outstanding.any (fun x => x.ctx = c)

/-- R503: WIN_ERR. -/
def Window.err (w : Window) (c cause : Nat) : Window := { w with errCtx := c, errCause := cause }

-- ---------------------------------------------------------------- the command slots (R505 to R507)

/-- Codes of WIN_ERR.CAUSE (R503). -/
def winTorn : Nat := 1
def winBusy : Nat := 2
def winSeq : Nat := 3
def winNoPage : Nat := 4

/-- R505: the words a slot keeps. -/
def Window.kept (w : Window) (c : Nat) : List Word := FMap.getD w.slots c []

/-- R505: replaces them. -/
def Window.keep (w : Window) (c : Nat) (l : List Word) : Window :=
  { w with slots := if l.isEmpty then FMap.del w.slots c else FMap.set w.slots c l }

/-- R505: a partial command is discarded. -/
def Window.tear (w : Window) (c : Nat) : Window :=
  ({ w with torn := w.torn ||| BitVec.ofNat 64 (2 ^ c) }.err c winTorn).keep c []

/-- R506, R507, R508: the doorbell: the command is discarded with its cause, or is outstanding; it belongs to this tick, or to the next after
the cut-off, and takes effect one commit later. -/
def State.winDoorbell (s : State) (c port : Nat) (words : List Word) : State :=
  let w := s.window
  let seq := bits (words.getD 0 0).toNat 8 8
  if seq = 0 || seq = FMap.getD w.seq c 0 then { s with window := w.err c winSeq }
  else if w.page.isNone then { s with window := w.err c winNoPage }
  else if w.busyCtx c then { s with window := { w with busy := w.busy ||| BitVec.ofNat 64 (2 ^ c) }.err c winBusy }
  else
    let x : WinCmd := { ctx := c, words := words, port := port, at_ := s.tick.number + (if s.tick.cutoff then 2 else 1), started := none }
    { s with window := { w with outstanding := w.outstanding ++ [x] } }

/-- R505: a write of word `i` of a slot; `whole` says that it is a naturally aligned 32-bit one. -/
def State.winSlotWrite (s : State) (c i port : Nat) (v : Word) (whole : Bool) : State :=
  let w := s.window
  let l := w.kept c
  if whole && i = l.length then
    let l1 := l ++ [v]
    if i = 7 then { s with window := w.keep c [] }.winDoorbell c port l1 else { s with window := w.keep c l1 }
  else if whole && i = 0 then { s with window := (w.tear c).keep c [v] }
  else { s with window := w.tear c }

/-- R502, R503: a write of BAR2. -/
def State.winAccess (s : State) (port off size v : Nat) : State :=
  let whole := decide (size = 4) && decide (off % 4 = 0)
  let w := s.window
  if off < 0x800 then s.winSlotWrite (off / 0x20) (off % 0x20 / 4) port (BitVec.ofNat 32 v) whole
  else if !whole then s
  else if off = 0x1000 then s.winEnableWrite false v
  else if off = 0x1004 then s.winEnableWrite true v
  else if off = 0x1008 then s.winPageWrite false v
  else if off = 0x100C then s.winPageWrite true v
  else if off = 0x1018 then { s with window := { w with torn := clearHalf w.torn false v } }
  else if off = 0x101C then { s with window := { w with torn := clearHalf w.torn true v } }
  else if off = 0x1020 then { s with window := { w with busy := clearHalf w.busy false v } }
  else if off = 0x1024 then { s with window := { w with busy := clearHalf w.busy true v } }
  else s

/-- R440, R502, R503: what a naturally aligned 32-bit read of BAR2 returns: WIN_ENABLE and WIN_PAGE as they were last written (RWC), the
read-only WIN_STATUS, WIN_ERR and WIN_OUT, and zero of the command slots and of every other offset. -/
def State.winRead (s : State) (off : Nat) : Nat :=
  let w := s.window
  let half (m hi : Nat) : Nat := m / 2 ^ (32 * hi) % 2 ^ 32
  let out := w.outstanding.foldl (fun (a : Nat) x => a ||| 2 ^ x.ctx) 0
  if off = 0x1000 then half w.enableStaged.toNat 0
  else if off = 0x1004 then half w.enableStaged.toNat 1
  else if off = 0x1008 then w.pageLoStaged.toNat
  else if off = 0x100C then w.pageHiStaged.toNat
  else if off = 0x1010 then (if s.isReady && !s.thimble.approved then 1 else 0)
  else if off = 0x1018 then half w.torn.toNat 0
  else if off = 0x101C then half w.torn.toNat 1
  else if off = 0x1020 then half w.busy.toNat 0
  else if off = 0x1024 then half w.busy.toNat 1
  else if off = 0x1028 then w.errCtx % 64 + w.errCause % 8 * 2 ^ 6
  else if off = 0x1030 then half out 0
  else if off = 0x1034 then half out 1
  else 0

/-- WIN_SLOT_WRITE, R505: `whole` says that the write is a naturally aligned 32-bit one. -/
def execWinSlotWrite (wslot word port value : Nat) (whole : Bool) (s : State) : Host.Outcome State Fault Refusal :=
  if 64 ≤ wslot || 8 ≤ word || port = 0 || 2 < port then .fault .noSuchUnit
  else if !s.isReady || !s.hostPortUp port then .next s else .next (s.winSlotWrite wslot word port (BitVec.ofNat 32 value) whole)

/-- WIN_ENABLE_WRITE, R503. -/
def execWinEnableWrite (port : Nat) (hi : Bool) (value : Nat) (s : State) : Host.Outcome State Fault Refusal :=
  if port = 0 || 2 < port then .fault .noSuchUnit
  else if !s.isReady || !s.hostPortUp port then .next s else .next (s.winEnableWrite hi value)

/-- WIN_PAGE_WRITE, R503. -/
def execWinPageWrite (port : Nat) (hi : Bool) (value : Nat) (s : State) : Host.Outcome State Fault Refusal :=
  if port = 0 || 2 < port then .fault .noSuchUnit
  else if !s.isReady || !s.hostPortUp port then .next s else .next (s.winPageWrite hi value)

end Sys2Proof.Machine
end

