-- ==== Sys2Proof/Machine/Host.lean ====
section
/-! DEFINITION. The mailboxes (chapter 18): doorbell pages, registers of BAR0 and BAR4 (R28, R81, R82, R257, R437 to R445), the management
spools (R441, R442) and the fetch of commands (R41, R446, R447, R449, R461). -/

namespace Sys2Proof.Machine

-- ---------------------------------------------------------------- doorbells (R443 to R445)

/-- CMD_DB_WRITE, R444: through a context's page, or the management page. -/
def execCmdDbWrite (page : Option Nat) (port value : Nat) (s : State) : Host.Outcome State Fault Refusal :=
  if port = 0 || 2 < port then .fault .noSuchUnit
  else if !s.isReady || !s.hostPortUp port then .next s else .next (s.ownDoorbell page 0 (value % 2 ^ 32))

/-- CPL_DB_WRITE, R444. -/
def execCplDbWrite (page : Option Nat) (port value : Nat) (s : State) : Host.Outcome State Fault Refusal :=
  if port = 0 || 2 < port then .fault .noSuchUnit
  else if !s.isReady || !s.hostPortUp port then .next s else .next (s.ownDoorbell page 1 (value % 2 ^ 32))

/-- EVT_DB_WRITE, R444. -/
def execEvtDbWrite (page : Option Nat) (port value : Nat) (s : State) : Host.Outcome State Fault Refusal :=
  if port = 0 || 2 < port then .fault .noSuchUnit
  else if !s.isReady || !s.hostPortUp port then .next s else .next (s.ownDoorbell page 2 (value % 2 ^ 32))

/-- SPOOL_DB_WRITE, R444: one 64-bit write. -/
def execSpoolDbWrite (page : Option Nat) (port value : Nat) (s : State) : Host.Outcome State Fault Refusal :=
  if port = 0 || 2 < port then .fault .noSuchUnit
  else if !s.isReady || !s.hostPortUp port then .next s else .next (s.spoolDoorbell page (value % 2 ^ 64))

-- ---------------------------------------------------------------- the device page (R28, R81, R82, R83, R257, R440)

/-- R28: TICK_STATE.PHASE. -/
def Phase.code : Phase → Nat
  | .admission => 0 | .run => 1 | .guardBand => 2 | .commit => 3

/-- R28: TICK_CFG. -/
def TickState.cfgWord (t : TickState) : Nat := t.periodCode + t.guardUs * 2 ^ 16

/-- R28: TICK_STATE. -/
def TickState.stateWord (t : TickState) : Nat :=
  t.phase.code + (if t.isMaster then 4 else 0) + (if t.freeRun then 8 else 0) + t.masterPos * 2 ^ 4 + t.number % 256 * 2 ^ 8

/-- R81: POWER_CFG as a read returns it. -/
def Admission.cfgWord (a : Admission) : Nat := a.limitStaged + a.reserveStaged * 2 ^ 16 + a.tlimStaged * 2 ^ 24

/-- R83: ADMIT_ENERGY. -/
def Admission.energyWord (a : Admission) : Nat :=
  Nat.min 65535 (roundUnits a.budgetMj).toNat + Nat.min 65535 (roundUnits a.energyMj).toNat * 2 ^ 16

/-- R82: PANEL_THERMn as a read returns it; how a derate of no whole percent reads is free (assumption 20). -/
def Panel.word (p : Panel) : Nat :=
  p.tempC % 256 + p.forecastC % 256 * 2 ^ 8 + (roundUnits ((p.derate : Rat) / 10)).toNat % 128 * 2 ^ 16 + (if p.hot then 2 ^ 23 else 0) + (if p.droop then 2 ^ 24 else 0) +
    p.freqStaged * 2 ^ 25

/-- R433: the free spares of the board: live positions of the mask that hold no logical identity but their own. -/
def Board.freeSpares (b : Board) : List Nat :=
  (List.range 9).filter (fun p => bit b.spareMask p && b.live.contains p && !b.posMap.any (fun q => q.2 = p && q.1 != p))

/-- R81: whether every field of a POWER_CFG value is in range. -/
def powerCfgOk (v : Nat) : Bool :=
  150 ≤ bits v 0 9 && bits v 0 9 ≤ 360 && bits v 16 5 ≤ 25 && 70 ≤ bits v 24 7 && bits v 24 7 ≤ 105

/-- R81: stages the three module settings; a read returns them at once (RWC). -/
def State.setPower (s : State) (v : Nat) : State :=
  { s with adm := { s.adm with limitStaged := bits v 0 9, reserveStaged := bits v 16 5, tlimStaged := bits v 24 7 } }

/-- POWER_CFG_WRITE, R81. -/
def execPowerCfgWrite (value : Nat) (s : State) : Host.Outcome State Fault Refusal :=
  if !s.isReady || !powerCfgOk value then .next s
  else .next ((s.setPower value).stageReg (.power (bits value 0 9) (bits value 16 5) (bits value 24 7)))

/-- R82: stages a panel's clock; a read returns it at once. -/
def State.setFreq (s : State) (p code : Nat) : State := s.setPanel p { s.panel p with freqStaged := code }

/-- PANEL_THERM_WRITE, R82. -/
def execPanelThermWrite (panel value : Nat) (s : State) : Host.Outcome State Fault Refusal :=
  if Config.panels ≤ panel then .fault .noSuchUnit
  else if !s.isReady || 48 < bits value 25 6 then .next s
  else .next ((s.setFreq panel (bits value 25 6)).stageReg (.freq panel (bits value 25 6)))

/-- R28: the tick that the registers show: from reset until READY, the reset values. -/
def State.shownTick (s : State) : TickState :=
  match s.mod.state with
  | .ready => s.tick
  | .withdrawn => s.tick
  | _ => TickState.reset

/-- R28: a read of TICK_NOW_LO latches TICK_NOW_HI. -/
def State.latchTick (s : State) : State := { s with tick := { s.tick with hiLatch := s.shownTick.number / 2 ^ 32 % 2 ^ 16 } }

/-- TICK_NOW_LO_READ, R28. -/
def execTickNowLoRead (s : State) : Host.Outcome State Fault Refusal :=
  if !s.isReady then .next s else .next s.latchTick

-- ---------------------------------------------------------------- the management mailboxes (R441, R442)

/-- R442: OPEN through a port: ignored with ERR while the spools are open, or where it would take effect before the second commit after they
closed; one that comes after C takes effect at the next tick's commit. -/
def State.mgmtOpenWrite (s : State) (port : Nat) : State :=
  let early := match s.mgmt.closedAt with | some n => decide (s.tick.number + (if s.tick.phase = .commit then 1 else 0) < n + 2) | none => false
  if s.mgmt.isOpen || early then { s with mgmt := { s.mgmt with err := true } }
  else { s with mgmt := { s.mgmt with openAsked := some port } }

/-- MGMT_CTRL_OPEN, R442. -/
def execMgmtCtrlOpen (port : Nat) (s : State) : Host.Outcome State Fault Refusal :=
  if port = 0 || 2 < port then .fault .noSuchUnit
  else if !s.isReady || !s.hostPortUp port then .next s else .next (s.mgmtOpenWrite port)

/-- MGMT_CTRL_CLOSE, R442. -/
def execMgmtCtrlClose (port : Nat) (s : State) : Host.Outcome State Fault Refusal :=
  if port = 0 || 2 < port then .fault .noSuchUnit
  else if !s.isReady || !s.hostPortUp port then .next s else .next { s with mgmt := { s.mgmt with closeAsked := true } }

/-- R442: the descriptors of the setup block, where all three are valid. -/
def State.setupBlock (s : State) : Option (Spool × Spool × Spool) :=
  if s.mgmt.setup % 32 != 0 then none
  else
    let rd := fun k (i : Nat) =>
      readSpoolDesc ((List.range 8).map (fun j => Mem.readLE s.host (s.mgmt.setup + 32 * k + 4 * j) 4)) (s.spoolGen i) none false
    match rd 0 0, rd 1 1, rd 2 2 with
    | some a, some b, some c => if a.kind = 0 && b.kind = 1 && c.kind = 2 then some (a, b, c) else none
    | _, _, _ => none

/-- R442, R560: step 3 of a commit opens the management spools, or sets ERR; the events held until then are due. -/
def State.openMgmt (s : State) : State :=
  match s.mgmt.openAsked with
  | none => s
  | some port =>
    let s0 := { s with mgmt := { s.mgmt with openAsked := none } }
    match s.setupBlock with
    | none => { s0 with mgmt := { s0.mgmt with err := true } }
    | some (a, b, c) =>
      let s1 := { s0 with
        spools := FMap.set (FMap.set (FMap.set s0.spools 0 a) 1 b) 2 { c with missed := s0.mgmt.heldMissed }
        mgmt := { s0.mgmt with isOpen := true, port := port, heldEvents := [], heldMissed := 0 } }
      s0.mgmt.heldEvents.foldl (fun (st : State) e =>
        st.emit { spool := mgmtEvt, gen := c.gen, kind := .event, ctx := 0, key := 0, bytes := e }) s1

/-- R254, R442: step 3 of a commit closes the management spools; what is owed to them is written, and commands not fetched are
discarded. -/
def State.closeMgmt (s : State) : State :=
  if !s.mgmt.closeAsked then s
  else
    let s0 := { s with mgmt := { s.mgmt with closeAsked := false } }
    if !s0.mgmt.isOpen then s0
    else
      let s1 := [0, 1, 2].foldl (fun (a : State) i =>
        let (b, vs) := a.flushSpool i
        let c := b.raiseAll vs
        { c with spools := FMap.del c.spools i, spoolGens := FMap.set c.spoolGens i (nextGen (c.spoolGen i)) }) s0
      { s1 with
        mgmt := { s1.mgmt with isOpen := false, port := 0, closedAt := some s1.tick.number }
        running := s1.running.filter (fun r => r.origin != .mgmt)
        fetched := s1.fetched.filter (fun p => p.2.origin != .mgmt) }

/-- R442: MGMT_CTRL as a read returns it. -/
def Mgmt.ctrlWord (m : Mgmt) : Nat :=
  (if m.isOpen then 2 ^ 8 else 0) + m.port * 2 ^ 9 + (if m.err then 2 ^ 11 else 0)

-- ---------------------------------------------------------------- other registers (R437 to R440)

/-- Where an offset of BAR0 falls: a doorbell page with the offset inside it, the device page, or nothing (R438). -/
inductive BarPlace where
  | device (off : Nat)
  | page (p : Option Nat) (off : Nat)
  | nothing
  deriving DecidableEq, Repr

/-- R438: the map of BAR0. -/
def barPlace (off : Nat) : BarPlace :=
  if off < 0x1000 then .device off
  else if off < 0x2000 then .page none (off - 0x1000)
  else if 0x400000 ≤ off && off < 0x800000 then .page (some ((off - 0x400000) / 0x1000)) (off % 0x1000)
  else .nothing

/-- R439: a write that is not a naturally aligned 32-bit access, nor SPOOL_DB's 64-bit one; a 32-bit access of SPOOL_DB is none either. -/
def accessOk (off size : Nat) (write : Bool) : Bool :=
  match barPlace off with
  | .page _ o =>
    if o = 0x10 then write && size = 8 else size = 4 && o % 4 = 0 && o != 0x14
  | _ => size = 4 && off % 4 = 0

/-- DB_ERR as a read returns it (R443). -/
def DoorbellPage.errWord (d : DoorbellPage) : Nat :=
  (if d.errIndex then 1 else 0) + (if d.errSize then 2 else 0) + (if d.errHandle then 4 else 0) + (if d.errClosed then 8 else 0)

/-- W1C of DB_ERR (R443). -/
def DoorbellPage.clearErr (d : DoorbellPage) (v : Nat) : DoorbellPage :=
  { d with
    errIndex := d.errIndex && !bit v 0
    errSize := d.errSize && !bit v 1
    errHandle := d.errHandle && !bit v 2
    errClosed := d.errClosed && !bit v 3 }

/-- A mask of positions. -/
def posMask (ps : List Nat) : Nat := ps.foldl (fun (a : Nat) p => if p < 9 then a ||| 2 ^ p else a) 0

/-- R436: BOARD_STATE as the commit forms it. -/
def State.boardWord (s : State) : Nat :=
  s.board.posId % 16 + s.board.boardId % 16 * 2 ^ 4 + (if s.board.arrayStrap then 2 ^ 8 else 0) +
  posMask s.board.live * 2 ^ 9 + posMask s.board.freeSpares * 2 ^ 18 + s.board.mapVersion % 16 * 2 ^ 27 +
  (if s.board.isolated then 2 ^ 31 else 0)

/-- R440, R442, R443: what a naturally aligned 32-bit read of BAR0 returns; SPOOL_DB and unassigned offsets read zero, and so does every page
but the device page after a withdrawal (R553). -/
def State.regRead (s : State) (off : Nat) : Nat :=
  match barPlace off with
  | .nothing => 0
  | .device o =>
    if o = 0x000 then s.devStatus.toNat
    else if o = 0x010 then s.shownTick.number % 2 ^ 32
    else if o = 0x014 then s.shownTick.hiLatch
    else if o = 0x018 then s.shownTick.cfgWord
    else if o = 0x01C then s.shownTick.stateWord
    else if o = 0x020 then s.adm.cfgWord
    else if o = 0x024 then s.adm.energyWord
    else if 0x030 ≤ o && o < 0x048 && o % 4 = 0 then (s.panel ((o - 0x030) / 4)).word
    else if o = 0x050 then s.staleEpoch
    else if o = 0x054 then s.staleGen
    else if o = 0x058 then s.staleLast.toNat
    else if o = 0x060 then s.boardState.toNat
    else if o = 0x100 then s.mgmt.setup % 2 ^ 32
    else if o = 0x104 then s.mgmt.setup / 2 ^ 32
    else if o = 0x108 then s.mgmt.ctrlWord
    else 0
  | .page p o =>
    if !s.isReady then 0 else
    let idx := fun k (f : Spool → Nat) =>
      match s.pageSpool p k with
      | some i => (match FMap.get? s.spools i with | some sp => f sp | none => 0)
      | none => 0
    if o = 0x000 then idx 0 Spool.pidx
    else if o = 0x004 then idx 1 Spool.cidx
    else if o = 0x008 then idx 2 Spool.cidx
    else if o = 0x020 then idx 0 Spool.cidx
    else if o = 0x024 then idx 1 Spool.pidx
    else if o = 0x028 then idx 2 Spool.pidx
    else if o = 0x02C then
      (s.page p).ctxStatus.toNat + (match p with | some c => if s.tick.committed then s.ctxGen c * 2 ^ 8 else 0 | none => 0)
    else if o = 0x030 then (s.page p).errWord
    else 0

/-- R437, R456: what a 32-bit read of BAR4 through a port returns: a word of the MSI-X table, or of the array of pending bits at 0x8000. -/
def State.msixRead (s : State) (port off : Nat) : Nat :=
  if off < 0x8000 then
    let e := FMap.getD s.msix (port * 2048 + off / 16) { addr := 0, data := 0, masked := true }
    match off % 16 / 4 with
    | 0 => e.addr % 2 ^ 32
    | 1 => e.addr / 2 ^ 32 % 2 ^ 32
    | 2 => e.data % 2 ^ 32
    | _ => if e.masked then 1 else 0
  else
    (List.range 32).foldl (fun (a : Nat) i =>
      a + (if off < 0x8100 && s.msixPending.contains (port * 2048 + 8 * (off - 0x8000) + i) then 2 ^ i else 0)) 0

/-- R11, R437 to R440, R502: what a read of a BAR through a port returns; zero where the access is not a naturally aligned 32-bit one, at
an offset that is not assigned, and of every write-only field. -/
def State.barRead (s : State) (port bar off size : Nat) : Nat :=
  if size != 4 || off % 4 != 0 then 0
  else if bar = 0 then (if accessOk off size false then s.regRead off else 0)
  else if bar = 2 then s.winRead off
  else if bar = 4 then s.msixRead port off
  else 0

/-- R437, R456: a word of the MSI-X table; clearing the mask of a vector that is pending sends its message. -/
def State.msixWrite (s : State) (port off v : Nat) : State :=
  let i := port * 2048 + off / 16
  let e := FMap.getD s.msix i { addr := 0, data := 0, masked := true }
  let e1 : MsixEntry :=
    match off % 16 / 4 with
    | 0 => { e with addr := e.addr / 2 ^ 32 * 2 ^ 32 + v }
    | 1 => { e with addr := e.addr % 2 ^ 32 + v * 2 ^ 32 }
    | 2 => { e with data := v }
    | _ => { e with masked := bit v 0 }
  let s1 := { s with msix := FMap.set s.msix i e1 }
  if !e1.masked && s1.msixPending.contains i then
    { s1 with msixPending := s1.msixPending.filter (· != i), msixSent := i :: s1.msixSent }
  else s1

/-- R439 to R444: a well-formed write of BAR0, by the register at the offset. Read-only registers ignore it. -/
def State.barWrite (s : State) (port off v : Nat) : State :=
  match barPlace off with
  | .nothing => s
  | .device o =>
    if o = 0x020 then
      (if powerCfgOk v then (s.setPower v).stageReg (.power (bits v 0 9) (bits v 16 5) (bits v 24 7)) else s)
    else if 0x030 ≤ o && o < 0x048 then
      (if bits v 25 6 ≤ 48 then (s.setFreq ((o - 0x030) / 4) (bits v 25 6)).stageReg (.freq ((o - 0x030) / 4) (bits v 25 6)) else s)
    else if o = 0x100 then { s with mgmt := { s.mgmt with setup := s.mgmt.setup / 2 ^ 32 * 2 ^ 32 + v } }
    else if o = 0x104 then { s with mgmt := { s.mgmt with setup := s.mgmt.setup % 2 ^ 32 + v * 2 ^ 32 } }
    else if o = 0x108 then
      let s1 := if bit v 11 then { s with mgmt := { s.mgmt with err := false } } else s
      let s2 := if bit v 0 then s1.mgmtOpenWrite port else s1
      if bit v 1 then { s2 with mgmt := { s2.mgmt with closeAsked := true } } else s2
    else s
  | .page p o =>
    if o = 0x000 then s.ownDoorbell p 0 v
    else if o = 0x004 then s.ownDoorbell p 1 v
    else if o = 0x008 then s.ownDoorbell p 2 v
    else if o = 0x010 then s.spoolDoorbell p v
    else if o = 0x030 then s.setPage p ((s.page p).clearErr v)
    else s

/-- REGISTER_WRITE, R437 to R440: an access of a BAR: `write` false is a read, whose only effects are TICK_NOW_LO's latch and, where it
is ill-formed, DB_ERR.SIZE. -/
def execRegisterWrite (port bar off size value : Nat) (write : Bool) (s : State) : Host.Outcome State Fault Refusal :=
  if port = 0 || 2 < port then .fault .noSuchUnit
  else if !s.isReady || !s.hostPortUp port then .next s
  else if bar = 4 then
    (if write && size = 4 && off % 4 = 0 && off < 0x8000 then .next (s.msixWrite port off (value % 2 ^ 32)) else .next s)
  else if bar = 2 then .next (if write then s.winAccess port off size (value % 2 ^ (8 * size)) else s)
  else if bar != 0 then .next s
  else if !accessOk off size write then
    match barPlace off with
    | .page p _ => .next (s.setPage p { s.page p with errSize := true })
    | _ => .next s
  else if write then .next (s.barWrite port off (value % 2 ^ (8 * size)))
  else if off = 0x010 then .next s.latchTick
  else .next s

-- ---------------------------------------------------------------- the fetch of commands (R41, R446, R447, R449, R461)

/-- R461: how many bytes of parameter block a command has, told from its entry and, for a Pattern record, from the block's own head;
none for a command without one. `rd` reads the block's word at an offset. -/
def blockBytes (op : Nat) (w : Nat → Nat) (rd : Nat → Nat) : Option Nat :=
  let slots := fun base => if bits (rd base) 10 2 = 0 then 4 * bits (rd (base + 8)) 0 10 else 0
  match op with
  | 0x10 => some 128
  | 0x20 => some (32 + slots 0)
  | 0x40 => some (if bit (rd 0) 2 then 160 + 32 + slots 160 else 160)
  | 0x51 => some 96
  | 0x70 => some 80
  | 0xA0 => some (2 * bits (w 0x08) 16 8)
  | 0xA4 => some (w 0x14)
  | 0xC0 => some (4 * bits (w 0x0C) 0 9)
  | _ => none

/-- R359: whether a STEP_BEGIN with this ATTEMPT would open a REDUCE step. -/
def Train.reduces (t : Train) (attempt : Nat) : Bool := attempt != 0 || t.accEvery ≤ t.localSteps + 1

/-- R449: how many completions a command adds. -/
def State.slotsOf (s : State) (r : CmdReq) : Nat :=
  let c := match originCtx r.origin with | some c => c | none => r.w 0x04 % 2 ^ 10
  if r.opcode = 0x51 then 2
  else if r.opcode = 0x60 then
    (match s.ctx? c with | some cx => if cx.train.reduces (r.f 0x0C 0 4) then 2 else 1 | none => 1)
  else 1

/-- R449: completions that a completion spool is owed: of commands fetched and not completed, of those written to no ring yet, and of
stitches, requests and steps. -/
def State.owedTo (s : State) (o : Origin) (cpl : Nat) : Nat :=
  ((s.fetched.filter (fun p => p.2.origin = o)).map (fun p => s.slotsOf p.2)).foldl (· + ·) 0 +
  (s.running.filter (fun r => r.origin = o)).length +
  (s.out.filter (fun r => r.spool = cpl)).length +
  (match o with | .context c => (match s.ctx? c with | some cx => cx.owed | none => 0) | _ => 0)

/-- R446: the entry at an address, as a fetched command. -/
def State.readEntry (s : State) (o : Origin) (port a : Nat) (readFailed blockFailed : Bool) : CmdReq :=
  let w := fun off => Mem.readLE s.host (a + off) 4
  if readFailed then
    { origin := o, port := port, num := s.nextCmd, opcode := 0, tag := 0, reserved := 0, params := [], block := [], readFailed := true }
  else
    let w0 := w 0
    let addr := w 0x30 + 2 ^ 32 * w 0x34
    let len := blockBytes (w0 % 256) w (fun off => Mem.readLE s.host (addr + off) 4)
    { origin := o, port := port, num := s.nextCmd, opcode := w0 % 256, tag := w0 / 2 ^ 16, reserved := bits w0 8 8,
      params := (List.range 15).map (fun i => BitVec.ofNat 32 (w (4 + 4 * i))),
      block := (match len with | some n => if addr % 64 = 0 && !blockFailed then Mem.readN s.host addr n else [] | none => []),
      readFailed := blockFailed && len.isSome && decide (addr % 64 = 0) }

/-- R40, R447, R449: fetches the next entry of a page's command spool: CIDX advances and its mirror is written. -/
def State.fetch (s : State) (page : Option Nat) (readFailed blockFailed : Bool) : State :=
  match s.pageSpool page 0, s.pageSpool page 1 with
  | some ci, some pi =>
    match FMap.get? s.spools ci, FMap.get? s.spools pi with
    | some cmd, some cpl =>
      if cmd.count = 0 then s
      else
        let o : Origin := match page with | none => .mgmt | some c => .context c
        let port := if cmd.port = 0 then (if page.isNone then s.mgmt.port else 1) else cmd.port
        let r := s.readEntry o port (cmd.slotAddr cmd.cidx) (readFailed || !s.spoolPortUp cmd) blockFailed
        let after := (cmd.pidx + 2 ^ 32 - FMap.getD s.cutPidx ci cmd.cidx) % 2 ^ 32
        let tk := if s.tick.cutoff && cmd.count ≤ after then s.tick.number + 1 else s.tick.number
        if 4096 ≤ (s.fetched.filter (fun p => p.1 = tk)).length then s
        else if cpl.free < s.owedTo o pi + s.slotsOf r then s
        else
          let cmd1 := { cmd with cidx := (cmd.cidx + 1) % 2 ^ 32 }
          let s1 := ({ s with fetched := s.fetched ++ [(tk, r)], nextCmd := s.nextCmd + 1 }.useSpool ci |>.setSpool ci cmd1).writeMirror cmd1
          if cmd1.irq && !s1.msixSent.contains (s1.vecKey cmd1) then s1.raise (s1.vecKey cmd1) else s1
    | _, _ => s
  | _, _ => s

/-- COMMAND_FETCH, R447: `readFailed` and `blockFailed` say that the host port reported the read of the entry, or of its block, as
failed. -/
def execCommandFetch (page : Option Nat) (readFailed blockFailed : Bool) (s : State) : Host.Outcome State Fault Refusal :=
  if !s.isReady then .next s else .next (s.fetch page readFailed blockFailed)

end Sys2Proof.Machine
end

