-- ==== Sys2Proof/Machine/Fp64.lean ====
section
/-! DEFINITION. FP64 as the ledger uses it (R381, R382): codes, rounding to nearest-even and upward, sums and products. -/

namespace Sys2Proof

/-- The value of an FP64 code. -/
def f64Read (c : Nat) : FVal :=
  let neg := bit c 63
  let ex := bits c 52 11
  let m := bits c 0 52
  if ex = 2047 then (if m = 0 then .inf neg else .nan)
  else if ex = 0 then .fin neg m (-1074)
  else .fin neg (2 ^ 52 + m) ((ex : Int) - 1075)

/-- The code of an FP64 value whose significand fits. -/
def f64Encode : FVal → Nat
  | .nan => 0x7FF8000000000000
  | .inf neg => (if neg then 2 ^ 63 else 0) + 0x7FF0000000000000
  | .fin neg m e =>
    let s := if neg then 2 ^ 63 else 0
    if m = 0 then s
    else
      let k := Nat.log2 m
      if (k : Int) + e < -1022 then s + m * 2 ^ (e + 1074).toNat / 2 ^ (-(e + 1074)).toNat
      else
        let sig := if k ≤ 52 then m * 2 ^ (52 - k) else m / 2 ^ (k - 52)
        s + ((k : Int) + e + 1023).toNat * 2 ^ 52 + sig % 2 ^ 52

/-- Rounds a finite value to FP64: to nearest-even, or upward in magnitude for a value that is not negative. -/
def f64Round (up : Bool) : FVal → FVal
  | .fin neg m e =>
    if m = 0 then .fin neg 0 0
    else
      let q : Int := max ((Nat.log2 m : Int) + e - 52) (-1074)
      let a := if up then (let t := roundMag .towardZero m e q; if q ≤ e || m % 2 ^ (q - e).toNat = 0 then t else t + 1)
        else roundMag .nearestEven m e q
      if 1024 ≤ (Nat.log2 a : Int) + q then .inf neg else .fin neg a q
  | v => v

/-- The exact sum of two values. -/
def f64Exact (a b : FVal) : FVal :=
  match a, b with
  | .nan, _ => .nan
  | _, .nan => .nan
  | .inf x, .inf y => if x = y then .inf x else .nan
  | .inf x, _ => .inf x
  | _, .inf y => .inf y
  | .fin n1 m1 e1, .fin n2 m2 e2 =>
    let (s, e) := sumExact n1 m1 e1 n2 m2 e2
    if s = 0 then .fin (n1 && n2) 0 0 else .fin (decide (s < 0)) s.natAbs e

/-- FP64 addition. -/
def f64Add (up : Bool) (a b : FVal) : FVal := f64Round up (f64Exact a b)

/-- FP64 multiplication. -/
def f64Mul (up : Bool) (a b : FVal) : FVal := f64Round up (FVal.mul a b)

/-- The magnitude of a value. -/
def FVal.abs : FVal → FVal
  | .nan => .nan
  | .inf _ => .inf false
  | .fin _ m e => .fin false m e

/-- R381: the FP64 sum of FP32 codes in order, and of their magnitudes when `mag`. -/
def f64Sum (mag : Bool) (codes : List Nat) : FVal :=
  codes.foldl (fun a c => let v := Fmt.fp32.read c; f64Add false a (if mag then v.abs else v)) (.fin false 0 0)

end Sys2Proof
end

