-- ==== Sys2Proof/Machine/BurstCode.lean ====
section
/-! DEFINITION. The burst code (R262 to R265): arithmetic in GF(2^8), the syndromes of an error pattern and the decoder with
erasures. The code is linear, so the decoder is a function of the error pattern alone. -/

namespace Sys2Proof

/-- Multiplies by x modulo 0x11D (R263). -/
def gfX (a : Nat) : Nat := if a < 128 then 2 * a else Nat.xor (2 * a) 0x11D

/-- Product in GF(2^8). -/
def gfMul (a b : Nat) : Nat :=
  ((List.range 8).foldl (fun (p : Nat × Nat) i => (gfX p.1, if Nat.testBit b i then Nat.xor p.2 p.1 else p.2)) (a, 0)).2

/-- alpha to the power n, with alpha = 2. -/
def gfAlpha : Nat → Nat
  | 0 => 1
  | n + 1 => gfX (gfAlpha n)

/-- The inverse of a non-zero element: its 254th power. -/
def gfInv (a : Nat) : Nat :=
  let a2 := gfMul a a; let a4 := gfMul a2 a2; let a8 := gfMul a4 a4; let a16 := gfMul a8 a8
  let a32 := gfMul a16 a16; let a64 := gfMul a32 a32; let a128 := gfMul a64 a64
  gfMul a2 (gfMul a4 (gfMul a8 (gfMul a16 (gfMul a32 (gfMul a64 a128)))))

/-- The degree of a symbol's place in the code polynomial (R263): pin i is symbol i, and positions 72 to 75 are the address
symbols u0 to u3. -/
def symbolDegree (p : Nat) : Nat := if p < 72 then 71 - p else 147 - p

/-- R263: the generator, the product of x + alpha^i for i = 0 to 7: its eight coefficients below x^8, highest degree first. -/
def burstGenerator : List Nat :=
  ((List.range 8).foldl (fun (g : List Nat) i => List.zipWith Nat.xor (g ++ [0]) (0 :: g.map (gfMul (gfAlpha i)))) [1]).tail

/-- R263: the remainder of x^8 m(x) by the generator: the check symbols r0 to r7 of a message, in order of descending degree. -/
def burstChecks (message : List Nat) : List Nat :=
  message.foldl (fun r u =>
    let q := Nat.xor u (r.headD 0)
    List.zipWith Nat.xor (r.tail ++ [0]) (burstGenerator.map (gfMul q))) (List.replicate 8 0)

/-- R263: the address symbols u0 to u3 of a burst: bytes 3, 2, 1 and 0 of its index. -/
def addressSymbols (b : Nat) : List Nat := [b / 2 ^ 24 % 256, b / 2 ^ 16 % 256, b / 2 ^ 8 % 256, b % 256]

/-- R262, R263: the 72 symbols that a channel holds of a burst: its 64 encrypted bytes and their check symbols. -/
def burstSymbols (b : Nat) (data : List Nat) : List Nat := data ++ burstChecks (addressSymbols b ++ data)

/-- R263: what a burst `w` read in place of burst `b` is off by: the address symbols that the decoder supplies. -/
def addressErrs (b w : Nat) : List (Nat × Nat) :=
  ((List.zipWith Nat.xor (addressSymbols b) (addressSymbols w)).mapIdx (fun i v => (72 + i, v))).filter (fun p => p.2 != 0)

/-- R263: syndrome i of an error pattern: pairs of a symbol's position and the value it is off by. -/
def syndrome (errs : List (Nat × Nat)) (i : Nat) : Nat :=
  errs.foldl (fun a e => Nat.xor a (gfMul e.2 (gfAlpha (i * symbolDegree e.1)))) 0

/-- Solves linear equations over GF(2^8) in `n` unknowns; each row holds the coefficients and the right side. None where they have
no unique solution. -/
def gfSolve : Nat → List (List Nat) → Option (List Nat)
  | 0, rows => if rows.all (fun r => r.all (fun x => x == 0)) then some [] else none
  | n + 1, rows =>
    match rows.find? (fun r => r.headD 0 != 0) with
    | none => none
    | some piv =>
      let inv := gfInv (piv.headD 0)
      let pn := piv.map (gfMul inv)
      let rest := (rows.erase piv).map (fun r => (List.zipWith Nat.xor r (pn.map (gfMul (r.headD 0)))).tail)
      match gfSolve n rest with
      | none => none
      | some xs =>
        let known := (List.zipWith gfMul (pn.tail.take n) xs).foldl Nat.xor 0
        some (Nat.xor (pn.getD (n + 1) 0) known :: xs)

/-- Removes one erased symbol's part from the syndromes: T_i = S_(i+1) + X S_i. -/
def eraseStep (x : Nat) (s : List Nat) : List Nat := List.zipWith (fun a b => Nat.xor b (gfMul x a)) s s.tail

/-- The value of x^e + c1 x^(e-1) + … + ce at x. -/
def gfPoly (cs : List Nat) (x : Nat) : Nat := cs.foldl (fun a c => Nat.xor (gfMul a x) c) 1

/-- What the decoder finds (R264, R265): the correction as positions and values, and e, the corrected symbols outside the
erasures. -/
inductive Decoded where
  | clean
  | corrected (fix : List (Nat × Nat)) (e : Nat)
  | ue
  | addr
  deriving DecidableEq, Repr

/-- A correction with `e` symbols outside the erased positions that explains the syndromes, if there is one. -/
def tryDecode (syn : List Nat) (erased : List Nat) (e : Nat) : Option (List (Nat × Nat)) :=
  let t := erased.foldl (fun s p => eraseStep (gfAlpha (symbolDegree p)) s) syn
  let rows := (List.range (t.length - e)).map (fun i =>
    (List.range e).map (fun j => t.getD (i + e - 1 - j) 0) ++ [t.getD (i + e) 0])
  match gfSolve e rows with
  | none => none
  | some cs =>
    let roots := (List.range 76).filter (fun p => gfPoly cs (gfAlpha (symbolDegree p)) = 0)
    if roots.length != e || roots.any (fun p => erased.contains p) then none
    else
      let ps := erased ++ roots
      let eqs := (List.range 8).map (fun i => ps.map (fun p => gfAlpha (i * symbolDegree p)) ++ [syn.getD i 0])
      match gfSolve ps.length eqs with
      | none => none
      | some vs => some (List.zip ps vs)

/-- R264, R265: decodes an error pattern on a channel with erased pins and a correction limit. -/
def decodeBurst (erased : List Nat) (limit : Nat) (errs : List (Nat × Nat)) : Decoded :=
  let syn := (List.range 8).map (syndrome errs)
  if syn.all (fun x => x == 0) then .clean
  else
    let emax := Nat.min limit ((8 - erased.length) / 2)
    match (List.range (emax + 1)).findSome? (fun e => (tryDecode syn erased e).map (fun f => (f, e))) with
    | none => .ue
    | some (fix, e) =>
      let fix := fix.filter (fun p => p.2 != 0)
      if fix.any (fun p => decide (72 ≤ p.1)) then .addr else .corrected fix e

/-- R265: whether a correction is not the pattern that was there: a miscorrection. -/
def miscorrected (errs fix : List (Nat × Nat)) : Bool :=
  let at_ (l : List (Nat × Nat)) (p : Nat) := l.foldl (fun a e => if e.1 = p then Nat.xor a e.2 else a) 0
  (List.range 76).any (fun p => at_ errs p != at_ fix p)

end Sys2Proof
end

