-- ==== Sys2Proof/Machine/Memory.lean ====
section
/-! DEFINITION. The memory controllers (chapter 11): the Pincushion's lines, poison, the handling of a decoded read, whole and
partial writes with the mirror of a channel move, and who owns a channel chunk. -/

namespace Sys2Proof.Machine

-- ---------------------------------------------------------------- owners (R289, R293, R268)

/-- Whose a channel chunk is. -/
inductive ChunkOwner where
  /-- A context's Pattern: context, Pattern number, region chunk, image of a scratch chunk. -/
  | context (c pat j image : Nat)
  /-- A shared-stock copy: image number and region chunk. -/
  | stock (image j : Nat)
  | free
  deriving DecidableEq, Repr

/-- R289, R293: the region chunk and image that chunk `k` of channel `ch` holds for slots of a region of `len` chunks. -/
def slotChunk (slots : List (Nat × Nat)) (len : Nat) (scratch : Bool) (ch k : Nat) : Option (Nat × Nat) :=
  let m := slots.length
  let per := (len + m - 1) / m
  let w := if scratch then 2 else 1
  (slots.zipIdx.findSome? (fun (p : (Nat × Nat) × Nat) =>
    let (cb, i) := p
    if cb.1 = ch && cb.2 ≤ k && k < cb.2 + per * w then
      let j := i + m * ((k - cb.2) / w)
      if j < len then some (j, (k - cb.2) % w) else none
    else none))

/-- R268: whose chunk `k` of channel `ch` is. -/
def State.chunkOwner (s : State) (ch k : Nat) : ChunkOwner :=
  match s.contexts.findSome? (fun p =>
      p.2.patterns.findSome? (fun q =>
        if q.2.residence = 1 then (slotChunk q.2.slots q.2.len q.2.scratch ch k).map (fun r => (p.1, q.1, r)) else none)) with
  | some (c, pat, j, im) => .context c pat j im
  | none =>
    match s.stock.findSome? (fun p =>
        match p.2.rebuilt.find? (fun q => q.2 = (ch, k)) with
        | some q => some (p.1, q.1)
        | none => ((slotChunk p.2.slots (32 * p.2.granules) false ch k).map (fun r => (p.1, r.1))).filter (fun r =>
            !FMap.has p.2.rebuilt r.2)) with
    | some (i, j) => .stock i j
    | none => .free

/-- The lowest current segment of a context that maps region chunk `j` of a Pattern. -/
def Context.segOf (cx : Context) (pat j : Nat) : Option Nat :=
  cx.segs.findSome? (fun p => if p.2.valid && p.2.kind ≤ 2 && p.2.region = pat && p.2.base ≤ j &&
    j < p.2.base + p.2.length then some p.1 else none)

/-- R335: notes lost private bursts of a context for this tick's commit: each counts once. -/
def Context.noteUe (cx : Context) (seg source chunk chan : Nat) (bursts : List Nat) : Context :=
  match cx.privateUe with
  | none => { cx with privateUe := some { seg := seg, source := source, chunk := chunk, chan := chan, bursts := bursts } }
  | some u => { cx with privateUe := some { u with bursts := u.bursts ++ bursts.filter (fun b => !u.bursts.contains b) } }

/-- R329: a RESIDENT granule becomes HELD at once; a read of one that is HELD or LOST changes nothing. -/
def State.holdGranule (s : State) (image g : Nat) : State :=
  { s with stock := FMap.modify s.stock image (fun k =>
      match FMap.getD k.states g .resident with
      | .resident => { k with states := FMap.set k.states g (.held s.now) }
      | _ => k) }

/-- R329, R332, R333: a burst or a chunk of a granule is lost: a RESIDENT granule becomes HELD, and the recopy of a HELD one starts again, without a
new count toward its hold limit. -/
def State.breakGranule (s : State) (image g : Nat) : State :=
  let s1 := s.holdGranule image g
  { s1 with stock := FMap.modify s1.stock image (fun k => { k with recopied := k.recopied.filter (· != g), recopying := FMap.del k.recopying g }) }

/-- R268: tells the owner of a burst that it is uncorrectable. -/
def State.tellOwner (s : State) (ch b source : Nat) : State :=
  let k := b * 64 / 65536
  match s.chunkOwner ch k with
  | .context c pat j _ =>
    match s.ctx? c with
    | none => s
    | some cx =>
      match cx.segOf pat j with
      | none => s
      | some seg => s.modCtx c (fun x => x.noteUe seg source j ch [ch * 2 ^ 26 + b])
  | .stock im j => s.breakGranule im (j / 32)
  | .free => s

-- ---------------------------------------------------------------- the log (R285)

/-- R285, R287: die, bank and row of a burst of a channel. -/
def burstRow (ch b : Nat) : Nat × Nat × Nat :=
  let v := Config.burstPlace ch b
  (3 * (ch % 32 / 8) + v % 3, v / 4 % 64, v / 256 % 2 ^ 18)

/-- R285: adds a record to a controller's ring of 1,024; the oldest is overwritten when it is full. -/
def State.logRecord (s : State) (r : LogRec) : State :=
  let k := r.channel / 32
  let c := s.controller k
  if c.log.length < 1024 then s.setController k { c with log := c.log ++ [r] }
  else s.setController k { c with log := c.log.tail ++ [r], lost := satAdd 65535 c.lost 1 }

/-- A record of a kind about a burst of a channel. -/
def State.mkLog (s : State) (kind source ch b : Nat) (erasedUsed : Bool) (symbols : Nat) (pins : List Nat) (ctx : Nat) :
    LogRec :=
  { tick := s.now, kind := kind, source := source, erasedUsed := erasedUsed, symbols := symbols, channel := ch,
    burst := b, pins := pins, ctx := ctx, ceTotal := (s.channel ch).ceTotal }

-- ---------------------------------------------------------------- Olukor's areas (R295, R471, R548)

/-- R471: chunks of one copy of a save area. -/
def areaChunks (needles liveMax : Nat) : Nat := (needles * (liveMax * 4096 + 8 * 196672) + 65535) / 65536

/-- R289, R295: the channel and channel chunk of chunk `j` of a copy of a context's save area: 0 copy A, 1 copy B. -/
def Context.areaPlace (cx : Context) (copy_ j : Nat) : Option (Nat × Nat) :=
  let l := if copy_ = 0 then cx.areaA else cx.areaB
  match FMap.get? cx.areaMoved (2 * j + copy_) with
  | some p => some p
  | none => (l[j % Nat.max 1 l.length]?).map (fun sl => (sl.1, sl.2 + j / Nat.max 1 l.length))

/-- R295, R550: a copy of an Olukor area's chunk is lost; with both lost before a rebuild the context is to be closed. -/
def State.loseArea (s : State) (c chunk copy_ ch : Nat) : State :=
  let f := s.fences
  let other := f.areaLost.any (fun a => a.1 = c && a.2.1 = chunk && a.2.2 != copy_)
  { s with fences := { f with
      areaLost := if f.areaLost.contains (c, chunk, copy_) then f.areaLost else f.areaLost ++ [(c, chunk, copy_)]
      fatal := if other && !f.fatal.any (fun x => x.1 = c) then f.fatal ++ [(c, 1, chunk, ch)] else f.fatal } }

/-- R295: every copy of an area's chunk on a channel that is fenced is lost. -/
def State.loseAreas (s : State) (ch : Nat) : State :=
  s.contexts.foldl (fun (a : State) p =>
    (List.range (areaChunks p.2.needles p.2.liveMax)).foldl (fun (b : State) j =>
      ([0, 1].filter (fun k => (p.2.areaPlace k j).any (fun x => x.1 = ch))).foldl (fun (d : State) k => d.loseArea p.1 j k ch) b) a) s

-- ---------------------------------------------------------------- fencing a channel (R305, R541)

/-- How many channels are fenced. -/
def State.fencedChannels (s : State) : Nat := (s.channels.filter (fun p => p.2.state = .fenced)).length

/-- R333: every granule of the shared stock with a chunk on a channel becomes HELD. -/
def State.holdChannel (s : State) (ch : Nat) : State :=
  s.stock.foldl (fun (a : State) (p : Nat × StockCopy) =>
    let here := (List.range (32 * p.2.granules)).filter (fun j =>
      match FMap.get? p.2.rebuilt j with
      | some (c, _) => c = ch
      | none => (match p.2.slots[j % Nat.max 1 p.2.slots.length]? with | some sl => sl.1 = ch | none => false))
    (dedup (here.map (fun j => j / 32))).foldl (fun (b : State) g => b.breakGranule p.1 g) a) s

/-- R305, R541: fences a channel: its users are marked for WITHDRAWN, and its contexts are paused at the commit. -/
def State.fenceChannel (s : State) (ch cause : Nat) : State :=
  let c := s.channel ch
  if c.state = .fenced then s
  else
    let used : Nat → RunStitch → Bool := fun _ r => r.channels.contains ch
    let users := s.usersOf used
    let s1 := (((s.withdrawWhere used).setChannel ch { c with state := .fenced }).holdChannel ch).loseAreas ch
    let s2 := { s1 with fences := { s1.fences with channelLost := s1.fences.channelLost ++ [(ch, cause)] } }
    let code := if cause = 0 then 6 else if cause = 2 then 3 else if cause = 1 then 1 else 0
    s2.evFence 2 code false ch users s2.fencedChannels

/-- R267: a newly found uncorrectable burst enters the poison table; a full table fences the channel instead. -/
def State.poisonBurst (s : State) (ch b : Nat) : State :=
  let c := s.channel ch
  if c.poison.contains b then s
  else if 4096 ≤ c.poison.length then s.fenceChannel ch 1
  else s.setChannel ch { c with poison := b :: c.poison }

/-- R270: CORR_LIMIT falls to 2 at the first uncorrectable burst or at the second erased pin: MOVE_WANTED and a LIMIT record. -/
def State.lowerLimit (s : State) (ch b source : Nat) : State :=
  let c := s.channel ch
  if c.corrLimit = 2 then s
  else (s.setChannel ch { c with corrLimit := 2, moveWanted := true, wantedAt := c.wantedAt.orElse (fun _ => some s.now) }).logRecord
    (s.mkLog 4 source ch b false 0 [] 0)

/-- R266, R267, R268, R270: a burst found uncorrectable, or ADDR. -/
def State.ueBurst (s : State) (ch b source : Nat) (isAddr : Bool) (ctx : Nat) : State :=
  let c := s.channel ch
  let s1 := s.setChannel ch
    { c with
      ueTotal := satAdd (2 ^ 32 - 1) c.ueTotal 1
      badRows := burstRow ch b :: c.badRows }
  let s2 := s1.logRecord (s1.mkLog (if isAddr then 2 else 1) source ch b (!c.erased.isEmpty) 0 [] ctx)
  let s3 := (s2.poisonBurst ch b).tellOwner ch b source
  s3.lowerLimit ch b source

/-- Counts an event in its tick, and forgets what is 1,000 ticks old (R518). -/
def noteTick (now : Nat) (l : List (Nat × Nat)) : List (Nat × Nat) :=
  let l1 := l.filter (fun p => decide (now < p.1 + 1000))
  match l1 with
  | (t, n) :: r => if t = now then (t, n + 1) :: r else (now, 1) :: l1
  | [] => [(now, 1)]

-- ---------------------------------------------------------------- the mirror of a move (R301)

/-- R301: the destination of a mirrored write to a burst of `ch`, if a move of `ch` has copied that burst. -/
def State.mirrorOf (s : State) (ch b : Nat) : Option Nat :=
  s.moves.findSome? (fun m =>
    if m.src = ch then
      let chunk := b / 1024
      let copying := m.copySet.find? (fun k => !m.copied.contains k)
      if m.copied.contains chunk || (copying = some chunk && m.units.contains (b % 1024 / 16)) then some m.dst else none
    else none)

/-- Copies a whole burst with its poison mark from one channel to another (R267, R301). -/
def State.copyBurst (s : State) (src dst b : Nat) : State :=
  let s1 := { s with stack := Mem.copyRange s.stack (src * 2 ^ 32 + 64 * b) (dst * 2 ^ 32 + 64 * b) 64 }
  let d := s1.channel dst
  if (s.channel src).poison.contains b then
    (if d.poison.contains b then s1 else s1.setChannel dst { d with poison := b :: d.poison })
  else s1.setChannel dst { d with poison := d.poison.filter (· != b) }

/-- R301: bursts of a channel were written whole: those that a move has copied are written to its destination too. -/
def State.mirrorBursts (s : State) (ch : Nat) (bursts : List Nat) : State :=
  bursts.foldl (fun (a : State) b => match a.mirrorOf ch b with
    | some d => a.copyBurst ch d b
    | none => a) s

-- ---------------------------------------------------------------- what a read meets

/-- R287: ticks that lie within the last 24 hours. -/
def TickState.dayTicks (t : TickState) : Nat := 86400000000000 / Nat.max 1 t.periodNs

/-- R287: a burst needed corrections that erased pins do not explain: with three distinct bursts of its row within 24 hours, the row is to be
repaired when the channel goes OFFLINE. -/
def Channel.noteCe (c : Channel) (t : TickState) (ch b : Nat) : Channel :=
  let l := (b, t.number) :: c.ceRows.filter (fun p => p.1 != b && decide (t.number < p.2 + t.dayTicks))
  let row := burstRow ch b
  { c with
    ceRows := l
    badRows := if 3 ≤ (l.filter (fun p => burstRow ch p.1 = row)).length then row :: c.badRows else c.badRows }

/-- R266, R269: a burst corrected: counted; with e at least 1 it is logged and its pin set is kept among the last 64. The write-back
leaves the burst as the decoder read it, which after a miscorrection (R265) is not what was there: free bytes. -/
def State.ceBurst (s : State) (ch b source : Nat) (errs fix : List (Nat × Nat)) (e ctx : Nat) : State :=
  let c := s.channel ch
  let pins := (fix.map Prod.fst).filter (fun p => !c.erased.contains p)
  let s1 := s.setChannel ch
    { (if e = 0 then c else c.noteCe s.tick ch b) with
      ceTotal := satAdd (2 ^ 32 - 1) c.ceTotal 1
      ceTicks := noteTick s.now c.ceTicks
      pinSets := if e = 0 then c.pinSets else (pins :: c.pinSets).take 64 }
  if e = 0 then s1
  else
    let s2 := s1.logRecord (s1.mkLog 0 source ch b (fix.any (fun p => c.erased.contains p.1)) e pins ctx)
    if miscorrected errs fix then
      { s2 with
        stack := Mem.writeN s2.stack (ch * 2 ^ 32 + 64 * b) (freeBytes s2.freeCtr 64)
        freeCtr := s2.freeCtr + 64 }.mirrorBursts ch [b]
    else s2

/-- R266, R305: whether a burst reads as poison without being decoded: its channel is fenced, its chunk was lost, or it is listed. -/
def Channel.isBad (c : Channel) (b : Nat) : Bool := c.state = .fenced || c.lost.contains (b / 1024) || c.poison.contains b

/-- R266: a read of a listed burst is counted. -/
def State.poisonRead (s : State) (ch : Nat) : State :=
  let c := s.channel ch
  s.setChannel ch { c with poisonReads := satAdd (2 ^ 32 - 1) c.poisonReads 1 }

/-- R266: a read of a burst with an error pattern on its way, by its decode result; the second component says that poison is passed
on. A channel whose chunks are fenced reads as poison (R305). -/
def State.readBurst (s : State) (ch b source : Nat) (errs : List (Nat × Nat)) (ctx : Nat) : State × Bool :=
  let c := s.channel ch
  if c.isBad b then (s.poisonRead ch, true)
  else match decodeBurst c.erased c.corrLimit errs with
    | .clean => (s, false)
    | .corrected fix e => (s.ceBurst ch b source errs fix e ctx, false)
    | .ue => (s.ueBurst ch b source false ctx, true)
    | .addr => (s.ueBurst ch b source true ctx, true)

-- ---------------------------------------------------------------- the Pincushion (R276 to R280)

/-- The key of a line. -/
def lineKey (ch b : Nat) : Nat := ch * 2 ^ 26 + b

/-- R276: the lines of the set that burst `b` of channel `ch` maps to: bank by pair of channels, 768 sets (assumption 13). -/
def Controller.setLines (k : Controller) (ch b : Nat) : List (Nat × PcLine) :=
  k.lines.filter (fun p => p.1 / 2 ^ 26 / 2 = ch / 2 && p.1 % 2 ^ 26 % 768 = b % 768)

/-- The oldest line of a list that is not KEEP. -/
def oldestLine : List (Nat × PcLine) → Option (Nat × PcLine)
  | [] => none
  | p :: t =>
    match oldestLine t with
    | none => if p.2.keep then none else some p
    | some q => if p.2.keep || q.2.stamp < p.2.stamp then some q else some p

/-- Allocates a line, replacing the least recently used line that is not KEEP when the set's 16 ways are full (R277); a KEEP
allocation in a set with 12 KEEP lines is made ordinary (R278), and the second component says so. -/
def Controller.allocLine (k : Controller) (ch b : Nat) (owner : Option Nat) (keep dirty : Bool) : Controller × Bool :=
  let set := k.setLines ch b
  let others := set.filter (fun p => p.1 != lineKey ch b)
  let denied := keep && 12 ≤ (others.filter (fun p => p.2.keep)).length
  let lines := if 16 ≤ others.length then
      (match oldestLine others with | some p => FMap.del k.lines p.1 | none => k.lines) else k.lines
  let line : PcLine := { owner := owner, keep := keep && !denied, dirty := dirty, stamp := k.stamp + 1 }
  ({ k with lines := FMap.set lines (lineKey ch b) line, stamp := k.stamp + 1 }, denied)

/-- R277: one access of the Pincushion with a hint (0 none, 1 STREAM, 2 KEEP, 3 LAST_USE): what it does to the lines, and whether KEEP
was denied. -/
def Controller.touch (k : Controller) (ch b hint : Nat) (owner : Option Nat) (write full : Bool) : Controller × Bool :=
  match FMap.get? k.lines (lineKey ch b) with
  | some l =>
    if write then
      if hint = 2 then k.allocLine ch b owner true true
      else ({ k with lines := FMap.set k.lines (lineKey ch b) { l with dirty := true } }, false)
    else match hint with
      | 1 => (k, false)
      | 2 => k.allocLine ch b l.owner true l.dirty
      | 3 => ({ k with lines := FMap.del k.lines (lineKey ch b) }, false)
      | _ => ({ k with lines := FMap.set k.lines (lineKey ch b) { l with stamp := k.stamp + 1 }, stamp := k.stamp + 1 }, false)
  | none =>
    if hint = 1 || hint = 3 then (k, false)
    else if write && hint = 0 && !full then (k, false)
    else k.allocLine ch b owner (hint = 2) write

/-- R277, R280, R301: one access of a burst goes through its controller's Pincushion, unless the bank is fenced or the channel is being
moved, when it behaves as STREAM. -/
def State.touchLine (s : State) (ch b hint : Nat) (owner : Option Nat) (write full : Bool) : State :=
  let c := s.channel ch
  let k := s.controller (ch / 32)
  if k.bankFenced.contains (ch % 32 / 2) || c.state = .moving then s
  else
    let (k1, denied) := k.touch ch b hint owner write full
    let s1 := s.setController (ch / 32) k1
    if denied then s1.setChannel ch { c with keepDenied := satAdd 65535 c.keepDenied 1 } else s1

/-- Drops the lines of a controller that `p` selects; a dirty one has been written back, which leaves the coherent bytes as they
are. -/
def Controller.dropLines (k : Controller) (p : Nat → PcLine → Bool) : Controller :=
  { k with lines := k.lines.filter (fun q => !p q.1 q.2) }

/-- Drops lines on every controller. -/
def State.dropLines (s : State) (p : Nat → PcLine → Bool) : State :=
  { s with controllers := s.controllers.map (fun q => (q.1, q.2.dropLines p)) }

/-- R279: when a context is paused its dirty lines are written back and its KEEP lines released. -/
def State.pauseLines (s : State) (c : Nat) : State :=
  { s with controllers := s.controllers.map (fun q => (q.1, { q.2 with lines := q.2.lines.map (fun l =>
      if l.2.owner = some c then (l.1, { l.2 with dirty := false, keep := false }) else l) })) }

/-- R278, R279: chunks of a channel are released: their lines are written back and dropped. -/
def State.dropChunkLines (s : State) (ch start len : Nat) : State :=
  let k := s.controller (ch / 32)
  s.setController (ch / 32) (k.dropLines (fun key _ =>
    key / 2 ^ 26 = ch && decide (1024 * start ≤ key % 2 ^ 26) && decide (key % 2 ^ 26 < 1024 * (start + len))))

-- ---------------------------------------------------------------- writes (R260, R267, R301)

/-- R260, R267: writes bytes of one burst, as pairs of offset and value. A full write removes the burst's poison mark; a partial write
to a poisoned burst is not applied, and the second component says that it was acknowledged POISONED. A fenced channel discards
writes (R305). A burst that a move has copied is written to the destination too (R301). -/
def State.writeBurst (s : State) (ch b : Nat) (ws : List (Nat × Byte)) : State × Bool :=
  let c := s.channel ch
  if c.state = .fenced || c.lost.contains (b / 1024) then (s, false)
  else
    let full := (List.range 64).all (fun i => ws.any (fun w => w.1 = i))
    if c.poison.contains b && !full then (s, true)
    else
      let s1 := if full then s.setChannel ch { c with poison := c.poison.filter (· != b) } else s
      let s2 := { s1 with stack := ws.foldl (fun (m : Mem) (w : Nat × Byte) => Mem.write m (ch * 2 ^ 32 + 64 * b + w.1) w.2) s1.stack }
      match s2.mirrorOf ch b with
      | some d => (s2.copyBurst ch d b, false)
      | none => (s2, false)

/-- The bursts that a list of stack bytes touches, in order of first touch. -/
def burstsOf (ws : List (Nat × Byte)) : List Nat := dedup (ws.map (fun w => w.1 / 64))

/-- R260: writes stack bytes, by channel times 2^32 plus byte, burst by burst with a hint; says whether any burst refused them. -/
def State.writeStack (s : State) (ws : List (Nat × Byte)) (hint : Nat) (owner : Option Nat) : State × Bool :=
  (burstsOf ws).foldl (fun (p : State × Bool) k =>
    let here := (ws.filter (fun w => w.1 / 64 = k)).map (fun w => (w.1 % 64, w.2))
    let ch := k / 2 ^ 26
    let b := k % 2 ^ 26
    let full := (List.range 64).all (fun i => here.any (fun w => w.1 = i))
    let (s1, r) := p.1.writeBurst ch b here
    (if r then s1 else s1.touchLine ch b hint owner true full, p.2 || r)) (s, false)

end Sys2Proof.Machine
end

