-- ==== Sys2Proof/Machine/Access.lean ====
section
/-! DEFINITION. What a needle reads and writes in the Sleeve and in context space (R129 to R131, R148, R149): the checks, the bytes and
what they met, the two images of scratch chunks (R37), and what consumed poison or a held granule does to the stitch (R330, R548,
R549). -/

namespace Sys2Proof.Machine

/-- A read of memory: the bytes and what they met. -/
structure ReadOut where
  bytes : List Byte
  /-- The first poisoned byte of private memory: segment, region chunk, channel; and the poisoned bursts. -/
  poison : Option (Nat × Nat × Nat × List Nat)
  /-- A HELD granule, image and index (R330). -/
  held : Option (Nat × Nat)
  /-- A LOST granule (R329). -/
  lost : Bool
  /-- Bytes that came from a peer. -/
  peer : Bool
  /-- The first byte of Hem memory whose host port failed it: segment and offset (R549). -/
  host : Option (Nat × Nat)
  /-- The bursts read, as channel times 2^26 plus burst. -/
  bursts : List Nat
  deriving DecidableEq, Repr

/-- A read that met nothing. -/
def ReadOut.plain (bytes : List Byte) : ReadOut :=
  { bytes := bytes, poison := none, held := none, lost := false, peer := false, host := none, bursts := [] }

/-- The poison of two reads, one after the other. -/
def joinPoison : Option (Nat × Nat × Nat × List Nat) → Option (Nat × Nat × Nat × List Nat) → Option (Nat × Nat × Nat × List Nat)
  | some (seg, j, ch, l), some (_, _, _, k) => some (seg, j, ch, l ++ k.filter (fun b => !l.contains b))
  | some a, none => some a
  | none, b => b

/-- Two reads, one after the other. -/
def ReadOut.append (a b : ReadOut) : ReadOut :=
  { bytes := a.bytes ++ b.bytes, poison := joinPoison a.poison b.poison, held := a.held.orElse (fun _ => b.held),
    lost := a.lost || b.lost, peer := a.peer || b.peer, host := a.host.orElse (fun _ => b.host),
    bursts := b.bursts.foldl (fun l x => if l.contains x then l else l ++ [x]) a.bursts }

/-- Whether the data may be used: nothing ended the stitch. -/
def ReadOut.usable (o : ReadOut) : Bool := o.poison.isNone && o.held.isNone && !o.lost && o.host.isNone

/-- The granule of a STOCK byte: its state, image and index (R329). -/
def State.granuleAt (s : State) (d : Seg) (off : Nat) : GranuleState × (Nat × Nat) :=
  let g := (65536 * d.base + off) / granuleBytes
  match FMap.get? s.stock d.region with
  | none => (.lost, (d.region, g))
  | some k => (FMap.getD k.states g .resident, (d.region, g))

/-- R307: the port that serves an address of a grant: 0 H0, 1 H1; with both, even grant chunks use H0 and odd ones H1. -/
def Grant.portOf (g : Grant) (a : Nat) : Nat := if g.port < 2 then g.port else (a - g.base) / 65536 % 2

/-- R308, R309: the grant that holds a segment's bytes in the Hem tier. -/
def State.hemGrant (s : State) (c : Nat) (d : Seg) : Option Grant :=
  (s.ctx? c).bind (fun cx =>
    FMap.get? cx.grants (if d.kind = 4 then d.region else (match FMap.get? cx.patterns d.region with | some p => p.hemGrant | none => 0)))

/-- R610: whether the host port that serves a byte of a segment's Hem memory is in reset, so that the access fails (R549). -/
def State.hemDown (s : State) (c : Nat) (d : Seg) (a : Nat) : Bool :=
  match s.hemGrant c d with | some g => !s.hostPortUp (g.portOf a + 1) | none => false

/-- One byte of context space: what a read of it gives (R149, R266, R305, R329). `c` is the context, `id` the stitch, and `fresh` the
number of the free value that stands for a byte of a peer (assumption 10). -/
def State.readByte (s : State) (c : Nat) (d : Seg) (seg id off fresh : Nat) : ReadOut :=
  match s.place c d seg off id false with
  | .stack ch a =>
    let bad := (s.channel ch).isBad (a / 64)
    let o : ReadOut := { ReadOut.plain [Mem.read s.stack (ch * 2 ^ 32 + a)] with bursts := [ch * 2 ^ 26 + a / 64] }
    if d.kind = 3 then
      match s.granuleAt d off with
      | (.resident, g) => if bad then { o with held := some g } else o
      | (.held _, g) => { o with held := some g }
      | (.lost, _) => { o with lost := true }
    else if bad then { o with poison := some (seg, d.base + off / 65536, ch, [ch * 2 ^ 26 + a / 64]) } else o
  | .host a e => if s.hemDown c d a then { ReadOut.plain [0] with host := some (seg, off) } else ReadOut.plain [s.hostByte a e]
  | .peer _ _ _ _ _ => { ReadOut.plain [BitVec.ofNat 8 (Config.freeNat fresh)] with peer := true }
  | .nowhere => { ReadOut.plain [0] with lost := true }

/-- `n` bytes of context space from offset `off`; the checks of R148 have passed. Free values are taken from `fresh` on. -/
def State.readSeg (s : State) (c : Nat) (d : Seg) (seg id fresh : Nat) : Nat → Nat → ReadOut
  | _, 0 => ReadOut.plain []
  | off, n + 1 => (s.readByte c d seg id off (fresh + n)).append (s.readSeg c d seg id fresh (off + 1) n)

/-- R131: which spaces an access may reach. -/
structure Reach where
  sleeve : Bool
  ctx : Bool
  window : Bool
  deriving DecidableEq, Repr

/-- R307, R549: the host port and the host address of a byte of a context's Hem memory. -/
def State.hemPlace (s : State) (c seg off : Nat) : Option (Nat × Nat) :=
  match s.ctx? c with
  | none => none
  | some cx =>
    match FMap.get? cx.segs seg with
    | none => none
    | some d =>
      match s.place c d seg off s.adm.nextId false, s.hemGrant c d with
      | .host a _, some v => some (v.portOf a, a)
      | _, _ => none

/-- R549: notes a Hem access that the host port reported as poisoned or failed. -/
def State.noteHost (s : State) (c seg off : Nat) : State :=
  let p := (s.hemPlace c seg off).getD (0, 0)
  { s with fences := { s.fences with hostPoison := s.fences.hostPoison ++ [(c, seg, p.1, p.2)] } }

/-- R586: whether a segment lies in a Hem grant with ENC. -/
def State.encSeg (s : State) (c : Nat) (nd : Needle) (seg : Nat) : Bool :=
  match s.ctx? c, FMap.get? nd.segs seg with
  | some cx, some d =>
    let grant := fun g => match FMap.get? cx.grants g with | some v => v.enc | none => false
    if d.kind = 4 then grant d.region
    else if d.kind ≤ 2 then (match FMap.get? cx.patterns d.region with | some p => p.residence = 2 && grant p.hemGrant | none => false)
    else false
  | _, _ => false

/-- R586: whether an access to these ranges takes a part of a 64-byte unit of an ENC grant. -/
def State.encBreak (s : State) (n : Nat) (ranges : List (Nat × Nat)) : Bool :=
  let nd := s.needle n
  match nd.run with
  | none => false
  | some r =>
    let bytes := ranges.flatMap (fun p =>
      match splitAddr p.1 with
      | .ctx seg _ => if s.encSeg r.st.ctx nd seg then (List.range p.2).map (fun i => p.1 + i) else []
      | _ => [])
    bytes.any (fun a => !(List.range 64).all (fun i => bytes.contains (a / 64 * 64 + i)))

/-- R129 to R131, R148: the fault of an access of `len` bytes at a 64-bit address, none where every check passes. -/
def Needle.addrFault (nd : Needle) (a len : Nat) (need : Need) (reach : Reach) : Option Nat :=
  match splitAddr a with
  | .none_ => some fkSpace
  | .sleeve off => if reach.sleeve then nd.sleeveFault off len reach.window else some fkSpace
  | .ctx seg off => if reach.ctx then segFault nd seg off len need else some fkSpace

/-- The bytes of the X-window (R133): X registers as `x` holds them. -/
def windowBytes (x : FMap DWord) (off len : Nat) : List Byte :=
  (List.range len).map (fun i =>
    let o := off + i
    if o / 8 = 0 then 0 else BitVec.ofNat 8 ((FMap.getD x (o / 8) 0).toNat / 2 ^ (8 * (o % 8))))

/-- Reads `len` bytes at a 64-bit address whose checks have passed; `xwin` holds the X registers the push captured. -/
def State.readAddr (s : State) (nd : Needle) (r : RunStitch) (xwin : FMap DWord) (fresh a len : Nat) : ReadOut :=
  match splitAddr a with
  | .sleeve off =>
    if 0x300000 ≤ off then ReadOut.plain (windowBytes xwin (off - 0x300000) len)
    else ReadOut.plain (Mem.readN nd.sleeve off len)
  | .ctx seg off =>
    match FMap.get? nd.segs seg with
    | some d => s.readSeg r.st.ctx d seg r.st.id fresh off len
    | none => ReadOut.plain []
  | .none_ => ReadOut.plain []

/-- The hint an access carries, or its segment's default (R188, R222, R277). -/
def Needle.hintOf (nd : Needle) (a hint : Nat) : Nat :=
  if hint != 0 then hint
  else match splitAddr a with
    | .ctx seg _ => match FMap.get? nd.segs seg with | some d => d.hint | none => 0
    | _ => 0

/-- The hint and the owner of the lines that an access at an address takes; the shared stock's lines have none (R277, R279). -/
def Needle.lineOwner (nd : Needle) (c a : Nat) : Option Nat :=
  match splitAddr a with
  | .ctx seg _ => match FMap.get? nd.segs seg with | some d => if d.kind = 3 then none else some c | none => some c
  | _ => some c

/-- Several reads at addresses whose checks have passed, `len` bytes each: what each gave. -/
def State.readAddrs (s : State) (nd : Needle) (r : RunStitch) (xwin : FMap DWord) (len : Nat) :
    Nat → List Nat → List (Nat × ReadOut)
  | _, [] => []
  | fresh, a :: t => (a, s.readAddr nd r xwin fresh a len) :: s.readAddrs nd r xwin len (fresh + len) t

/-- All the reads as one. -/
def joinReads (os : List (Nat × ReadOut)) : ReadOut := os.foldl (fun a o => a.append o.2) (ReadOut.plain [])

/-- R149, R225: the bytes that reads want of peers, cut into messages of one destination, one run of bytes within a 64 KiB chunk, and at most `max`
bytes each: destination, garment, segment, offset, bytes. -/
def cutReads (max : Nat) : List (Nat × Nat × Nat × Nat) → List (Nat × Nat × Nat × Nat × Nat)
  | [] => []
  | b :: t =>
    match cutReads max t with
    | (d, g, sg, o, n) :: rest =>
      if (b.1, b.2.1, b.2.2.1) = (d, g, sg) && b.2.2.2 + 1 = o && b.2.2.2 / 65536 = o / 65536 && n < max then (d, g, sg, b.2.2.2, n + 1) :: rest
      else (b.1, b.2.1, b.2.2.1, b.2.2.2, 1) :: (d, g, sg, o, n) :: rest
    | [] => [(b.1, b.2.1, b.2.2.1, b.2.2.2, 1)]

/-- R149: sends the reads of peers' segments, for a stitch; the answers' bytes are free values (assumption 10). -/
def State.sendReads (s : State) (n : Nat) (nd : Needle) (r : RunStitch) (by_ : Sender) (lock : Bool) (os : List (Nat × ReadOut)) : State :=
  let want := os.flatMap (fun p =>
    match splitAddr p.1 with
    | .ctx seg off => (match FMap.get? nd.segs seg with
      | some d => if d.kind = 5 then (List.range p.2.bytes.length).map (fun i => (memberOf d.board d.pos, d.garment, d.pseg, off + i)) else []
      | none => [])
    | _ => [])
  let ms := cutReads (if lock then 1024 else 4096) want
  (ms.foldl (fun (a : State) m =>
    a.sendMsg m.1 msgRead (a.headFor by_ lock (a.ctxHandleOf r.st.ctx)) [m.2.1, m.2.2.1, m.2.2.2.1, m.2.2.2.2, 0]) s).modRun n
      (fun x => x.reaches (ms.map Prod.fst))

/-- What reads leave behind apart from their data: the messages to peers, the channels used, the Pincushion's lines, the free values taken, and, where they met a
held or lost granule or poison, the end of the stitch at once (R330, R548) with the private loss noted (R549). -/
def State.afterReads (s : State) (n : Nat) (os : List (Nat × ReadOut)) (hint : Nat) (by_ : Sender := .stitch) (lock : Bool := false) : State :=
  let nd := s.needle n
  match nd.run with
  | none => s
  | some r =>
    let o := joinReads os
    let s1 := s.modRun n (fun x => { x with channels := dedup (x.channels ++ o.bursts.map (fun k => k / 2 ^ 26)) })
    -- one access of a burst for all the bytes read of it (R278); a burst that reads as poison takes no line (R266)
    let s2 := (os.flatMap (fun p => p.2.bursts.map (fun k => (k, nd.hintOf p.1 hint, nd.lineOwner r.st.ctx p.1)))).eraseDups.foldl (fun (a : State) x =>
      if (a.channel (x.1 / 2 ^ 26)).isBad (x.1 % 2 ^ 26) then a.poisonRead (x.1 / 2 ^ 26)
      else a.touchLine (x.1 / 2 ^ 26) (x.1 % 2 ^ 26) x.2.1 x.2.2 false true) s1
    let s3 := if o.peer then { (s2.sendReads n nd r by_ lock os) with freeCtr := s2.freeCtr + o.bytes.length } else s2
    match o.held with
    | some g => (s3.holdGranule g.1 g.2).withdrawStitch n (some g)
    | none =>
      if o.lost then s3.withdrawStitch n none
      else match o.poison with
        | some (seg, j, ch, bs) => (s3.modCtx r.st.ctx (fun x => x.noteUe seg 0 j ch bs)).withdrawStitch n none
        | none => match o.host with
          | some (seg, off) => (s3.noteHost r.st.ctx seg off).withdrawStitch n none
          | none => s3

-- ---------------------------------------------------------------- writes

/-- Copies the bursts of one channel chunk onto another of the same channel with their poison marks (R37). -/
def State.copyChunk (s : State) (ch from_ to_ : Nat) : State :=
  let c := s.channel ch
  let marks := (c.poison.filter (fun b => b / 1024 = from_)).map (fun b => b % 1024 + 1024 * to_)
  { (s.setChannel ch { c with poison := c.poison.filter (fun b => b / 1024 != to_) ++ marks }) with
    stack := Mem.copyRange s.stack (ch * 2 ^ 32 + 65536 * from_) (ch * 2 ^ 32 + 65536 * to_) 65536 }.mirrorBursts ch
      ((List.range 1024).map (fun i => 1024 * to_ + i))

/-- R37: copies the committed image of a scratch chunk into the other one. -/
def State.copyScratch (s : State) (c : Nat) (cx : Context) (p : Pattern) (pat j : Nat) : State :=
  let im := committedImage cx pat j
  match patternByte c cx p im j 0, patternByte c cx p (1 - im) j 0 with
  | .stack ch a, .stack _ b => s.copyChunk ch (a / 65536) (b / 65536)
  | .host a none, .host b none => { s with host := Mem.copyRange s.host a b 65536 }
  | .host a e, .host b f => s.putHostRun b f (s.hostRun a e 65536)
  | _, _ => s

/-- R37: makes stitch `id` of context `c` the writer of the scratch chunks it is about to write, or the SCRATCH fault. -/
def State.claimScratch (s : State) (c id : Nat) : List (Nat × Nat) → Except Nat State
  | [] => .ok s
  | (pat, j) :: t =>
    match s.scratchWriters.find? (fun w => w.1 = c && w.2.1 = pat && w.2.2.1 = j) with
    | some w => if w.2.2.2 = id then s.claimScratch c id t else .error fkScratch
    | none =>
      match s.ctx? c with
      | none => s.claimScratch c id t
      | some cx =>
        match FMap.get? cx.patterns pat with
        | none => s.claimScratch c id t
        | some p =>
          ({ (s.copyScratch c cx p pat j) with scratchWriters := s.scratchWriters ++ [(c, pat, j, id)] }).claimScratch c id t

/-- The scratch chunks that a list of written bytes reaches. -/
def Needle.scratchChunks (nd : Needle) (ws : List (Nat × Byte)) : List (Nat × Nat) :=
  ws.foldl (fun l w =>
    match splitAddr w.1 with
    | .ctx seg off =>
      match FMap.get? nd.segs seg with
      | some d =>
        let k := (d.region, d.base + off / 65536)
        if d.kind = 1 && !l.contains k then l ++ [k] else l
      | none => l
    | _ => l) []

/-- Where written bytes of context space go. -/
structure WritePlan where
  stack : List (Nat × Byte)
  /-- Host address, cipher context and tweak, byte (R586). -/
  host : List (Nat × Option (Nat × Nat) × Byte)
  /-- The same, of bytes whose host port fails them (R549, R610), and the first one's segment and offset. -/
  failed : List (Nat × Option (Nat × Nat) × Byte)
  failedAt : Option (Nat × Nat)
  /-- Destination, garment, segment, offset, byte. -/
  peer : List (Nat × Nat × Nat × Nat × Byte)
  sleeve : List (Nat × Byte)
  deriving DecidableEq, Repr

/-- Sorts written bytes by where they live. -/
def State.planWrite (s : State) (nd : Needle) (r : RunStitch) (ws : List (Nat × Byte)) : WritePlan :=
  ws.foldl (fun p w =>
    match splitAddr w.1 with
    | .sleeve off => { p with sleeve := p.sleeve ++ [(off, w.2)] }
    | .ctx seg off =>
      match FMap.get? nd.segs seg with
      | none => p
      | some d =>
        match s.place r.st.ctx d seg off r.st.id true with
        | .stack ch a => { p with stack := p.stack ++ [(ch * 2 ^ 32 + a, w.2)] }
        | .host a e =>
          if s.hemDown r.st.ctx d a then { p with failed := p.failed ++ [(a, e, w.2)], failedAt := p.failedAt.orElse (fun _ => some (seg, off)) }
          else { p with host := p.host ++ [(a, e, w.2)] }
        | .peer g b q sg o => { p with peer := p.peer ++ [(b * 16 + q, g, sg, o, w.2)] }
        | .nowhere => p
    | .none_ => p) { stack := [], host := [], failed := [], failedAt := none, peer := [], sleeve := [] }

/-- The message words of bytes written to a peer: segment and garment, then offset and byte by turns. -/
def peerWords (g sg : Nat) (bs : List (Nat × Nat × Nat × Nat × Byte)) : List Nat :=
  g :: sg :: (bs.map (fun b => [b.2.2.2.1, b.2.2.2.2.toNat])).flatten

/-- What a write tells the messages and accesses that it makes: who sends it, whether locked (R216, R219, R222), the hint it carries (R188,
R222), whether it is a vector operation (R192), and its place in the order of pushes (R142). -/
structure WriteBy where
  sender : Sender
  lock : Bool
  hint : Nat
  vec : Bool
  order : Nat
  deriving DecidableEq, Repr

/-- A write of an instruction that the queues run. -/
def Queued.writes (q : Queued) (hint : Nat) : WriteBy :=
  { sender := .stitch, lock := false, hint := hint, vec := 0x8 ≤ q.group && q.group ≤ 0xB, order := q.seq }

/-- R225: bytes for peers cut into messages: one destination, one 64 KiB chunk and at most `max` bytes each. -/
def cutMessages (max : Nat) : List (Nat × Nat × Nat × Nat × Byte) → List (List (Nat × Nat × Nat × Nat × Byte))
  | [] => []
  | b :: t =>
    match cutMessages max t with
    | (c :: g) :: rest =>
      if (b.1, b.2.1, b.2.2.1) = (c.1, c.2.1, c.2.2.1) && b.2.2.2.1 / 65536 = c.2.2.2.1 / 65536 && g.length + 1 < max then (b :: c :: g) :: rest
      else [b] :: (c :: g) :: rest
    | rest => [b] :: rest

/-- R225: the most bytes of one message of a write. -/
def WriteBy.cut (w : WriteBy) : Nat := if w.lock then 1024 else 4096

/-- A list in runs of equal keys. -/
def runsBy {α : Type} (key : α → Nat) : List α → List (Nat × List α)
  | [] => []
  | a :: t => match runsBy key t with
    | (k, g) :: rest => if key a = k then (k, a :: g) :: rest else (key a, [a]) :: (k, g) :: rest
    | [] => [(key a, [a])]

/-- R188, R260: the bytes that lie in the stacks are written, each under the hint of its access or its segment's default. -/
def State.writeHinted (s : State) (nd : Needle) (r : RunStitch) (hint : Nat) (ws : List (Nat × Byte)) : State × Bool :=
  (runsBy (fun w => nd.hintOf w.1 hint) ws).foldl (fun (p : State × Bool) g =>
    let (s1, bad) := p.1.writeStack (p.1.planWrite nd r g.2).stack g.1 (some r.st.ctx)
    (s1, p.2 || bad)) (s, false)

/-- R36: whether a written byte stays in place when its stitch is dropped: a scratch segment's write is discarded (R37). -/
def Needle.stays (nd : Needle) (a : Nat) : Bool :=
  match splitAddr a with
  | .ctx seg _ => (match FMap.get? nd.segs seg with | some d => d.kind != 1 | none => false)
  | _ => false

/-- Writes bytes at 64-bit addresses whose checks have passed, for the stitch on needle `n`, in ascending order of the list. A scratch
chunk that another stitch wrote in this tick faults (R37) before any byte moves. A write that the controller acknowledges POISONED
drops the stitch with WITHDRAWN (R260); the second component says so. A write to a peer leaves as messages, acknowledged later (R34). One that
a host port in reset fails drops the stitch too, and whether its bytes reached host memory is a free value (R549, R610). -/
def State.writeAddrs (s : State) (n : Nat) (ws : List (Nat × Byte)) (w : WriteBy) : Except Nat (State × Bool) :=
  let nd := s.needle n
  match nd.run with
  | none => .ok (s, false)
  | some r =>
    match s.claimScratch r.st.ctx r.st.id (nd.scratchChunks ws) with
    | .error k => .error k
    | .ok s1 =>
      let p := s1.planWrite nd r ws
      let (s2, refused) := s1.writeHinted nd r w.hint ws
      let (landed, s2a) := if p.failedAt.isSome then s2.drawUpTo 1 else (0, s2)
      let s2b := match p.failedAt with | some f => s2a.noteHost r.st.ctx f.1 f.2 | none => s2a
      let s3 := (p.host ++ (if landed = 1 then p.failed else [])).foldl (fun (t : State) h => t.putHostByte h.1 h.2.1 h.2.2) s2b
      let msgs := cutMessages w.cut p.peer
      let s4 := msgs.foldl (fun (a : State) g => match g with
        | [] => a
        | b :: _ => a.sendMsg b.1 msgWrite (s3.headFor w.sender w.lock (s3.ctxHandleOf r.st.ctx)) (peerWords b.2.1 b.2.2.1 g)) s3
      let first := s3.board.nextMsg
      let nd4 := s4.needle n
      let s5 := s4.setNeedle n { nd4 with sleeve := p.sleeve.foldl (fun (m : Mem) (w : Nat × Byte) => Mem.write m w.1 w.2) nd4.sleeve }
      let kept := s1.planWrite nd r (ws.filter (fun b => nd.stays b.1))
      let out := !(kept.stack.isEmpty && kept.host.isEmpty && kept.failed.isEmpty && kept.peer.isEmpty)
      .ok (s5.modRun n (fun x =>
        (List.range msgs.length).foldl (fun (y : RunStitch) i => y.awaits (2 * (first + i)) (if w.vec then some first else none) w.order)
          { x with
            wroteOut := x.wroteOut || out
            withdraw := x.withdraw || refused || p.failedAt.isSome
            channels := dedup (x.channels ++ (burstsOf p.stack).map (fun k => k / 2 ^ 26))
            peers := (x.peers ++ p.peer.map Prod.fst).eraseDups }), refused)

/-- Bytes at rising addresses from `a`. -/
def bytesAt (a : Nat) (bs : List Byte) : List (Nat × Byte) := bs.mapIdx (fun i b => (a + i, b))

end Sys2Proof.Machine
end

