-- ==== Sys2Proof/Machine/Encoding.lean ====
section
/-! DEFINITION. The encoding of needle instructions (R143 to R145, R160, R185, R220, R234): the fields of a 64-bit word, and the command that
its GROUP and OP name. -/

namespace Sys2Proof.Machine

/-- R143: bits [63:60]. -/
def groupOf (w : DWord) : Nat := (w.extractLsb' 60 4).toNat

/-- R143: bits [59:52]. -/
def opOf (w : DWord) : Nat := (w.extractLsb' 52 8).toNat

/-- R143: the fields of a format R word. -/
def fmtROf (w : DWord) : FmtR :=
  { rd := w.extractLsb' 46 6, rs1 := w.extractLsb' 40 6, rs2 := w.extractLsb' 34 6, rs3 := w.extractLsb' 28 6, msk := w.extractLsb' 24 4,
    minv := w.getLsbD 23, func := w.extractLsb' 0 23 }

/-- R143: the fields of a format I word. -/
def fmtIOf (w : DWord) : FmtI := { rd := w.extractLsb' 46 6, rs1 := w.extractLsb' 40 6, imm := w.extractLsb' 0 40 }

/-- R143: the fields of a format B word. -/
def fmtBOf (w : DWord) : FmtB := { ra := w.extractLsb' 46 6, rb := w.extractLsb' 40 6, off := w.extractLsb' 0 40 }

/-- Group 0x0: scalar register arithmetic, R145. -/
def scalarRegInsn (n : Nat) (f : FmtR) : Nat → Option Instr
  | 0x00 => some (.add n f)
  | 0x01 => some (.sub n f)
  | 0x02 => some (.and n f)
  | 0x03 => some (.or n f)
  | 0x04 => some (.xor n f)
  | 0x05 => some (.shl n f)
  | 0x06 => some (.shr n f)
  | 0x07 => some (.sra n f)
  | 0x08 => some (.slt n f)
  | 0x09 => some (.sltu n f)
  | 0x0A => some (.min n f)
  | 0x0B => some (.max n f)
  | 0x0C => some (.mul n f)
  | 0x0D => some (.mulhu n f)
  | 0x0E => some (.divu n f)
  | 0x0F => some (.remu n f)
  | _ => none

/-- Group 0x1: scalar immediate arithmetic, R145. -/
def scalarImmInsn (n : Nat) (f : FmtI) : Nat → Option Instr
  | 0x00 => some (.addi n f)
  | 0x02 => some (.andi n f)
  | 0x03 => some (.ori n f)
  | 0x04 => some (.xori n f)
  | 0x05 => some (.shli n f)
  | 0x06 => some (.shri n f)
  | 0x07 => some (.srai n f)
  | 0x08 => some (.slti n f)
  | 0x10 => some (.li n f)
  | 0x11 => some (.lih n f)
  | _ => none

/-- Group 0x2: branches and jumps, R145. -/
def branchInsn (n : Nat) (f : FmtB) : Nat → Option Instr
  | 0x00 => some (.beq n f)
  | 0x01 => some (.bne n f)
  | 0x02 => some (.blt n f)
  | 0x03 => some (.bge n f)
  | 0x04 => some (.bltu n f)
  | 0x05 => some (.bgeu n f)
  | 0x08 => some (.jal n f)
  | 0x09 => some (.jr n f)
  | _ => none

/-- Group 0x3: scalar Sleeve loads and stores, R145. -/
def sleeveInsn (n : Nat) (f : FmtI) : Nat → Option Instr
  | 0x00 => some (.ld8u n f)
  | 0x01 => some (.ld16u n f)
  | 0x02 => some (.ld32u n f)
  | 0x03 => some (.ld64 n f)
  | 0x04 => some (.ld8s n f)
  | 0x05 => some (.ld16s n f)
  | 0x06 => some (.ld32s n f)
  | 0x08 => some (.st8 n f)
  | 0x09 => some (.st16 n f)
  | 0x0A => some (.st32 n f)
  | 0x0B => some (.st64 n f)
  | _ => none

/-- Group 0x4: control, R145. -/
def controlInsn (n : Nat) (f : FmtI) : Nat → Option Instr
  | 0x00 => some (.nopInsn n f)
  | 0x01 => some (.sync n f)
  | 0x02 => some (.qsync n f)
  | 0x03 => some (.setvl n f)
  | 0x04 => some (.rdsr n f)
  | 0x05 => some (.tie n f)
  | _ => none

/-- Group 0x5: DMA issue, R220. -/
def dmaInsn (n : Nat) (f : FmtR) : Nat → Option Instr
  | 0x00 => some (.dma n f)
  | 0x01 => some (.dmastat n f)
  | _ => none

/-- Group 0x6: knot operations, R234. -/
def knotInsn (n : Nat) (f : FmtR) : Nat → Option Instr
  | 0x00 => some (.kadd n f)
  | 0x01 => some (.karrive n f)
  | 0x02 => some (.kset n f)
  | 0x03 => some (.kclr n f)
  | 0x04 => some (.kwait n f)
  | 0x05 => some (.kread n f)
  | _ => none

/-- Group 0x8: vector arithmetic, R186. -/
def vecArithInsn (n : Nat) (f : FmtR) : Nat → Option Instr
  | 0x00 => some (.vaddF n f)
  | 0x01 => some (.vsubF n f)
  | 0x02 => some (.vmulF n f)
  | 0x03 => some (.vfmaF n f)
  | 0x04 => some (.vfnmaF n f)
  | 0x05 => some (.vdivF n f)
  | 0x06 => some (.vsqrtF n f)
  | 0x07 => some (.vminF n f)
  | 0x08 => some (.vmaxF n f)
  | 0x09 => some (.vabsF n f)
  | 0x0A => some (.vnegF n f)
  | 0x0B => some (.vscalbF n f)
  | 0x0C => some (.vcmpF n f)
  | 0x10 => some (.vexp2 n f)
  | 0x11 => some (.vlog2 n f)
  | 0x12 => some (.vrcp n f)
  | 0x13 => some (.vrsqrt n f)
  | 0x14 => some (.vtanh n f)
  | 0x20 => some (.vaddI n f)
  | 0x21 => some (.vsubI n f)
  | 0x22 => some (.vmulI n f)
  | 0x23 => some (.vand n f)
  | 0x24 => some (.vor n f)
  | 0x25 => some (.vxor n f)
  | 0x26 => some (.vshl n f)
  | 0x27 => some (.vshr n f)
  | 0x28 => some (.vsra n f)
  | 0x29 => some (.vminI n f)
  | 0x2A => some (.vmaxI n f)
  | 0x2B => some (.vcmpI n f)
  | 0x2C => some (.vsel n f)
  | _ => none

/-- Group 0x9: vector memory operations, R188. -/
def vecMemInsn (n : Nat) (f : FmtR) : Nat → Option Instr
  | 0x00 => some (.vld n f)
  | 0x01 => some (.vst n f)
  | 0x02 => some (.vmld n f)
  | 0x03 => some (.vmst n f)
  | 0x04 => some (.vunpk n f)
  | 0x05 => some (.vpack n f)
  | 0x06 => some (.vrand n f)
  | _ => none

/-- Group 0xA: vector operations across elements, R194. -/
def vecAcrossInsn (n : Nat) (f : FmtR) : Nat → Option Instr
  | 0x00 => some (.vredsumF n f)
  | 0x01 => some (.vredmaxF n f)
  | 0x02 => some (.vredminF n f)
  | 0x03 => some (.vredsumI n f)
  | 0x04 => some (.vredmaxI n f)
  | 0x05 => some (.vredminI n f)
  | 0x08 => some (.vscanF n f)
  | 0x09 => some (.vscanI n f)
  | 0x10 => some (.vperm n f)
  | 0x11 => some (.vbfly n f)
  | 0x12 => some (.vtr8 n f)
  | 0x13 => some (.vziplo n f)
  | 0x14 => some (.vziphi n f)
  | 0x15 => some (.vuzpe n f)
  | 0x16 => some (.vuzpo n f)
  | 0x18 => some (.vcompress n f)
  | 0x19 => some (.vexpand n f)
  | 0x1A => some (.vidx n f)
  | 0x1B => some (.vmpfx n f)
  | 0x20 => some (.vcvt n f)
  | 0x21 => some (.viext n f)
  | _ => none

/-- Group 0xB: mask and move operations, R198. -/
def vecMaskInsn (n : Nat) (f : FmtR) : Nat → Option Instr
  | 0x00 => some (.vmand n f)
  | 0x01 => some (.vmor n f)
  | 0x02 => some (.vmxor n f)
  | 0x03 => some (.vmandn n f)
  | 0x04 => some (.vmnot n f)
  | 0x05 => some (.vmlen n f)
  | 0x08 => some (.vmpop n f)
  | 0x09 => some (.vmfirst n f)
  | 0x0A => some (.vext n f)
  | 0x0B => some (.vmov n f)
  | _ => none

/-- Group 0xC: matrix operations, R160. -/
def matrixInsn (n : Nat) (f : FmtR) : Nat → Option Instr
  | 0x00 => some (.wload n f)
  | 0x01 => some (.mmul n f)
  | 0x02 => some (.promote n f)
  | 0x03 => some (.aclr n f)
  | 0x04 => some (.arel n f)
  | 0x05 => some (.aflags n f)
  | _ => none

/-- Group 0xD: accumulator moves, R160. -/
def moveInsn (n : Nat) (f : FmtR) : Nat → Option Instr
  | 0x00 => some (.aload n f)
  | 0x01 => some (.astore n f)
  | 0x02 => some (.tsave n f)
  | 0x03 => some (.trestore n f)
  -- ACC_SEND: MODE is FUNC[3] (R160)
  | 0x04 => some (if f.func.getLsbD 3 then .accSendImg n f else .accSendAdd n f)
  | _ => none

/-- R143, R144: the instruction that a word of needle `n`'s program spells; none for an unassigned GROUP or OP, which faults with ILLEGAL. -/
def decodeWord (n : Nat) (w : DWord) : Option Instr :=
  match groupOf w with
  | 0x0 => scalarRegInsn n (fmtROf w) (opOf w)
  | 0x1 => scalarImmInsn n (fmtIOf w) (opOf w)
  | 0x2 => branchInsn n (fmtBOf w) (opOf w)
  | 0x3 => sleeveInsn n (fmtIOf w) (opOf w)
  | 0x4 => controlInsn n (fmtIOf w) (opOf w)
  | 0x5 => dmaInsn n (fmtROf w) (opOf w)
  | 0x6 => knotInsn n (fmtROf w) (opOf w)
  | 0x8 => vecArithInsn n (fmtROf w) (opOf w)
  | 0x9 => vecMemInsn n (fmtROf w) (opOf w)
  | 0xA => vecAcrossInsn n (fmtROf w) (opOf w)
  | 0xB => vecMaskInsn n (fmtROf w) (opOf w)
  | 0xC => matrixInsn n (fmtROf w) (opOf w)
  | 0xD => moveInsn n (fmtROf w) (opOf w)
  | _ => none

/-- R144, R185: whether a word's GROUP and OP are assigned. -/
def assignedWord (w : DWord) : Bool := (decodeWord 0 w).isSome

end Sys2Proof.Machine
end

