-- ==== Sys2Proof/Machine/Scalar.lean ====
section
/-! DEFINITION. The scalar unit (R137, R139, R143, R145): arithmetic, branches and Sleeve loads and stores. -/

namespace Sys2Proof.Machine

/-- R143, R155: the word of the needle's instruction store at its pc has an assigned GROUP and OP. -/
def Needle.atAssigned (nd : Needle) : Bool := assignedWord (FMap.getD nd.image nd.pc 0)

/-- R137, R139, R143, R152, R155: issues one instruction on needle `n`. Where no stitch is issuing, nothing happens. An instruction past
the image, one whose word in the store has an unassigned GROUP or OP, one with a field out of its range (`ok` false) or a register beyond X31
faults with ILLEGAL; one that names a
pending X register stalls: nothing happens yet. Otherwise `body` says what it does. -/
def State.issue (s : State) (n : Nat) (named : List Nat) (ok : Bool) (body : Needle → RunStitch → State) :
    Host.Outcome State Fault Refusal :=
  if Config.needles ≤ n then .fault .noSuchUnit
  else
    let nd := s.needle n
    match nd.run with
    | none => .next s
    | some r =>
      if r.ended.isSome then .next s
      else if nd.imageLen ≤ nd.pc || !nd.atAssigned || !ok || named.any (fun x => decide (32 ≤ x)) then .next (s.faultStitch n fkIllegal)
      else if named.any (fun x => nd.xPend.contains x) then .next s
      else .next (body nd r)

/-- The needle as the instruction left it, at the next instruction. -/
def State.retire (s : State) (n : Nat) (nd : Needle) : State := s.setNeedle n { nd with pc := nd.pc + 1 }

/-- R143: in group 0x0 the fields that no operation uses are zero. -/
def scalarFieldsOk (f : FmtR) : Bool := f.rs3 = 0 && f.msk = 0 && !f.minv && f.func = 0

/-- R145: a register operation of group 0x0: rd takes `op` of rs1 and rs2. -/
def State.aluR (s : State) (n : Nat) (f : FmtR) (op : DWord → DWord → DWord) : Host.Outcome State Fault Refusal :=
  s.issue n [f.rd.toNat, f.rs1.toNat, f.rs2.toNat] (scalarFieldsOk f) (fun nd _ =>
    s.retire n (nd.setX f.rd.toNat (op (nd.getX f.rs1.toNat) (nd.getX f.rs2.toNat))))

/-- R145: an immediate operation of group 0x1: rd takes `op` of rs1 and the sign-extended immediate. -/
def State.aluI (s : State) (n : Nat) (f : FmtI) (ok : Bool) (op : DWord → DWord → DWord) : Host.Outcome State Fault Refusal :=
  s.issue n [f.rd.toNat, f.rs1.toNat] ok (fun nd _ =>
    s.retire n (nd.setX f.rd.toNat (op (nd.getX f.rs1.toNat) (f.imm.signExtend 64))))

/-- One or zero. -/
def flagWord (b : Bool) : DWord := if b then 1 else 0

/-- R145: the high 64 bits of the unsigned product. -/
def mulhu (a b : DWord) : DWord := BitVec.ofNat 64 (a.toNat * b.toNat / 2 ^ 64)

/-- R145: the unsigned quotient, all ones for a zero divisor. -/
def divu (a b : DWord) : DWord := if b = 0 then BitVec.allOnes 64 else a / b

/-- R145: the unsigned remainder, the dividend for a zero divisor. -/
def remu (a b : DWord) : DWord := if b = 0 then a else a % b

/-- ADD, R145. -/
def execAdd (n : Nat) (f : FmtR) (s : State) : Host.Outcome State Fault Refusal := s.aluR n f (fun a b => a + b)
/-- SUB, R145. -/
def execSub (n : Nat) (f : FmtR) (s : State) : Host.Outcome State Fault Refusal := s.aluR n f (fun a b => a - b)
/-- AND, R145. -/
def execAnd (n : Nat) (f : FmtR) (s : State) : Host.Outcome State Fault Refusal := s.aluR n f (fun a b => a &&& b)
/-- OR, R145. -/
def execOr (n : Nat) (f : FmtR) (s : State) : Host.Outcome State Fault Refusal := s.aluR n f (fun a b => a ||| b)
/-- XOR, R145. -/
def execXor (n : Nat) (f : FmtR) (s : State) : Host.Outcome State Fault Refusal := s.aluR n f (fun a b => a ^^^ b)
/-- SHL, R145: by bits [5:0]. -/
def execShl (n : Nat) (f : FmtR) (s : State) : Host.Outcome State Fault Refusal := s.aluR n f (fun a b => a <<< (b.toNat % 64))
/-- SHR, R145. -/
def execShr (n : Nat) (f : FmtR) (s : State) : Host.Outcome State Fault Refusal := s.aluR n f (fun a b => a >>> (b.toNat % 64))
/-- SRA, R145. -/
def execSra (n : Nat) (f : FmtR) (s : State) : Host.Outcome State Fault Refusal :=
  s.aluR n f (fun a b => a.sshiftRight (b.toNat % 64))
/-- SLT, R145. -/
def execSlt (n : Nat) (f : FmtR) (s : State) : Host.Outcome State Fault Refusal := s.aluR n f (fun a b => flagWord (a.slt b))
/-- SLTU, R145. -/
def execSltu (n : Nat) (f : FmtR) (s : State) : Host.Outcome State Fault Refusal := s.aluR n f (fun a b => flagWord (a.ult b))
/-- MIN, R145: signed. -/
def execMin (n : Nat) (f : FmtR) (s : State) : Host.Outcome State Fault Refusal :=
  s.aluR n f (fun a b => if a.slt b then a else b)
/-- MAX, R145: signed. -/
def execMax (n : Nat) (f : FmtR) (s : State) : Host.Outcome State Fault Refusal :=
  s.aluR n f (fun a b => if a.slt b then b else a)
/-- MUL, R145: the low 64 bits. -/
def execMul (n : Nat) (f : FmtR) (s : State) : Host.Outcome State Fault Refusal := s.aluR n f (fun a b => a * b)
/-- MULHU, R145. -/
def execMulhu (n : Nat) (f : FmtR) (s : State) : Host.Outcome State Fault Refusal := s.aluR n f mulhu
/-- DIVU, R145. -/
def execDivu (n : Nat) (f : FmtR) (s : State) : Host.Outcome State Fault Refusal := s.aluR n f divu
/-- REMU, R145. -/
def execRemu (n : Nat) (f : FmtR) (s : State) : Host.Outcome State Fault Refusal := s.aluR n f remu

/-- R145: SHLI, SHRI and SRAI take imm[5:0]; the bits above are reserved. -/
def shiftFieldsOk (f : FmtI) : Bool := decide (f.imm.toNat < 64)

/-- ADDI, R145. -/
def execAddi (n : Nat) (f : FmtI) (s : State) : Host.Outcome State Fault Refusal := s.aluI n f true (fun a b => a + b)
/-- ANDI, R145. -/
def execAndi (n : Nat) (f : FmtI) (s : State) : Host.Outcome State Fault Refusal := s.aluI n f true (fun a b => a &&& b)
/-- ORI, R145. -/
def execOri (n : Nat) (f : FmtI) (s : State) : Host.Outcome State Fault Refusal := s.aluI n f true (fun a b => a ||| b)
/-- XORI, R145. -/
def execXori (n : Nat) (f : FmtI) (s : State) : Host.Outcome State Fault Refusal := s.aluI n f true (fun a b => a ^^^ b)
/-- SHLI, R145. -/
def execShli (n : Nat) (f : FmtI) (s : State) : Host.Outcome State Fault Refusal :=
  s.aluI n f (shiftFieldsOk f) (fun a b => a <<< (b.toNat % 64))
/-- SHRI, R145. -/
def execShri (n : Nat) (f : FmtI) (s : State) : Host.Outcome State Fault Refusal :=
  s.aluI n f (shiftFieldsOk f) (fun a b => a >>> (b.toNat % 64))
/-- SRAI, R145. -/
def execSrai (n : Nat) (f : FmtI) (s : State) : Host.Outcome State Fault Refusal :=
  s.aluI n f (shiftFieldsOk f) (fun a b => a.sshiftRight (b.toNat % 64))
/-- SLTI, R145. -/
def execSlti (n : Nat) (f : FmtI) (s : State) : Host.Outcome State Fault Refusal :=
  s.aluI n f true (fun a b => flagWord (a.slt b))
/-- LI, R145; RS1 is reserved. -/
def execLi (n : Nat) (f : FmtI) (s : State) : Host.Outcome State Fault Refusal := s.aluI n f (f.rs1 = 0) (fun _ b => b)
/-- LIH, R145: bits [63:40] from imm[23:0]; bits [39:0] of rd are kept. RS1 and imm above bit 23 are reserved. -/
def execLih (n : Nat) (f : FmtI) (s : State) : Host.Outcome State Fault Refusal :=
  s.issue n [f.rd.toNat, f.rs1.toNat] (f.rs1 = 0 && decide (f.imm.toNat < 2 ^ 24)) (fun nd _ =>
    s.retire n (nd.setX f.rd.toNat
      (BitVec.ofNat 64 ((nd.getX f.rd.toNat).toNat % 2 ^ 40 + f.imm.toNat * 2 ^ 40))))

/-- R145: the target of a branch or jump, none where it lies outside the image. -/
def Needle.target (nd : Needle) (t : Int) : Option Nat :=
  if 0 ≤ t && t < nd.imageLen then some t.toNat else none

/-- R145: a branch of group 0x2: taken when `cmp` holds of ra and rb. A taken branch to outside the image faults. -/
def State.branch (s : State) (n : Nat) (f : FmtB) (cmp : DWord → DWord → Bool) : Host.Outcome State Fault Refusal :=
  s.issue n [f.ra.toNat, f.rb.toNat] true (fun nd _ =>
    if cmp (nd.getX f.ra.toNat) (nd.getX f.rb.toNat) then
      match nd.target ((nd.pc : Int) + f.off.toInt) with
      | some t => s.setNeedle n { nd with pc := t }
      | none => s.faultStitch n fkIllegal
    else s.retire n nd)

/-- BEQ, R145. -/
def execBeq (n : Nat) (f : FmtB) (s : State) : Host.Outcome State Fault Refusal := s.branch n f (fun a b => a == b)
/-- BNE, R145. -/
def execBne (n : Nat) (f : FmtB) (s : State) : Host.Outcome State Fault Refusal := s.branch n f (fun a b => a != b)
/-- BLT, R145: signed. -/
def execBlt (n : Nat) (f : FmtB) (s : State) : Host.Outcome State Fault Refusal := s.branch n f (fun a b => a.slt b)
/-- BGE, R145: signed. -/
def execBge (n : Nat) (f : FmtB) (s : State) : Host.Outcome State Fault Refusal := s.branch n f (fun a b => !a.slt b)
/-- BLTU, R145. -/
def execBltu (n : Nat) (f : FmtB) (s : State) : Host.Outcome State Fault Refusal := s.branch n f (fun a b => a.ult b)
/-- BGEU, R145. -/
def execBgeu (n : Nat) (f : FmtB) (s : State) : Host.Outcome State Fault Refusal := s.branch n f (fun a b => !a.ult b)

/-- JAL, R145: the link is the byte address of the next instruction; RB is reserved. -/
def execJal (n : Nat) (f : FmtB) (s : State) : Host.Outcome State Fault Refusal :=
  s.issue n [f.ra.toNat, f.rb.toNat] (f.rb = 0) (fun nd _ =>
    match nd.target ((nd.pc : Int) + f.off.toInt) with
    | some t => s.setNeedle n { (nd.setX f.ra.toNat (BitVec.ofNat 64 (8 * (nd.pc + 1)))) with pc := t }
    | none => s.faultStitch n fkIllegal)

/-- JR, R145: to X[ra] / 8, which must be a multiple of 8; RB and OFF are zero. -/
def execJr (n : Nat) (f : FmtB) (s : State) : Host.Outcome State Fault Refusal :=
  s.issue n [f.ra.toNat, f.rb.toNat] (f.rb = 0 && f.off = 0) (fun nd _ =>
    let a := (nd.getX f.ra.toNat).toNat
    if a % 8 != 0 then s.faultStitch n fkAlign
    else match nd.target ((a / 8 : Nat) : Int) with
      | some t => s.setNeedle n { nd with pc := t }
      | none => s.faultStitch n fkIllegal)

/-- R129 to R131, R145: the Sleeve offset of a scalar access of `w` bytes, or the fault it meets: ALIGN, SPACE, SLV_BOUND or
XWIN, in that order (assumption 11). -/
def Needle.scalarAddr (nd : Needle) (a w : Nat) : Except Nat Nat :=
  if a % w != 0 then .error fkAlign
  else match splitAddr a with
    | .sleeve off => match nd.sleeveFault off w false with
      | some k => .error k
      | none => .ok off
    | _ => .error fkSpace

/-- R145: a scalar load of `w` bytes; `ext` extends the bytes' number to 64 bits. -/
def State.scalarLoad (s : State) (n : Nat) (f : FmtI) (w : Nat) (ext : Nat → DWord) : Host.Outcome State Fault Refusal :=
  s.issue n [f.rd.toNat, f.rs1.toNat] true (fun nd _ =>
    match nd.scalarAddr (nd.getX f.rs1.toNat + f.imm.signExtend 64).toNat w with
    | .error k => s.faultStitch n k
    | .ok off => s.retire n (nd.setX f.rd.toNat (ext (Mem.readLE nd.sleeve off w))))

/-- R145: a scalar store of the low `w` bytes of rd. -/
def State.scalarStore (s : State) (n : Nat) (f : FmtI) (w : Nat) : Host.Outcome State Fault Refusal :=
  s.issue n [f.rd.toNat, f.rs1.toNat] true (fun nd _ =>
    match nd.scalarAddr (nd.getX f.rs1.toNat + f.imm.signExtend 64).toNat w with
    | .error k => s.faultStitch n k
    | .ok off => s.retire n { nd with sleeve := Mem.writeLE nd.sleeve off w (nd.getX f.rd.toNat).toNat })

/-- The 64-bit two's-complement word of a number of `w` bits. -/
def sext64 (w v : Nat) : DWord := BitVec.ofInt 64 (sInt w v)

/-- LD8U, R145. -/
def execLd8u (n : Nat) (f : FmtI) (s : State) : Host.Outcome State Fault Refusal := s.scalarLoad n f 1 (BitVec.ofNat 64)
/-- LD16U, R145. -/
def execLd16u (n : Nat) (f : FmtI) (s : State) : Host.Outcome State Fault Refusal := s.scalarLoad n f 2 (BitVec.ofNat 64)
/-- LD32U, R145. -/
def execLd32u (n : Nat) (f : FmtI) (s : State) : Host.Outcome State Fault Refusal := s.scalarLoad n f 4 (BitVec.ofNat 64)
/-- LD64, R145. -/
def execLd64 (n : Nat) (f : FmtI) (s : State) : Host.Outcome State Fault Refusal := s.scalarLoad n f 8 (BitVec.ofNat 64)
/-- LD8S, R145. -/
def execLd8s (n : Nat) (f : FmtI) (s : State) : Host.Outcome State Fault Refusal := s.scalarLoad n f 1 (sext64 8)
/-- LD16S, R145. -/
def execLd16s (n : Nat) (f : FmtI) (s : State) : Host.Outcome State Fault Refusal := s.scalarLoad n f 2 (sext64 16)
/-- LD32S, R145. -/
def execLd32s (n : Nat) (f : FmtI) (s : State) : Host.Outcome State Fault Refusal := s.scalarLoad n f 4 (sext64 32)
/-- ST8, R145. -/
def execSt8 (n : Nat) (f : FmtI) (s : State) : Host.Outcome State Fault Refusal := s.scalarStore n f 1
/-- ST16, R145. -/
def execSt16 (n : Nat) (f : FmtI) (s : State) : Host.Outcome State Fault Refusal := s.scalarStore n f 2
/-- ST32, R145. -/
def execSt32 (n : Nat) (f : FmtI) (s : State) : Host.Outcome State Fault Refusal := s.scalarStore n f 4
/-- ST64, R145. -/
def execSt64 (n : Nat) (f : FmtI) (s : State) : Host.Outcome State Fault Refusal := s.scalarStore n f 8

end Sys2Proof.Machine
end

