-- ==== Sys2Proof/Machine/Operands.lean ====
section
/-! DEFINITION. The operand descriptors that instructions name (R161, R222) and the reading of a descriptor at the push. -/

namespace Sys2Proof.Machine

/-- R161, R221: reads a descriptor of `len` bytes that must be aligned to `len`: ALIGN, then SPACE outside the Sleeve, then the Sleeve's
own faults (assumption 11). -/
def readDesc (nd : Needle) (a len : Nat) : Except Nat (List Byte) :=
  if a % len != 0 then .error fkAlign
  else match splitAddr a with
    | .sleeve off => match nd.sleeveFault off len false with
      | some k => .error k
      | none => .ok (Mem.readN nd.sleeve off len)
    | _ => .error fkSpace

/-- Word `i` of a descriptor. -/
def wordAt (bs : List Byte) (i : Nat) : Nat := leNat (slice bs (4 * i) 4)

/-- Two words of a descriptor as a 64-bit number. -/
def dwordAt (bs : List Byte) (i : Nat) : Nat := wordAt bs i + 2 ^ 32 * wordAt bs (i + 1)

/-- A matrix operand descriptor (R161). -/
structure Operand where
  elemBase : Nat
  scaleBase : Nat
  elemPitch : Nat
  scalePitch : Nat
  scw : Scw
  rowElems : Nat
  key : Nat
  ctr : Nat
  /-- The reserved fields, together. -/
  reserved : Nat
  deriving DecidableEq, Repr

/-- R161: the fields of 64 bytes. -/
def Operand.ofBytes (b : List Byte) : Operand :=
  { elemBase := dwordAt b 0, scaleBase := dwordAt b 2, elemPitch := wordAt b 4, scalePitch := wordAt b 5,
    scw := Scw.ofNat (wordAt b 6), rowElems := wordAt b 7, key := dwordAt b 8,
    ctr := wordAt b 10 + 2 ^ 32 * (wordAt b 11 % 2 ^ 16),
    reserved := wordAt b 11 / 2 ^ 16 + wordAt b 12 + wordAt b 13 + wordAt b 14 + wordAt b 15 }

/-- R161: reads a matrix operand descriptor at the push; a reserved field that is not zero faults with ILLEGAL. -/
def readOperand (nd : Needle) (a : Nat) : Except Nat (List Byte) :=
  match readDesc nd a 64 with
  | .error k => .error k
  | .ok b => if (Operand.ofBytes b).reserved = 0 then .ok b else .error fkIllegal

/-- R162: the address of element `k` of row `r`, whose format has `w` bits per element. -/
def Operand.elemAddr (o : Operand) (r k w : Nat) : Nat := (o.elemBase + r * o.elemPitch + k * w / 8) % 2 ^ 64

/-- R162: the address of the scale of element `k` of row `r` with blocks of `b` elements. -/
def Operand.scaleAddr (o : Operand) (r k b : Nat) : Nat := (o.scaleBase + r * o.scalePitch + k / b) % 2 ^ 64

/-- R222: a DMA descriptor's fields from its 128 bytes. -/
def DmaDesc.ofBytes (b : List Byte) : DmaDesc :=
  { src := dwordAt b 0, dst := dwordAt b 2, elems := wordAt b 4, rows := wordAt b 5 % 2 ^ 24, srcPitch := wordAt b 6,
    dstPitch := wordAt b 7, scw := wordAt b 8, srcHint := bits (wordAt b 9) 0 2, dstHint := bits (wordAt b 9) 2 2,
    lock := bit (wordAt b 9) 4, fence := bit (wordAt b 9) 5, deadline := wordAt b 10 % 2 ^ 24, ctrPitch := wordAt b 11,
    sscale := dwordAt b 12, dscale := dwordAt b 14, sscalePitch := wordAt b 16, dscalePitch := wordAt b 17,
    key := dwordAt b 18, ctr := wordAt b 20 + 2 ^ 32 * (wordAt b 21 % 2 ^ 16),
    reserved := wordAt b 5 / 2 ^ 24 + wordAt b 9 / 2 ^ 6 + wordAt b 10 / 2 ^ 24 + wordAt b 21 / 2 ^ 16 +
      ((List.range 10).map (fun i => wordAt b (22 + i))).foldl (· + ·) 0 }

/-- Bytes that `n` elements of `w` bits take from a byte boundary. -/
def bytesFor (n w : Nat) : Nat := (n * w + 7) / 8

end Sys2Proof.Machine
end

