-- ==== Sys2Proof/Machine/VecQueue.lean ====
section
/-! DEFINITION. The push into the vector queue (R137 to R139, R185, R191) and what one vector instruction is: its encoding's
checks and its effect. -/

namespace Sys2Proof.Machine

/-- A vector instruction: its group and OP, the X registers it names, whether its fields are legal at an EW (R185), the X register it
writes, what the scalar unit checks and reads at the push, and its effect when the engine runs it. -/
structure VecRow where
  group : Nat
  op : Nat
  named : FmtR → List Nat
  ok : FmtR → Nat → Bool
  xdst : FmtR → Option Nat
  /-- The descriptor read at the push, or the fault (R161, R193). -/
  desc : Needle → FmtR → Except Nat (List Byte)
  act : State → Nat → Queued → State

/-- What a push captures (R138, R191). -/
def Needle.capture (nd : Needle) (group op : Nat) (f : FmtR) (desc : List Byte) : Queued :=
  { group := group, op := op, f := f, mask := 0, x1 := nd.getX f.rs1.toNat, x2 := nd.getX f.rs2.toNat,
    x3 := nd.getX f.rs3.toNat, xd := nd.getX f.rd.toNat, xwin := nd.x, vl := nd.vl, ew := nd.ew, desc := desc, pc := nd.pc, seq := nd.pushes }

/-- The stitch goes on to its next instruction, unless it ended. -/
def State.advance (s : State) (n : Nat) : State :=
  let nd := s.needle n
  match nd.run with
  | some r => if r.ended.isSome then s else s.setNeedle n { nd with pc := nd.pc + 1 }
  | none => s

/-- Appends to the vector queue; the X register it will write is pending (R139). -/
def State.enqueueV (s : State) (n : Nat) (q : Queued) (xdst : Option Nat) : State :=
  let nd := s.needle n
  s.setNeedle n { nd with
    vq := nd.vq ++ [q]
    pushes := nd.pushes + 1
    xPend := (match xdst with | some r => if r = 0 then nd.xPend else r :: nd.xPend | none => nd.xPend) }

/-- R188: the address of element `e`: base plus e strides, modulo 2^64. -/
def elemAddr (base : DWord) (stride : Int) (e : Nat) : Nat := (((base.toNat : Int) + e * stride) % (2 ^ 64 : Nat)).toNat

/-- R191: the X registers of the X-window that a load may address: elements below VL at a stride, masked off or not (assumption 11). -/
def windowRegs (q : Queued) : List Nat :=
  let w := ewWidth q.ew / 8
  let st := if bit q.f.func.toNat 0 then (w : Int) else q.x2.toInt
  dedup ((List.range q.vl).filterMap (fun e =>
    match splitAddr (elemAddr q.x1 st e) with
    | .sleeve off => if 0x300000 ≤ off && off < 0x300100 then some ((off - 0x300000) / 8) else none
    | _ => none))

/-- R190, R192: the vector operation that an unacknowledged message belongs to, by its first message. -/
def RunStitch.vecOp (r : RunStitch) (k : Nat) : Option Nat := (FMap.getD r.sentBy k (none, 0)).1

/-- R192: how many vector operations of the stitch are outstanding. -/
def Needle.vecOut (nd : Needle) : Nat := match nd.run with | some r => (dedup (r.unacked.filterMap r.vecOp)).length | none => 0

/-- R192: whether a vector operation reaches context space: a load, a store, or a conversion through memory. -/
def Queued.toContext (q : Queued) : Bool :=
  let inCtx (a : Nat) : Bool := match splitAddr a with | .ctx _ _ => true | _ => false
  let st := if bit q.f.func.toNat 0 then ((ewWidth q.ew / 8 : Nat) : Int) else q.x2.toInt
  let o := Operand.ofBytes q.desc
  q.group = 0x9 &&
    (if q.op < 2 then (List.range q.vl).any (fun e => inCtx (elemAddr q.x1 st e))
     else if q.op < 4 then inCtx q.x1.toNat
     else if q.op < 6 then inCtx o.elemBase || (o.scw.srcScale = 1 || o.scw.dstScale != 0) && inCtx o.scaleBase
     else false)

/-- R137: issues a vector instruction: it is pushed into the vector queue, and runs at once when nothing waits there. A full queue
stalls the scalar unit, as does a load of a pending register's window bytes (R191). A 17th operation to context space waits (R192). -/
def State.pushV (s : State) (n : Nat) (f : FmtR) (v : VecRow) : Host.Outcome State Fault Refusal :=
  s.issue n (v.named f) (v.ok f (s.needle n).ew) (fun nd _ =>
    match v.desc nd f with
    | .error k => s.faultStitch n k
    | .ok d =>
      let q := nd.capture v.group v.op f d
      if v.group = 0x9 && v.op = 0x00 && (windowRegs q).any (fun x => nd.xPend.contains x) then s
      else if nd.vq.isEmpty && !(q.toContext && 16 ≤ nd.vecOut) then (v.act s n q).advance n
      else if 32 ≤ nd.vq.length then s
      else (s.enqueueV n q (v.xdst f)).advance n)

-- ---------------------------------------------------------------- field checks (R185)

/-- No mask. -/
def noMask (f : FmtR) : Bool := f.msk = 0 && !f.minv
/-- A register field that is not used. -/
def fz (x : BitVec 6) : Bool := x = 0
/-- A mask register's number. -/
def isM (x : BitVec 6) : Bool := decide (x.toNat < 16)
/-- FUNC holds only the bits of `allowed`. -/
def funcIn (f : FmtR) (allowed : Nat) : Bool := Nat.land f.func.toNat (2 ^ 23 - 1 - allowed) = 0
/-- R182, R186: a floating-point type at EW, with FUNC[0] only at EW = 0b01 and `extra` bits besides. -/
def floatOk (f : FmtR) (ew extra : Nat) : Bool :=
  (ew = 1 && funcIn f (extra + 1)) || (ew = 2 && funcIn f extra)

/-- No descriptor. -/
def noDesc : Needle → FmtR → Except Nat (List Byte) := fun _ _ => .ok []

/-- A row that touches V and M registers only. -/
def regRow (group op : Nat) (ok : FmtR → Nat → Bool) (act : Queued → Needle → Needle) : VecRow :=
  { group := group, op := op, named := fun _ => [], ok := ok, xdst := fun _ => none, desc := noDesc,
    act := fun s n q => s.setNeedle n (act q (s.needle n)) }

-- ---------------------------------------------------------------- element-wise operations (R182, R183)

/-- The active elements of an instruction. -/
def Queued.active (q : Queued) (nd : Needle) : List Bool :=
  activeList (2048 / ewWidth q.ew) q.vl (nd.getM q.f.msk.toNat) q.f.minv

/-- Writes V[RD] in the active elements. -/
def Queued.putV (q : Queued) (nd : Needle) (new : List Nat) : Needle :=
  let w := ewWidth q.ew
  nd.setV q.f.rd.toNat (vOfElems w (mergeActive (q.active nd) (vElems w (nd.getV q.f.rd.toNat)) new))

/-- Writes V[RD] in every element below VL. -/
def Queued.putAll (q : Queued) (nd : Needle) (new : List Nat) : Needle :=
  let w := ewWidth q.ew
  nd.setV q.f.rd.toNat (vOfElems w (mergeActive ((List.range (2048 / w)).map (fun e => decide (e < q.vl)))
    (vElems w (nd.getV q.f.rd.toNat)) new))

/-- Writes M[RD] by R183. -/
def Queued.putM (q : Queued) (nd : Needle) (new : List Bool) : Needle :=
  let n := 2048 / ewWidth q.ew
  nd.setM q.f.rd.toNat (mergeMask n q.vl (q.active nd) (nd.getM q.f.rd.toNat) new)

/-- The elements of V[RS1], V[RS2] and V[RS3] as codes. -/
def Queued.a (q : Queued) (nd : Needle) : List Nat := vElems (ewWidth q.ew) (nd.getV q.f.rs1.toNat)
/-- V[RS2]. -/
def Queued.b (q : Queued) (nd : Needle) : List Nat := vElems (ewWidth q.ew) (nd.getV q.f.rs2.toNat)
/-- V[RS3]. -/
def Queued.c (q : Queued) (nd : Needle) : List Nat := vElems (ewWidth q.ew) (nd.getV q.f.rs3.toNat)

/-- The floating-point type of an instruction (R182). -/
def Queued.fmt (q : Queued) : Fmt := (vFloat q.ew (bit q.f.func.toNat 0)).getD .fp32

/-- R184, R186: a floating-point operation of one operand. -/
def rowF1 (op : Nat) (g : Fmt → FVal → FVal) : VecRow :=
  regRow 0x8 op (fun f ew => fz f.rs2 && fz f.rs3 && floatOk f ew 0)
    (fun q nd => q.putV nd ((q.a nd).map (fun x => q.fmt.encode (g q.fmt (q.fmt.read x)))))

/-- R184, R186: a floating-point operation of two operands. -/
def rowF2 (op : Nat) (g : Fmt → FVal → FVal → FVal) : VecRow :=
  regRow 0x8 op (fun f ew => fz f.rs3 && floatOk f ew 0)
    (fun q nd => q.putV nd (List.zipWith (fun x y => q.fmt.encode (g q.fmt (q.fmt.read x) (q.fmt.read y))) (q.a nd) (q.b nd)))

/-- R184, R186: a floating-point operation of three operands. -/
def rowF3 (op : Nat) (g : Fmt → FVal → FVal → FVal → FVal) : VecRow :=
  regRow 0x8 op (fun f ew => floatOk f ew 0)
    (fun q nd => q.putV nd (List.zipWith (fun (p : Nat × Nat) z =>
      q.fmt.encode (g q.fmt (q.fmt.read p.1) (q.fmt.read p.2) (q.fmt.read z))) (List.zip (q.a nd) (q.b nd)) (q.c nd)))

/-- R187: an approximating instruction. -/
def rowApprox (op : Nat) (fn : ApproxFn) : VecRow :=
  regRow 0x8 op (fun f ew => fz f.rs2 && fz f.rs3 && floatOk f ew 0)
    (fun q nd => q.putV nd ((q.a nd).map (approxElem q.fmt fn)))

/-- R186: an integer operation of two operands on codes of the element width; `extra` names its FUNC bits. -/
def rowI2 (op extra : Nat) (g : Queued → Nat → Nat → Nat → Nat) : VecRow :=
  regRow 0x8 op (fun f _ => fz f.rs3 && funcIn f extra)
    (fun q nd => q.putV nd (List.zipWith (fun x y => g q (ewWidth q.ew) x y % 2 ^ ewWidth q.ew) (q.a nd) (q.b nd)))

end Sys2Proof.Machine
end

