-- ==== Sys2Proof/Machine/VecMem.lean ====
section
/-! DEFINITION. Vector instructions of group 0x9: loads and stores, conversion through memory, and random numbers (R188 to R193,
R199, R200). -/

namespace Sys2Proof.Machine

/-- R188: the stride of a load or store, in bytes. -/
def Queued.stride (q : Queued) : Int := if bit q.f.func.toNat 0 then (ewWidth q.ew / 8 : Nat) else q.x2.toInt

/-- The active elements' indices, rising. -/
def Queued.activeIdx (q : Queued) (nd : Needle) : List Nat :=
  let act := q.active nd
  (List.range (2048 / ewWidth q.ew)).filter (fun e => act.getD e false)

/-- R189: the first fault that the addresses of an access of `len` bytes each meet, in element order: ALIGN, then R129 to R131 and
R148 (assumption 11). -/
def firstFault (nd : Needle) (len align : Nat) (need : Need) (reach : Reach) : List Nat → Option Nat
  | [] => none
  | a :: t =>
    if a % align != 0 then some fkAlign
    else match nd.addrFault a len need reach with
      | some k => some k
      | none => firstFault nd len align need reach t

/-- Vector loads reach every space, and the X-window. -/
def reachLoad : Reach := { sleeve := true, ctx := true, window := true }
/-- Other accesses of a needle to both spaces. -/
def reachBoth : Reach := { sleeve := true, ctx := true, window := false }

/-- R188, R189, R191: what VLD does when it runs. -/
def vldAct (s : State) (n : Nat) (q : Queued) : State :=
  let nd := s.needle n
  match nd.run with
  | none => s
  | some r =>
    let wb := ewWidth q.ew / 8
    let es := q.activeIdx nd
    let addrs := es.map (elemAddr q.x1 q.stride)
    match firstFault nd wb wb .read reachLoad addrs with
    | some k => s.faultAt n k q.pc
    | none =>
      if s.encBreak n (addrs.map (fun a => (a, wb))) then s.faultAt n fkAlign q.pc else
      let os := s.readAddrs nd r q.xwin wb s.freeCtr (dedup addrs)
      let s1 := s.afterReads n os (bits q.f.func.toNat 1 2)
      if (joinReads os).usable then
        let val (e : Nat) : Nat :=
          match os.find? (fun p => p.1 = elemAddr q.x1 q.stride e) with
          | some p => leNat p.2.bytes
          | none => 0
        let nd1 := s1.needle n
        s1.setNeedle n (q.putV nd1 ((List.range (2048 / ewWidth q.ew)).map val))
      else s1

/-- R188 to R190: what VST does when it runs. -/
def vstAct (s : State) (n : Nat) (q : Queued) : State :=
  let nd := s.needle n
  let wb := ewWidth q.ew / 8
  let es := q.activeIdx nd
  let src := vElems (ewWidth q.ew) (nd.getV q.f.rd.toNat)
  match firstFault nd wb wb .write reachBoth (es.map (elemAddr q.x1 q.stride)) with
  | some k => s.faultAt n k q.pc
  | none =>
    if s.encBreak n (es.map (fun e => (elemAddr q.x1 q.stride e, wb))) then s.faultAt n fkAlign q.pc else
    let ws := (es.map (fun e => bytesAt (elemAddr q.x1 q.stride e) (natLE wb (src.getD e 0)))).flatten
    match s.writeAddrs n ws (q.writes (bits q.f.func.toNat 1 2)) with
    | .error k => s.faultAt n k q.pc
    | .ok (s1, _) => s1

/-- R188, R189: what VMLD does when it runs. It is no load that may read the X-window (R133; assumption 11). -/
def vmldAct (s : State) (n : Nat) (q : Queued) : State :=
  let nd := s.needle n
  match nd.run with
  | none => s
  | some r =>
    match firstFault nd 32 32 .read reachBoth [q.x1.toNat] with
    | some k => s.faultAt n k q.pc
    | none =>
      if s.encBreak n [(q.x1.toNat, 32)] then s.faultAt n fkAlign q.pc else
      let os := s.readAddrs nd r [] 32 s.freeCtr [q.x1.toNat]
      let s1 := s.afterReads n os 0
      if (joinReads os).usable then
        s1.setNeedle n ((s1.needle n).setM q.f.rd.toNat (BitVec.ofNat 256 (leNat (joinReads os).bytes)))
      else s1

/-- R188, R189: what VMST does when it runs. -/
def vmstAct (s : State) (n : Nat) (q : Queued) : State :=
  let nd := s.needle n
  match firstFault nd 32 32 .write reachBoth [q.x1.toNat] with
  | some k => s.faultAt n k q.pc
  | none =>
    if s.encBreak n [(q.x1.toNat, 32)] then s.faultAt n fkAlign q.pc else
    match s.writeAddrs n (bytesAt q.x1.toNat (natLE 32 (nd.getM q.f.rd.toNat).toNat)) (q.writes 0) with
    | .error k => s.faultAt n k q.pc
    | .ok (s1, _) => s1

-- ---------------------------------------------------------------- R193

/-- R193: whether a format code is the element type at an EW. -/
def isElemType (code ew : Nat) : Bool :=
  (ew = 2 && code = 0) || (ew = 1 && (code = 1 || code = 2)) || (ew = 0 && code = 3)

/-- R193: alignment of an element offset or count for a side: 2 for 4-bit formats, 4 for 6-bit ones, the block size where the side
uses blocks. -/
def sideAligned (code : Nat) (block : Option Nat) (k : Nat) : Bool :=
  (match Fmt.ofCode code with
    | some f => if f.width = 4 then k % 2 = 0 else if f.width = 6 then k % 4 = 0 else true
    | none => false) &&
  (match block with | some b => k % b = 0 | none => true)

/-- R193: the SCW conditions of VUNPK; rows of `rowElems` elements (R100). -/
def unpackOk (c : Scw) (rowElems ew k0 : Nat) : Bool :=
  c.valid rowElems && isElemType c.dst ew && (c.dstScale = 0 || (c.dst = 3 && c.dstScale = 3)) && sideAligned c.src c.srcBlock k0

/-- R193: the SCW conditions of VPACK. -/
def packOk (c : Scw) (rowElems ew k0 vl : Nat) : Bool :=
  c.valid rowElems && isElemType c.src ew && (c.srcScale = 0 || (c.src = 3 && c.srcScale = 3)) && sideAligned c.dst c.dstBlock k0 &&
  sideAligned c.dst (if c.dstScale = 2 then c.dstBlock else none) vl

/-- Scale bytes that `n` elements take with blocks of `b`. -/
def scaleCount (n : Nat) (b : Option Nat) : Nat := match b with | some b => (n + b - 1) / b | none => 0

/-- The first fault of a list of ranges: address, length and need; empty ranges are not checked. -/
def rangesFault (nd : Needle) : List (Nat × Nat × Need) → Option Nat
  | [] => none
  | (a, len, need) :: t =>
    if len = 0 then rangesFault nd t
    else match nd.addrFault a len need reachBoth with
      | some k => some k
      | none => rangesFault nd t

/-- The ranges read, skipping empty ones: what each gave. -/
def State.readRanges (s : State) (nd : Needle) (r : RunStitch) : Nat → List (Nat × Nat) → List (Nat × ReadOut)
  | _, [] => []
  | fresh, (a, len) :: t =>
    (a, if len = 0 then ReadOut.plain [] else s.readAddr nd r [] fresh a len) :: s.readRanges nd r (fresh + len) t

/-- R104: the draw of an operand's destination element `i` of the operation, under its key and counter base. -/
def Operand.draw (o : Operand) (i : Nat) : Nat := shDraw o.key o.ctr i

/-- Joins Shears flags to the stitch's SH_FLAGS (R107). -/
def State.joinShFlags (s : State) (n : Nat) (fl : ShFlags) : State :=
  s.modRun n (fun x => { x with shFlags := x.shFlags ||| fl })

/-- R193: what VUNPK does when it runs. -/
def vunpkAct (s : State) (n : Nat) (q : Queued) : State :=
  let nd := s.needle n
  let o := Operand.ofBytes q.desc
  let row := q.x2.toNat % 2 ^ 32
  let k0 := q.x3.toNat
  match nd.run with
  | none => s
  | some r =>
    if !unpackOk o.scw o.rowElems q.ew k0 then s.faultAt n fkScw q.pc
    else
      let f := (Fmt.ofCode o.scw.src).getD .fp32
      let ea := o.elemAddr row k0 f.width
      let el := bytesFor q.vl f.width
      let sa := o.scaleAddr row k0 (o.scw.srcBlock.getD 1)
      let sl := scaleCount q.vl o.scw.srcBlock
      match rangesFault nd [(ea, el, .read), (sa, sl, .read)] with
      | some k => s.faultAt n k q.pc
      | none =>
        if s.encBreak n [(ea, el), (sa, sl)] then s.faultAt n fkAlign q.pc else
        let os := s.readRanges nd r s.freeCtr [(ea, el), (sa, sl)]
        let s1 := s.afterReads n os 0
        if (joinReads os).usable then
          let eb := (os.headD (0, ReadOut.plain [])).2.bytes
          let sb := ((os.getD 1 (0, ReadOut.plain [])).2.bytes).map BitVec.toNat
          let out := o.scw.convertRow o.draw (row * o.rowElems + k0) (f.unpack eb q.vl) sb []
          let nd1 := s1.needle n
          (s1.setNeedle n (q.putAll nd1 (out.codes ++ List.replicate (256 - out.codes.length) 0))).joinShFlags n out.flags
        else s1

/-- R193: what VPACK does when it runs. -/
def vpackAct (s : State) (n : Nat) (q : Queued) : State :=
  let nd := s.needle n
  let o := Operand.ofBytes q.desc
  let row := q.x2.toNat % 2 ^ 32
  let k0 := q.x3.toNat
  match nd.run with
  | none => s
  | some r =>
    if !packOk o.scw o.rowElems q.ew k0 q.vl then s.faultAt n fkScw q.pc
    else
      let f := (Fmt.ofCode o.scw.dst).getD .fp32
      let ea := o.elemAddr row k0 f.width
      let el := bytesFor q.vl f.width
      let sa := o.scaleAddr row k0 (o.scw.dstBlock.getD 1)
      let sl := scaleCount q.vl o.scw.dstBlock
      let rd := if o.scw.dstScale = 1 then sl else 0
      let wr := if o.scw.dstScale = 2 then sl else 0
      match rangesFault nd [(ea, el, .write), (sa, rd, .read), (sa, wr, .write)] with
      | some k => s.faultAt n k q.pc
      | none =>
        if s.encBreak n [(ea, el), (sa, rd + wr)] then s.faultAt n fkAlign q.pc else
        let os := s.readRanges nd r s.freeCtr [(sa, rd)]
        let s1 := s.afterReads n os 0
        if (joinReads os).usable then
          let src := (vElems (ewWidth q.ew) (nd.getV q.f.rd.toNat)).take q.vl
          let out := o.scw.convertRow o.draw (row * o.rowElems + k0) src [] ((joinReads os).bytes.map BitVec.toNat)
          let ws := bytesAt ea ((f.pack out.codes).take el) ++ bytesAt sa ((out.scales.map (BitVec.ofNat 8)).take wr)
          match s1.writeAddrs n ws (q.writes 0) with
          | .error k => (s1.joinShFlags n out.flags).faultAt n k q.pc
          | .ok (s2, _) => s2.joinShFlags n out.flags
        else s1

-- ---------------------------------------------------------------- the rows

/-- R188: the fields of VLD and VST. -/
def loadStoreOk (f : FmtR) : Bool :=
  fz f.rs3 && funcIn f 7 && bits f.func.toNat 1 2 != 3 && (!bit f.func.toNat 0 || fz f.rs2)

/-- The X registers VLD and VST name. -/
def loadStoreX (f : FmtR) : List Nat := if bit f.func.toNat 0 then [f.rs1.toNat] else [f.rs1.toNat, f.rs2.toNat]

/-- VLD, R188. -/
def rowVld : VecRow :=
  { group := 0x9, op := 0x00, named := loadStoreX, ok := fun f _ => loadStoreOk f, xdst := fun _ => none, desc := noDesc, act := vldAct }
/-- VST, R188. -/
def rowVst : VecRow :=
  { group := 0x9, op := 0x01, named := loadStoreX, ok := fun f _ => loadStoreOk f, xdst := fun _ => none, desc := noDesc, act := vstAct }
/-- VMLD, R188. -/
def rowVmld : VecRow :=
  { group := 0x9, op := 0x02, named := fun f => [f.rs1.toNat],
    ok := fun f _ => isM f.rd && fz f.rs2 && fz f.rs3 && noMask f && funcIn f 0, xdst := fun _ => none, desc := noDesc, act := vmldAct }
/-- VMST, R188. -/
def rowVmst : VecRow :=
  { group := 0x9, op := 0x03, named := fun f => [f.rs1.toNat],
    ok := fun f _ => isM f.rd && fz f.rs2 && fz f.rs3 && noMask f && funcIn f 0, xdst := fun _ => none, desc := noDesc, act := vmstAct }
/-- VUNPK, R193. -/
def rowVunpk : VecRow :=
  { group := 0x9, op := 0x04, named := fun f => [f.rs1.toNat, f.rs2.toNat, f.rs3.toNat], ok := fun f _ => noMask f && funcIn f 0,
    xdst := fun _ => none, desc := fun nd f => readOperand nd (nd.getX f.rs1.toNat).toNat, act := vunpkAct }
/-- VPACK, R193. -/
def rowVpack : VecRow :=
  { group := 0x9, op := 0x05, named := fun f => [f.rs1.toNat, f.rs2.toNat, f.rs3.toNat], ok := fun f _ => noMask f && funcIn f 0,
    xdst := fun _ => none, desc := fun nd f => readOperand nd (nd.getX f.rs1.toNat).toNat, act := vpackAct }
/-- VRAND, R200. FORM needs EW = 0b10. -/
def rowVrand : VecRow :=
  regRow 0x9 0x06 (fun f ew => fz f.rs3 && funcIn f 1 && (!bit f.func.toNat 0 || ew = 2))
    (fun q nd =>
      let k := (nd.getV q.f.rs1.toNat).toNat % 2 ^ 64
      let c0 := (nd.getV q.f.rs2.toNat).toNat % 2 ^ 48
      q.putV nd ((List.range (2048 / ewWidth q.ew)).map (fun e =>
        randElem q.ew (bit q.f.func.toNat 0) (genG k ((c0 + e) % 2 ^ 48)))))

/-- VLD. -/
def execVld (n : Nat) (f : FmtR) (s : State) : Host.Outcome State Fault Refusal := s.pushV n f rowVld
/-- VST. -/
def execVst (n : Nat) (f : FmtR) (s : State) : Host.Outcome State Fault Refusal := s.pushV n f rowVst
/-- VMLD. -/
def execVmld (n : Nat) (f : FmtR) (s : State) : Host.Outcome State Fault Refusal := s.pushV n f rowVmld
/-- VMST. -/
def execVmst (n : Nat) (f : FmtR) (s : State) : Host.Outcome State Fault Refusal := s.pushV n f rowVmst
/-- VUNPK. -/
def execVunpk (n : Nat) (f : FmtR) (s : State) : Host.Outcome State Fault Refusal := s.pushV n f rowVunpk
/-- VPACK. -/
def execVpack (n : Nat) (f : FmtR) (s : State) : Host.Outcome State Fault Refusal := s.pushV n f rowVpack
/-- VRAND. -/
def execVrand (n : Nat) (f : FmtR) (s : State) : Host.Outcome State Fault Refusal := s.pushV n f rowVrand

end Sys2Proof.Machine
end

