-- ==== Sys2Proof/Machine/MatQueue.lean ====
section
/-! DEFINITION. The push into the matrix queue (R137 to R139, R160, R179, R240): what waits there, and what one instruction of groups
0x5, 0x6, 0xC and 0xD is. -/

namespace Sys2Proof.Machine

/-- An instruction of the matrix queue. `mode` tells ACC_SEND's two modes apart. -/
structure MatRow where
  group : Nat
  op : Nat
  mode : Nat
  named : FmtR → List Nat
  ok : FmtR → Bool
  xdst : FmtR → Option Nat
  desc : Needle → FmtR → Except Nat (List Byte)
  /-- Whether the instruction may start now (a DMA waits for a free slot, R221). -/
  ready : Needle → Queued → Bool
  act : State → Nat → Queued → State

/-- Appends to the matrix queue; the X register it will write is pending (R139). -/
def State.enqueueM (s : State) (n : Nat) (q : Queued) (xdst : Option Nat) : State :=
  let nd := s.needle n
  s.setNeedle n { nd with
    mq := nd.mq ++ [q]
    pushes := nd.pushes + 1
    xPend := (match xdst with | some r => if r = 0 then nd.xPend else r :: nd.xPend | none => nd.xPend) }

/-- R137: issues an instruction of the matrix queue: it runs at once when nothing waits there and no KWAIT is outstanding (R240). A full
queue stalls the scalar unit. -/
def State.pushM (s : State) (n : Nat) (f : FmtR) (m : MatRow) : Host.Outcome State Fault Refusal :=
  s.issue n (m.named f) (m.ok f) (fun nd _ =>
    match m.desc nd f with
    | .error k => s.faultStitch n k
    | .ok d =>
      let q := { nd.capture m.group m.op f d with mask := m.mode }
      if nd.mq.isEmpty && nd.kwait.isNone && m.ready nd q then (m.act s n q).advance n
      else if 32 ≤ nd.mq.length then s
      else (s.enqueueM n q (m.xdst f)).advance n)

/-- Writes X[RD] of a queued instruction and ends its being pending (R139). -/
def Needle.finishX (nd : Needle) (r : Nat) (v : DWord) : Needle := { nd with xPend := nd.xPend.erase r }.setX r v

/-- A row that is always ready, writes no X register and reads no descriptor. -/
def matRow (group op : Nat) (named : FmtR → List Nat) (ok : FmtR → Bool) (act : State → Nat → Queued → State) : MatRow :=
  { group := group, op := op, mode := 0, named := named, ok := ok, xdst := fun _ => none, desc := noDesc,
    ready := fun _ _ => true, act := act }

/-- R160: the first X register field names it; the others are zero. -/
def onlyRs1 (f : FmtR) : Bool := fz f.rd && fz f.rs2 && fz f.rs3

/-- Writes a run of bytes at rising addresses whose checks have passed: scratch chunks are claimed first (R37), then the bytes go piece
by piece, no piece crossing a burst. -/
def State.writePieces (s : State) (n : Nat) (w : WriteBy) : Nat → Nat → List Byte → State
  | 0, _, _ => s
  | fuel + 1, a, bs =>
    match bs with
    | [] => s
    | b :: rest =>
      let k := 64 - a % 64
      let bs := b :: rest
      match s.writeAddrs n (bytesAt a (bs.take k)) w with
      | .error _ => s
      | .ok (s1, _) => s1.writePieces n w fuel (a + k) (bs.drop k)

/-- A write of a run of bytes, or the SCRATCH fault. -/
def State.writeRun (s : State) (n a : Nat) (bs : List Byte) (w : WriteBy) : Except Nat State :=
  let nd := s.needle n
  match nd.run with
  | none => .ok s
  | some r =>
    let chunks := nd.scratchChunks ((List.range (bs.length / 65536 + 2)).map (fun i =>
      (Nat.min (a + 65536 * i) (a + bs.length - 1), (0 : Byte))))
    match s.claimScratch r.st.ctx r.st.id (if bs.isEmpty then [] else chunks) with
    | .error k => .error k
    | .ok s1 => .ok (s1.writePieces n w (bs.length + 1) a bs)

end Sys2Proof.Machine
end

