-- ==== Sys2Proof/Machine/Matrix.lean ====
section
/-! DEFINITION. The matrix engine (chapter 07): loading slabs, multiplying, hold streams and their promotion, clearing, moving and saving
tiles. -/

namespace Sys2Proof.Machine

-- ---------------------------------------------------------------- operands through the Shears (R161 to R163)

/-- R163: the SCW conditions of a load path of WLOAD and MMUL over `klen` elements from `koff`. -/
def loadPathOk (c : Scw) (klen koff : Nat) : Bool :=
  c.valid klen && c.dst != 0 &&
  ((c.dstScale = 0) == (c.dst = 1 || c.dst = 2)) &&
  (!(c.srcScale = 1 && c.dstScale = 1) || c.srcB16 = c.dstB16) &&
  koff % 16 = 0 && (match c.srcBlock with | some b => koff % b = 0 | none => true) &&
  (match c.dstBlock with | some b => koff % b = 0 | none => true)

/-- The block size of the descriptor's one scale plane, where the operation reads it (R163). -/
def Scw.planeBlock (c : Sys2Proof.Scw) : Option Nat :=
  if c.srcScale = 1 then c.srcBlock else if c.dstScale = 1 then c.dstBlock else none

/-- The element and scale ranges of rows `rs` of an operand, `cnt` elements from `k0`, for reading. -/
def Operand.readRanges (o : Operand) (rs : List Nat) (k0 cnt : Nat) : List (Nat × Nat) :=
  let w := ((Fmt.ofCode o.scw.src).getD .fp32).width
  (rs.map (fun r =>
    [(o.elemAddr r k0 w, bytesFor cnt w),
     (match Scw.planeBlock o.scw with
      | some b => (o.scaleAddr r k0 b, (cnt + b - 1) / b)
      | none => (0, 0))])).flatten

/-- An operand's row after its conversion: codes of the engine format, the scale codes in force (empty where there is no plane) and the
flags. -/
structure EngineRow where
  codes : List Nat
  scales : List Nat
  flags : ShFlags
  deriving DecidableEq, Repr

/-- R102, R163: converts one row that was read: `eb` its element bytes, `sb` its plane bytes. -/
def Operand.convert (o : Operand) (row k0 cnt : Nat) (eb sb : List Byte) : EngineRow :=
  let f := (Fmt.ofCode o.scw.src).getD .fp32
  let sc := sb.map BitVec.toNat
  let out := o.scw.convertRow o.draw (row * o.rowElems + k0) (f.unpack eb cnt) sc sc
  { codes := out.codes, scales := if o.scw.dstScale = 1 then sc else out.scales, flags := out.flags }

/-- Pairs up the outputs of reads: element bytes and plane bytes of each row. -/
def rowBytes : List (Nat × ReadOut) → List (List Byte × List Byte)
  | e :: p :: t => (e.2.bytes, p.2.bytes) :: rowBytes t
  | _ => []

/-- Reads and converts rows of an operand whose SCW is valid: the state after the reads, and the rows where the data may be used. A fault
ends the stitch. -/
def State.loadOperand (s : State) (n : Nat) (q : Queued) (o : Operand) (rs : List Nat) (k0 cnt : Nat) :
    State × Option (List EngineRow) :=
  let nd := s.needle n
  match nd.run with
  | none => (s, none)
  | some r =>
    let ranges := o.readRanges rs k0 cnt
    match rangesFault nd (ranges.map (fun p => (p.1, p.2, Need.read))) with
    | some k => (s.faultAt n k q.pc, none)
    | none =>
      let os := s.readRanges nd r s.freeCtr ranges
      let s1 := s.afterReads n os 0
      if (joinReads os).usable then
        let rows := (List.zip rs (rowBytes os)).map (fun p => o.convert p.1 k0 cnt p.2.1 p.2.2)
        (s1.joinShFlags n (rows.foldl (fun a x => a ||| x.flags) 0), some rows)
      else (s1, none)

-- ---------------------------------------------------------------- WLOAD (R164)

/-- What WLOAD does when it runs. -/
def wloadAct (s : State) (n : Nat) (q : Queued) : State :=
  let o := Operand.ofBytes q.desc
  let func := q.f.func.toNat
  let klen := 16 * (bits func 1 4 + 1)
  let nlen := bits func 5 7 + 1
  let koff := q.x2.toNat
  if !loadPathOk o.scw klen koff then s.faultAt n fkScw q.pc
  else if (if o.scw.dst = 9 || o.scw.dst = 10 then 256 else 128) < klen then s.faultAt n fkIllegal q.pc
  else
    match s.loadOperand n q o (List.range nlen) koff klen with
    | (s1, none) => s1
    | (s1, some rows) =>
      let block := match o.scw.dstBlock with | some b => b | none => 0
      let slab : Slab := { fmt := o.scw.dst, klen := klen, nlen := nlen, block := block, rows := rows.map EngineRow.codes,
                           scales := rows.map EngineRow.scales }
      let nd := s1.needle n
      s1.setNeedle n (if bit func 0 then { nd with w1 := some slab } else { nd with w0 := some slab })

-- ---------------------------------------------------------------- MMUL (R165 to R169)

/-- A piece of an MMUL's K range that lies in one chunk: its first K position in the instruction, its first position in the chunk, its length,
whether it closes the chunk, and the chunk's index. -/
structure Piece where
  start : Nat
  pos : Nat
  len : Nat
  closes : Bool
  chunk : Nat
  deriving DecidableEq, Repr

/-- R167, R168: cuts `klen` positions at chunk boundaries, the first piece beginning at `pos` of a chunk. A range that ends inside a chunk
closes it when `closeLast`. -/
def cutPieces (lc : Nat) (closeLast : Bool) : Nat → Nat → Nat → Nat → Nat → List Piece
  | 0, _, _, _, _ => []
  | fuel + 1, start, left, pos, chunk =>
    if left = 0 then []
    else
      let len := Nat.min left (lc - pos)
      let full := pos + len = lc
      { start := start, pos := pos, len := len, closes := full || (closeLast && len = left), chunk := chunk } ::
        cutPieces lc closeLast fuel (start + len) (left - len) 0 (chunk + 1)

/-- The format codes' formats. -/
def fmtOf (c : Nat) : Fmt := (Fmt.ofCode c).getD .fp32

/-- One operand of a product along K: element values and, per element, the scale code; none without a plane. -/
structure KLine where
  vals : List FVal
  scale : Nat → Option Nat

/-- A row of codes with its scales as a K line. -/
def kLine (fmt block : Nat) (codes scales : List Nat) : KLine :=
  { vals := codes.map ((fmtOf fmt).read), scale := fun k => if block = 0 then none else some (scales.getD (k / block) 127) }

/-- A tile row being worked on, cell by cell: the cells, the images each emitted since the last record, and the splits. -/
structure RowWork where
  cells : List Cell
  images : List (List ChunkImage)
  splits : Nat
  deriving DecidableEq, Repr

/-- What an MMUL works with: the pair exponent, the length of a block pair, the operand's rows and the slab's columns. -/
structure MulIn where
  is16 : Bool
  L : Int
  bp : Nat
  xs : List KLine
  cols : List KLine

/-- One step of every cell of a row against its column. The second component says that a scale was NaN. -/
def stepRow (f : Cell → KLine → CellStep) (cols : List KLine) (w : RowWork) : RowWork × Bool :=
  let steps := List.zipWith f w.cells cols
  ({ cells := steps.map CellStep.cell, images := List.zipWith (fun a p => a ++ p.images) w.images steps,
     splits := w.splits + (steps.map CellStep.splits).foldl (· + ·) 0 }, steps.any CellStep.fillNan)

/-- R113 rule 1, R120: every cell of the rows takes one NaN image for the chunk. -/
def fillRow (w : RowWork) : RowWork :=
  { w with
    images := List.zipWith (fun (c : Cell) (l : List ChunkImage) => if c.nanDone then l else l ++ [ChunkImage.nanScale]) w.cells w.images
    cells := w.cells.map (fun c => { c with nan := true, nanDone := true }) }

/-- One step of every row against its operand line; a NaN scale met in it gives every row its NaN images. -/
def stepRows (f : KLine → Cell → KLine → CellStep) (m : MulIn) (rows : List RowWork) : List RowWork :=
  let out := List.zipWith (fun x w => stepRow (f x) m.cols w) m.xs rows
  if out.any Prod.snd then out.map (fun o => fillRow o.1) else out.map Prod.fst

/-- R113, R118: sixteen K positions of a chunk, from position `k` of the instruction and `pos` of the chunk, on all rows, over which every scale
is constant: begun block pairs that they do not continue are taken, then they join a block pair, which is taken where it ends. The pairs
of a chunk are those of its `bp` positions, cut where a scale changes: they depend on the data alone and not on how instructions divide K. -/
def mulSixteen (m : MulIn) (k pos : Nat) (rows : List RowWork) : List RowWork :=
  let ks := (List.range 16).map (fun d => k + d)
  let inside := pos % m.bp != 0
  let r1 := stepRows (fun x c col => if c.continues inside (x.scale k) (col.scale k) then CellStep.same c else c.finishPair m.L) m rows
  let r2 := stepRows (fun x c col => CellStep.same (c.extend m.L (x.scale k) (col.scale k)
    (ks.map (fun k => (x.vals.getD k (.fin false 0 0), col.vals.getD k (.fin false 0 0)))))) m r1
  if (pos + 16) % m.bp = 0 then stepRows (fun _ c _ => c.finishPair m.L) m r2 else r2

/-- R117: one K position of 16-bit formats on all rows. -/
def macRows (m : MulIn) (k : Nat) (rows : List RowWork) : List RowWork :=
  stepRows (fun x c col => CellStep.same (c.mac16 (x.vals.getD k (.fin false 0 0)) (col.vals.getD k (.fin false 0 0)))) m rows

/-- One piece of a chunk on all rows, in ascending K (R118). -/
def mulPiece (m : MulIn) (p : Piece) (rows : List RowWork) : List RowWork :=
  if m.is16 then (List.range p.len).foldl (fun rows i => macRows m (p.start + i) rows) rows
  else (List.range (p.len / 16)).foldl (fun rows i => mulSixteen m (p.start + 16 * i) (p.pos + 16 * i) rows) rows

/-- R114, R120: the end of a chunk on all rows: a begun pair is taken, and every cell closes. -/
def closeRows (m : MulIn) (rows : List RowWork) : List RowWork :=
  (stepRows (fun _ c _ => c.finishPair m.L) m rows).map (fun w =>
    let done := List.zipWith Cell.closeChunk w.cells w.images
    { w with cells := done.map Prod.fst, images := done.map Prod.snd })

/-- R169: the end of an MMUL that leaves its chunk open. -/
def leaveRows (hold : Bool) (m : MulIn) (rows : List RowWork) : List RowWork :=
  stepRows (fun _ c _ => if c.settles hold m.L then c.finishPair m.L else CellStep.same c) m rows

/-- The largest number of images a cell of the rows has: the record's waves (R120). -/
def wavesOf (images : List (List (List ChunkImage))) : Nat :=
  (images.map (fun r => (r.map List.length).foldl Nat.max 0)).foldl Nat.max 0

/-- R120: the images of rows in stream order: wave by wave, each in row-major order, empty ones where a cell has fewer; with their row and column
in the record. -/
def waveOrder (images : List (List (List ChunkImage))) : List ((Nat × Nat) × ChunkImage) :=
  ((List.range (wavesOf images)).map (fun v => (images.zipIdx.map (fun r =>
    r.1.zipIdx.map (fun c => ((r.2, c.2), c.1.getD v ChunkImage.empty)))).flatten)).flatten

/-- R121: applies one image to a cell of a tile; a NaN image with NAN set fills the whole tile. -/
def Tile.applyImage (t : Tile) (r c : Nat) (i : ChunkImage) : Tile :=
  if i = ChunkImage.empty then t
  else
    let t1 := t.setCell r c ((t.cell r c).applyImage i)
    if i.kind = 3 && i.nan && i.cexp != -512 then t1.mapCells Cell.fillNan else t1

/-- R121: applies images in stream order from row `row0`. -/
def Tile.applyImages (t : Tile) (row0 : Nat) (l : List ((Nat × Nat) × ChunkImage)) : Tile :=
  l.foldl (fun t p => t.applyImage (row0 + p.1.1) p.1.2 p.2) t

/-- R169: the bytes of a hold-stream record: header, then its images in stream order. -/
def holdRecord (chunk row0 : Nat) (cont : Bool) (images : List (List (List ChunkImage))) : List Byte :=
  wordsLE [chunk % 2 ^ 32, wavesOf images % 256 + row0 * 2 ^ 8 + images.length * 2 ^ 15 + (if cont then 2 ^ 23 else 0), 0, 0] ++
    ((waveOrder images).map (fun p => natLE 8 p.2.toNat)).flatten

/-- The state of an MMUL over its pieces: the tile, the hold stream's bytes, the splits and whether a total took an addition. -/
structure MulRun where
  tile : Tile
  stream : List Byte
  splits : Nat
  promoted : Bool
  deriving DecidableEq, Repr

/-- The rows `row0` to `row0 + rows − 1` of a tile, to be worked on. -/
def Tile.workRows (t : Tile) (row0 rows : Nat) : List RowWork :=
  (List.range rows).map (fun r =>
    { cells := (List.range 128).map (fun c => t.cell (row0 + r) c), images := (List.range 128).map (fun _ => []), splits := 0 })

/-- Puts worked rows back into the tile. -/
def Tile.putRows (t : Tile) (row0 : Nat) (rows : List RowWork) : Tile :=
  rows.zipIdx.foldl (fun (t : Tile) (p : RowWork × Nat) =>
    p.1.cells.zipIdx.foldl (fun (t : Tile) (c : Cell × Nat) => t.setCell (row0 + p.2) c.2 c.1) t) t

/-- One piece with its end: its images leave as a record (R169), or are applied to the tile in the order in which PROMOTE would apply that
record (R121, R122; assumption 77). -/
def mulStep (hold : Bool) (row0 rows : Nat) (m : MulIn) (r : MulRun) (p : Piece) : MulRun :=
  let w1 := mulPiece m p (r.tile.workRows row0 rows)
  let w2 := if p.closes then closeRows m w1 else leaveRows hold m w1
  let images := w2.map RowWork.images
  let t1 := r.tile.putRows row0 w2
  let splits := r.splits + (w2.map RowWork.splits).foldl (· + ·) 0
  if hold then { tile := t1, stream := r.stream ++ holdRecord p.chunk row0 (!p.closes) images, splits := splits, promoted := r.promoted }
  else { tile := t1.applyImages row0 (waveOrder images), stream := r.stream, splits := splits,
         promoted := r.promoted || images.any (fun w => w.any (fun l => l.any (fun i => i.cexp != -512))) }

/-- R165: the largest slab K of a pair's rate class. -/
def classLimit (a b : Nat) : Nat := if (a = 9 || a = 10) && (b = 9 || b = 10) then 256 else 128

/-- The fault of an MMUL before any operand is read (R111, R112, R159, R165, R167, R169), in this order (assumption 11). -/
def mmulFault (t : Tile) (slab : Option Slab) (o : Operand) (q : Queued) : Option Nat :=
  let func := q.f.func.toNat
  match slab with
  | none => some fkIllegal
  | some w =>
    let rd := q.f.rd.toNat
    if (t.hold && rd = 0) || (!t.hold && rd != 0) then some fkIllegal
    else if !loadPathOk o.scw w.klen q.x3.toNat then some fkScw
    else if !pairSupported (fmtOf w.fmt) (fmtOf o.scw.dst) then some fkPair
    else if classLimit w.fmt o.scw.dst < w.klen then some fkIllegal
    else
      let lc := chunkLen (fmtOf w.fmt)
      let rows := bits func 5 7 + 1
      let row0 := bits func 12 7
      let kbase := q.x2.toNat
      if t.canon && (kbase % 16 != 0 || kbase != t.cursor * lc + t.pos * 16) then some fkCursor
      else if t.canon && t.pos != 0 && (t.fmtA != w.fmt || t.fmtB != o.scw.dst) then some fkTack
      else if t.canon && t.pos != 0 && (t.row0 != row0 || t.rows != rows) then some fkCursor
      -- R127: a restored pending value of the other kind, in a tile of either mode
      else if t.cells.any (fun p => decide (row0 ≤ p.1 / 128) && decide (p.1 / 128 < row0 + rows) && p.2.pend &&
          p.2.fp != (fmtOf w.fmt).is16) then some fkTack
      else none

/-- R111: the pair exponent of two format codes; 0 for 16-bit formats. -/
def pairExp (a b : Nat) : Int :=
  match (fmtOf a).shortParams, (fmtOf b).shortParams with
  | some x, some y => x.1 + y.1
  | _, _ => 0

/-- R173, R167: the tile's control state after an MMUL over `pieces`. R173 gives FMT_A and FMT_B for the open chunk only: with no chunk open
both are 0 (DESIGN CHOICE, assumption 76). -/
def afterMul (t : Tile) (pieces : List Piece) (fa fb lc row0 rows : Nat) : Tile :=
  if !t.canon then { t with live := true }
  else match pieces.getLast? with
    | none => { t with live := true }
    | some p =>
      if p.closes then
        { t with live := true, isOpen := false, pos := 0, cursor := (p.chunk + 1) % 2 ^ 32, fmtA := 0, fmtB := 0, row0 := 0, rows := 0 }
      else
        let p0 := if pieces.length = 1 then t.pos * 16 else 0
        { t with live := true, isOpen := true, pos := (p0 + p.len) / 16 % (lc / 16 + 1), cursor := p.chunk % 2 ^ 32, fmtA := fa,
                 fmtB := fb, row0 := row0, rows := rows }

/-- What MMUL does when it runs (R166 to R169). -/
def mmulAct (s : State) (n : Nat) (q : Queued) : State :=
  let nd := s.needle n
  let o := Operand.ofBytes q.desc
  let func := q.f.func.toNat
  let ti := bits func 0 3
  let t := nd.tile ti
  let slab := if bit func 3 then nd.w1 else nd.w0
  match mmulFault t slab o q with
  | some k => s.faultAt n k q.pc
  | none =>
    match slab with
    | none => s
    | some w =>
      let rows := bits func 5 7 + 1
      let row0 := bits func 12 7
      match s.loadOperand n q o (List.range rows) q.x3.toNat w.klen with
      | (s1, none) => s1
      | (s1, some ers) =>
        let fb := o.scw.dst
        let is16 := (fmtOf w.fmt).is16
        let lc := chunkLen (fmtOf w.fmt)
        let oblk := match o.scw.dstBlock with | some b => b | none => 0
        let bp := if w.block = 16 || oblk = 16 then 16 else 32
        let pieces := cutPieces lc (!t.canon || bit func 4) (w.klen + 1) 0 w.klen (if t.canon then t.pos * 16 else 0) t.cursor
        let m : MulIn :=
          { is16 := is16, L := pairExp w.fmt fb, bp := bp, xs := ers.map (fun e => kLine fb oblk e.codes e.scales),
            cols := (List.range 128).map (fun c =>
              kLine w.fmt w.block (w.rows.getD c (List.replicate w.klen 0)) (w.scales.getD c [])) }
        let r := pieces.foldl (mulStep t.hold row0 rows m) { tile := t, stream := [], splits := 0, promoted := false }
        let t2 := afterMul r.tile pieces w.fmt fb lc row0 rows
        let finish (s : State) : State :=
          (s.setNeedle n ((s.needle n).setTile ti t2)).modRun n (fun x => { x with
            accFlags := x.accFlags ||| t2.flags
            splits := satAdd 65535 x.splits r.splits
            noncanon := x.noncanon || (!t.canon && r.promoted) })
        if t.hold then
          match rangesFault nd [(q.xd.toNat, r.stream.length, .write)] with
          | some k => s1.faultAt n k q.pc
          | none =>
            match s1.writeRun n q.xd.toNat r.stream (q.writes 0) with
            | .error k => s1.faultAt n k q.pc
            | .ok s2 =>
              let s3 := finish s2
              s3.setNeedle n ((s3.needle n).finishX q.f.rd.toNat (q.xd + BitVec.ofNat 64 r.stream.length))
        else finish s1

-- ---------------------------------------------------------------- PROMOTE (R121, R171)

/-- The header of a hold-stream record (R169). -/
structure RecordHead where
  chunk : Nat
  waves : Nat
  row0 : Nat
  rows : Nat
  cont : Bool
  reserved : Nat
  deriving DecidableEq, Repr

/-- R169: the fields of 16 bytes. -/
def RecordHead.ofBytes (b : List Byte) : RecordHead :=
  { chunk := wordAt b 0, waves := bits (wordAt b 1) 0 8, row0 := bits (wordAt b 1) 8 7, rows := bits (wordAt b 1) 15 8,
    cont := bit (wordAt b 1) 23, reserved := wordAt b 1 / 2 ^ 24 + wordAt b 2 + wordAt b 3 }

/-- R121, R171: applies a record's images in stream order. -/
def Tile.applyRecord (t : Tile) (h : RecordHead) (body : List Byte) : Tile :=
  let t1 := t.applyImages h.row0 ((List.range (h.waves * h.rows * 128)).map (fun i =>
    ((i / 128 % h.rows, i % 128), ChunkImage.ofNat (leNat (slice body (8 * i) 8)))))
  { t1 with live := true, cursor := if h.cont then t1.cursor else (t1.cursor + 1) % 2 ^ 32 }

/-- Reads a range for a needle, or the fault it meets; the data where it may be used. -/
def State.readRange (s : State) (n a len : Nat) : State × Except Nat (Option (List Byte)) :=
  let nd := s.needle n
  match nd.run with
  | none => (s, .ok none)
  | some r =>
    match rangesFault nd [(a, len, .read)] with
    | some k => (s, .error k)
    | none =>
      let os := s.readRanges nd r s.freeCtr [(a, len)]
      let s1 := s.afterReads n os 0
      (s1, .ok (if (joinReads os).usable then some (joinReads os).bytes else none))

/-- R171: the records of a PROMOTE in order; the records applied before a fault stay applied. -/
def State.promoteRecords (s : State) (n ti : Nat) (q : Queued) : Nat → Nat → State
  | 0, _ => s
  | fuel + 1, a =>
    match s.readRange n (a % 2 ^ 64) 16 with
    | (s1, .error k) => s1.faultAt n k q.pc
    | (s1, .ok none) => s1
    | (s1, .ok (some hb)) =>
      let h := RecordHead.ofBytes hb
      let t := (s1.needle n).tile ti
      if h.reserved != 0 || h.rows = 0 || 128 < h.row0 + h.rows then s1.faultAt n fkIllegal q.pc
      else if h.chunk != t.cursor then s1.faultAt n fkCursor q.pc
      else
        let len := h.waves * h.rows * 1024
        match s1.readRange n ((a + 16) % 2 ^ 64) len with
        | (s2, .error k) => s2.faultAt n k q.pc
        | (s2, .ok none) => s2
        | (s2, .ok (some body)) =>
          let t2 := t.applyRecord h body
          let s3 := (s2.setNeedle n ((s2.needle n).setTile ti t2)).modRun n (fun x => { x with accFlags := x.accFlags ||| t2.flags })
          s3.promoteRecords n ti q fuel (a + 16 + len)

/-- What PROMOTE does when it runs. -/
def promoteAct (s : State) (n : Nat) (q : Queued) : State :=
  let ti := bits q.f.func.toNat 0 3
  let t := (s.needle n).tile ti
  let cnt := q.x2.toNat
  if cnt = 0 || 65535 < cnt then s.faultAt n fkIllegal q.pc
  else if !t.canon || t.hold || t.isOpen || !(t.live || t.cells.isEmpty) then s.faultAt n fkCursor q.pc
  else s.promoteRecords n ti q cnt q.x1.toNat

-- ---------------------------------------------------------------- clearing and flags (R172 to R174)

/-- What ACLR does when it runs (R172). -/
def aclrAct (s : State) (n : Nat) (q : Queued) : State :=
  let func := q.f.func.toNat
  let canon := bit func 3
  let nd := s.needle n
  s.setNeedle n (nd.setTile (bits func 0 3)
    { Tile.cleared with live := true, canon := canon, hold := bit func 4, cursor := if canon then q.x1.toNat % 2 ^ 32 else 0 })

/-- What AREL does when it runs (R172). -/
def arelAct (s : State) (n : Nat) (q : Queued) : State :=
  let nd := s.needle n
  s.setNeedle n (nd.setTile (bits q.f.func.toNat 0 3) Tile.cleared)

/-- R173: the tile control word. -/
def Tile.word (t : Tile) : Nat :=
  (if t.live then 1 else 0) + (if t.canon then 2 else 0) + (if t.hold then 4 else 0) + (if t.isOpen then 8 else 0) +
  t.flags.toNat * 2 ^ 4 + t.fmtA * 2 ^ 8 + t.fmtB * 2 ^ 12 + t.pos * 2 ^ 16 + t.cursor * 2 ^ 24

/-- R116: the flags of a tile the stitch uses join its ACC_FLAGS. -/
def State.useTile (s : State) (n ti : Nat) : State :=
  s.modRun n (fun r => { r with accFlags := r.accFlags ||| ((s.needle n).tile ti).flags })

/-- What AFLAGS does when it runs (R174). -/
def aflagsAct (s : State) (n : Nat) (q : Queued) : State :=
  let nd := s.needle n
  (s.setNeedle n (nd.finishX q.f.rd.toNat (BitVec.ofNat 64 (nd.tile (bits q.f.func.toNat 0 3)).word))).useTile n (bits q.f.func.toNat 0 3)

-- ---------------------------------------------------------------- moving totals (R175)

/-- What ALOAD does when it runs. -/
def aloadAct (s : State) (n : Nat) (q : Queued) : State :=
  let o := Operand.ofBytes q.desc
  let func := q.f.func.toNat
  let ti := bits func 0 3
  let rows := bits func 4 7 + 1
  let row0 := bits func 11 7
  let bcast := bit func 3
  if !(o.scw.valid 128 && o.scw.dst = 0 && o.scw.dstScale = 0) then s.faultAt n fkScw q.pc
  else if ((s.needle n).tile ti).isOpen then s.faultAt n fkCursor q.pc
  else
    match s.loadOperand n q o (if bcast then [0] else List.range rows) 0 128 with
    | (s1, none) => s1
    | (s1, some ers) =>
      let t := (s1.needle n).tile ti
      let t1 := (List.range rows).foldl (fun (t : Tile) r =>
        ((ers.getD (if bcast then 0 else r) { codes := [], scales := [], flags := 0 }).codes).zipIdx.foldl
          (fun (t : Tile) (p : Nat × Nat) => t.setCell (row0 + r) p.2 { (t.cell (row0 + r) p.2) with total := BitVec.ofNat 32 p.1 }) t) t
      (s1.setNeedle n ((s1.needle n).setTile ti { t1 with live := true })).useTile n ti

/-- The write ranges of rows of an operand, 128 elements each, and the plane bytes a FRESH destination writes or a PLANE one reads. -/
def Operand.storeRanges (o : Operand) (rows : Nat) : List (Nat × Nat × Need) :=
  let w := (fmtOf o.scw.dst).width
  ((List.range rows).map (fun r =>
    [(o.elemAddr r 0 w, bytesFor 128 w, Need.write),
     (match o.scw.dstBlock with
      | some b => (o.scaleAddr r 0 b, 128 / b, if o.scw.dstScale = 2 then Need.write else Need.read)
      | none => (0, 0, Need.read))])).flatten

/-- ASTORE's rows one by one: convert and write. -/
def State.storeRows (s : State) (n : Nat) (q : Queued) (o : Operand) (t : Tile) (row0 : Nat) : List Nat → State
  | [] => s
  | r :: rest =>
    let f := fmtOf o.scw.dst
    let b := o.scw.dstBlock.getD 1
    let pl := if o.scw.dstScale = 1 then 128 / b else 0
    match s.readRange n (o.scaleAddr r 0 b) pl with
    | (s1, .error k) => s1.faultAt n k q.pc
    | (s1, .ok none) => s1
    | (s1, .ok (some plane)) =>
      let codes := (List.range 128).map (fun c => (t.cell (row0 + r) c).total.toNat)
      let out := o.scw.convertRow o.draw (r * o.rowElems) codes [] (plane.map BitVec.toNat)
      let ws := bytesAt (o.elemAddr r 0 f.width) (f.pack out.codes) ++
        (if o.scw.dstScale = 2 then bytesAt (o.scaleAddr r 0 b) (out.scales.map (BitVec.ofNat 8)) else [])
      match s1.writeAddrs n ws (q.writes 0) with
      | .error k => s1.faultAt n k q.pc
      | .ok (s2, _) => (s2.joinShFlags n out.flags).storeRows n q o t row0 rest

/-- What ASTORE does when it runs. -/
def astoreAct (s : State) (n : Nat) (q : Queued) : State :=
  let o := Operand.ofBytes q.desc
  let func := q.f.func.toNat
  let nd := s.needle n
  let t := nd.tile (bits func 0 3)
  let rows := bits func 4 7 + 1
  if !(o.scw.valid 128 && o.scw.src = 0 && o.scw.srcScale = 0) then s.faultAt n fkScw q.pc
  else if t.isOpen then s.faultAt n fkCursor q.pc
  else match rangesFault nd (o.storeRanges rows) with
    | some k => s.faultAt n k q.pc
    | none => (s.useTile n (bits func 0 3)).storeRows n q o t (bits func 11 7) (List.range rows)

-- ---------------------------------------------------------------- saving tiles (R176)

/-- Bytes of a tile's save image. -/
def saveImageBytes : Nat := 196672

/-- R126, R176: a tile's save image: the tack, each begun block pair taken (assumption 78), then the control record. -/
def Tile.saveImage (t : Tile) : List Byte :=
  ((List.range 16384).map (fun i => natLE 12 (((FMap.getD t.cells i Cell.cleared).settled (pairExp t.fmtA t.fmtB)).toTack))).flatten ++
  natLE 8 t.word ++ natLE 1 (if t.isOpen then t.row0 else 0) ++ natLE 1 (if t.isOpen then t.rows - 1 else 0) ++
  List.replicate 54 0

/-- R176: the tile a save image spells, none where TRESTORE faults with TACK. -/
def Tile.ofImage (b : List Byte) : Option Tile :=
  let w := leNat (slice b 196608 8)
  let b8 := leNat (slice b 196616 1)
  let b9 := leNat (slice b 196617 1)
  let op := bit w 3
  if bits w 56 8 != 0 || 128 ≤ b8 || 128 ≤ b9 || (!op && (b8 != 0 || b9 != 0)) || (op && 128 < b8 + b9 + 1) ||
      (slice b 196618 54).any (fun x => x != 0) then none
  else
    let cells := ((List.range 16384).map (fun i =>
      let c := Cell.ofTack (leNat (slice b (12 * i) 12))
      (i, if op then c.reopened else c))).filter (fun p => p.2 != Cell.cleared)
    some { cells := cells, live := bit w 0, canon := bit w 1, hold := bit w 2, isOpen := op, fmtA := bits w 8 4, fmtB := bits w 12 4,
           pos := bits w 16 8, cursor := bits w 24 32, row0 := b8, rows := if op then b9 + 1 else 0 }

/-- What TSAVE does when it runs. -/
def tsaveAct (s : State) (n : Nat) (q : Queued) : State :=
  let nd := s.needle n
  let a := q.x1.toNat
  if a % 64 != 0 then s.faultAt n fkAlign q.pc
  else match rangesFault nd [(a, saveImageBytes, .write)] with
    | some k => s.faultAt n k q.pc
    | none =>
      match s.writeRun n a (nd.tile (bits q.f.func.toNat 0 3)).saveImage (q.writes 0) with
      | .error k => s.faultAt n k q.pc
      | .ok s1 => s1.useTile n (bits q.f.func.toNat 0 3)

/-- What TRESTORE does when it runs. -/
def trestoreAct (s : State) (n : Nat) (q : Queued) : State :=
  let a := q.x1.toNat
  if a % 64 != 0 then s.faultAt n fkAlign q.pc
  else match s.readRange n a saveImageBytes with
    | (s1, .error k) => s1.faultAt n k q.pc
    | (s1, .ok none) => s1
    | (s1, .ok (some b)) =>
      match Tile.ofImage b with
      | none => s1.faultAt n fkTack q.pc
      | some t =>
        let ti := bits q.f.func.toNat 0 3
        (s1.setNeedle n ((s1.needle n).setTile ti t)).useTile n ti

-- ---------------------------------------------------------------- the rows (R160)

/-- WLOAD, R164. -/
def rowWload : MatRow :=
  { matRow 0xC 0x00 (fun f => [f.rs1.toNat, f.rs2.toNat]) (fun f => noMask f && fz f.rd && fz f.rs3 && funcIn f 0xFFF) wloadAct with
    desc := fun nd f => readOperand nd (nd.getX f.rs1.toNat).toNat }
/-- MMUL, R166. -/
def rowMmul : MatRow :=
  { matRow 0xC 0x01 (fun f => [f.rd.toNat, f.rs1.toNat, f.rs2.toNat, f.rs3.toNat])
      (fun f => noMask f && funcIn f 0x7FFFF && decide (bits f.func.toNat 12 7 + (bits f.func.toNat 5 7 + 1) ≤ 128)) mmulAct with
    desc := fun nd f => readOperand nd (nd.getX f.rs1.toNat).toNat, xdst := fun f => some f.rd.toNat }
/-- PROMOTE, R171. -/
def rowPromote : MatRow :=
  matRow 0xC 0x02 (fun f => [f.rs1.toNat, f.rs2.toNat]) (fun f => noMask f && fz f.rd && fz f.rs3 && funcIn f 7) promoteAct
/-- ACLR, R172. -/
def rowAclr : MatRow :=
  matRow 0xC 0x03 (fun f => [f.rs1.toNat])
    (fun f => noMask f && onlyRs1 f && funcIn f 0x1F && (!bit f.func.toNat 4 || bit f.func.toNat 3)) aclrAct
/-- AREL, R172. -/
def rowArel : MatRow := matRow 0xC 0x04 (fun _ => []) (fun f => noMask f && onlyRs1 f && fz f.rs1 && funcIn f 7) arelAct
/-- AFLAGS, R174. -/
def rowAflags : MatRow :=
  { matRow 0xC 0x05 (fun f => [f.rd.toNat]) (fun f => noMask f && fz f.rs1 && fz f.rs2 && fz f.rs3 && funcIn f 7) aflagsAct with
    xdst := fun f => some f.rd.toNat }
/-- ALOAD, R175. -/
def rowAload : MatRow :=
  { matRow 0xD 0x00 (fun f => [f.rs1.toNat])
      (fun f => noMask f && onlyRs1 f && funcIn f 0x3FFFF && decide (bits f.func.toNat 11 7 + (bits f.func.toNat 4 7 + 1) ≤ 128)) aloadAct with
    desc := fun nd f => readOperand nd (nd.getX f.rs1.toNat).toNat }
/-- ASTORE, R175. -/
def rowAstore : MatRow :=
  { matRow 0xD 0x01 (fun f => [f.rs1.toNat])
      (fun f => noMask f && onlyRs1 f && funcIn f 0x3FFF7 && decide (bits f.func.toNat 11 7 + (bits f.func.toNat 4 7 + 1) ≤ 128)) astoreAct with
    desc := fun nd f => readOperand nd (nd.getX f.rs1.toNat).toNat }
/-- TSAVE, R176. -/
def rowTsave : MatRow := matRow 0xD 0x02 (fun f => [f.rs1.toNat]) (fun f => noMask f && onlyRs1 f && funcIn f 7) tsaveAct
/-- TRESTORE, R176. -/
def rowTrestore : MatRow := matRow 0xD 0x03 (fun f => [f.rs1.toNat]) (fun f => noMask f && onlyRs1 f && funcIn f 7) trestoreAct

/-- WLOAD. -/
def execWload (n : Nat) (f : FmtR) (s : State) : Host.Outcome State Fault Refusal := s.pushM n f rowWload
/-- MMUL. -/
def execMmul (n : Nat) (f : FmtR) (s : State) : Host.Outcome State Fault Refusal := s.pushM n f rowMmul
/-- PROMOTE. -/
def execPromote (n : Nat) (f : FmtR) (s : State) : Host.Outcome State Fault Refusal := s.pushM n f rowPromote
/-- ACLR. -/
def execAclr (n : Nat) (f : FmtR) (s : State) : Host.Outcome State Fault Refusal := s.pushM n f rowAclr
/-- AREL. -/
def execArel (n : Nat) (f : FmtR) (s : State) : Host.Outcome State Fault Refusal := s.pushM n f rowArel
/-- AFLAGS. -/
def execAflags (n : Nat) (f : FmtR) (s : State) : Host.Outcome State Fault Refusal := s.pushM n f rowAflags
/-- ALOAD. -/
def execAload (n : Nat) (f : FmtR) (s : State) : Host.Outcome State Fault Refusal := s.pushM n f rowAload
/-- ASTORE. -/
def execAstore (n : Nat) (f : FmtR) (s : State) : Host.Outcome State Fault Refusal := s.pushM n f rowAstore
/-- TSAVE. -/
def execTsave (n : Nat) (f : FmtR) (s : State) : Host.Outcome State Fault Refusal := s.pushM n f rowTsave
/-- TRESTORE. -/
def execTrestore (n : Nat) (f : FmtR) (s : State) : Host.Outcome State Fault Refusal := s.pushM n f rowTrestore

end Sys2Proof.Machine
end

