-- ==== Sys2Proof/Machine/Dma.lean ====
section
/-! DEFINITION. The DMA engines (R220 to R227, R548): issue into a slot, the start of a descriptor with its checks and the movement of its
rows, the acknowledgement and the status word. -/

namespace Sys2Proof.Machine

/-- Bytes with a mark each: whether the byte is poisoned. -/
abbrev Marked := List (Byte × Bool)

/-- The slots of an engine: 0 D0, 1 D1. -/
def Needle.slots (nd : Needle) (eng : Nat) : FMap DmaSlot := if eng = 0 then nd.d0 else nd.d1

/-- Replaces the slots of an engine. -/
def Needle.setSlots (nd : Needle) (eng : Nat) (m : FMap DmaSlot) : Needle :=
  if eng = 0 then { nd with d0 := m } else { nd with d1 := m }

/-- R221: the lowest free slot of an engine. -/
def Needle.freeSlot (nd : Needle) (eng : Nat) : Option Nat :=
  (List.range 16).find? (fun i => match FMap.get? (nd.slots eng) i with | none => true | some d => d.done)

/-- R221: the slot handle. -/
def slotHandle (slot eng seq : Nat) : Nat := slot + eng * 2 ^ 4 + seq % 256 * 2 ^ 8

/-- R221: DMA takes a slot and writes its handle. -/
def dmaAct (s : State) (n : Nat) (q : Queued) : State :=
  let nd := s.needle n
  let eng := bits q.f.func.toNat 0 1
  match nd.run, nd.freeSlot eng with
  | some r, some i =>
    let seq := if eng = 0 then r.dmaSeq0 else r.dmaSeq1
    let slot : DmaSlot :=
      { desc := DmaDesc.ofBytes q.desc, seq := seq, stitch := r.st.id, started := false, done := false, status := stOk, shFlags := 0,
        bytes := 0, pc := q.pc, msgs := [], acked := 0, seen := 0, order := q.seq }
    let r1 := if eng = 0 then { r with dmaSeq0 := seq + 1 } else { r with dmaSeq1 := seq + 1 }
    let nd1 := (nd.setSlots eng (FMap.set (nd.slots eng) i slot)).finishX q.f.rd.toNat (BitVec.ofNat 64 (slotHandle i eng seq))
    s.setNeedle n { nd1 with run := some r1 }
  | _, _ => s

/-- R226: the status word. -/
def statusWord (done : Bool) (status : Nat) (fl : ShFlags) (bytes : Nat) : Nat :=
  (if done then 1 else 0) + status * 2 ^ 8 + fl.toNat * 2 ^ 16 + bytes % 2 ^ 40 * 2 ^ 24

/-- R226: DMASTAT. Until a DMA has completed with OK, the bytes acknowledged and the flags so far are free values: no less than an earlier
DMASTAT has shown, and no more than what the DMA does in all; what is shown of a completed one stays. -/
def dmastatAct (s : State) (n : Nat) (q : Queued) : State :=
  let nd := s.needle n
  let h := q.x1.toNat
  if h / 2 ^ 16 != 0 || bits h 5 3 != 0 then s.faultAt n fkIllegal q.pc
  else
    let stale := BitVec.ofNat 64 (statusWord true stStale 0 0)
    match FMap.get? (nd.slots (bits h 4 1)) (bits h 0 4) with
    | none => s.setNeedle n (nd.finishX q.f.rd.toNat stale)
    | some d =>
      if d.seq % 256 != bits h 8 8 then s.setNeedle n (nd.finishX q.f.rd.toNat stale)
      else if d.done && (d.status = stOk || d.acked = d.bytes) then
        s.setNeedle n (nd.finishX q.f.rd.toNat (BitVec.ofNat 64 (statusWord true d.status d.shFlags d.bytes)))
      else
        let (b, s1) := s.drawUpTo (d.bytes - d.acked)
        let (fl, s2) := s1.draw
        let shown := d.acked + b
        let flags := if d.done then d.shFlags else d.seen ||| (d.shFlags &&& BitVec.ofNat 5 fl)
        let d1 := { d with acked := shown, seen := flags, bytes := if d.done then shown else d.bytes }
        s2.setNeedle n ((nd.setSlots (bits h 4 1) (FMap.set (nd.slots (bits h 4 1)) (bits h 0 4) d1)).finishX q.f.rd.toNat
          (BitVec.ofNat 64 (statusWord d.done (if d.done then d.status else stOk) flags shown)))

/-- DMA, R220: it waits for a free slot of its engine (R221). -/
def rowDma : MatRow :=
  { group := 0x5, op := 0x00, mode := 0, named := fun f => [f.rd.toNat, f.rs1.toNat],
    ok := fun f => noMask f && fz f.rs2 && fz f.rs3 && funcIn f 1, xdst := fun f => some f.rd.toNat,
    desc := fun nd f => readDesc nd (nd.getX f.rs1.toNat).toNat 128,
    ready := fun nd q => (nd.freeSlot (bits q.f.func.toNat 0 1)).isSome, act := dmaAct }

/-- DMASTAT, R220. -/
def rowDmastat : MatRow :=
  { matRow 0x5 0x01 (fun f => [f.rd.toNat, f.rs1.toNat]) (fun f => noMask f && fz f.rs2 && fz f.rs3 && f.func = 0) dmastatAct with
    xdst := fun f => some f.rd.toNat }

/-- DMA, R221. -/
def execDma (n : Nat) (f : FmtR) (s : State) : Host.Outcome State Fault Refusal := s.pushM n f rowDma
/-- DMASTAT, R226. -/
def execDmastat (n : Nat) (f : FmtR) (s : State) : Host.Outcome State Fault Refusal := s.pushM n f rowDmastat

-- ---------------------------------------------------------------- converting a row (R223, R548)

/-- R223: one row converted: element bytes and destination scale bytes, each with its poison mark, and the flags. -/
structure DmaRow where
  elems : Marked
  scales : Marked
  flags : ShFlags
  deriving DecidableEq, Repr

/-- Whether any of the bytes that bits [lo, lo+len) fall in is marked. -/
def markedAt (m : List Bool) (lo len : Nat) : Bool := ((m.drop (lo / 8)).take ((lo + len - 1) / 8 - lo / 8 + 1)).any id

/-- R548: which destination elements of a row depend on a poisoned source byte. -/
def DmaDesc.elemMarks (d : DmaDesc) (src ss ds : List Bool) : List Bool :=
  let c := Scw.ofNat d.scw
  let ws := (fmtOf c.src).width
  let own := (List.range d.elems).map (fun k =>
    markedAt src (k * ws) ws ||
    (match c.srcBlock with | some b => ss.getD (k / b) false | none => false) ||
    (c.dstScale = 1 && !c.verbatim && (match c.dstBlock with | some b => ds.getD (k / b) false | none => false)))
  match c.dstBlock with
  | some b =>
    if c.dstScale = 2 then (List.range d.elems).map (fun k => ((own.drop (k / b * b)).take b).any id) else own
  | none => own

/-- R223: converts row `r` from its source bytes, its source scale bytes and the destination plane's bytes. -/
def DmaDesc.convert (d : DmaDesc) (r : Nat) (src ss ds : Marked) : DmaRow :=
  let c := Scw.ofNat d.scw
  let fd := fmtOf c.dst
  let wd := fd.width
  let out := c.convertRow (shDraw d.key d.ctr) (r * d.ctrPitch) ((fmtOf c.src).unpack (src.map Prod.fst) d.elems)
    (ss.map (fun b => b.1.toNat)) (ds.map (fun b => b.1.toNat))
  let em := d.elemMarks (src.map Prod.snd) (ss.map Prod.snd) (ds.map Prod.snd)
  let eb := fd.pack out.codes
  let ebm := (List.range eb.length).map (fun j => ((em.drop (8 * j / wd)).take ((8 * j + 7) / wd - 8 * j / wd + 1)).any id)
  let scm := (List.range out.scales.length).map (fun j =>
    if c.verbatim then (ss.map Prod.snd).getD j false
    else match c.dstBlock with | some b => ((em.drop (j * b)).take b).any id | none => false)
  { elems := List.zip eb ebm, scales := List.zip (out.scales.map (BitVec.ofNat 8)) scm, flags := out.flags }

/-- R224 step 1: whether the descriptor is one that moves nothing and completes with BAD_PARAM. -/
def DmaDesc.bad (d : DmaDesc) : Bool :=
  let c := Scw.ofNat d.scw
  d.elems = 0 || d.rows = 0 || d.reserved != 0 || d.dstHint = 3 || !c.valid d.elems ||
  (((fmtOf c.src).width = 4 || (fmtOf c.dst).width = 4) && d.elems % 2 != 0) ||
  (((fmtOf c.src).width = 6 || (fmtOf c.dst).width = 6) && d.elems % 4 != 0)

/-- Source bytes of a row. -/
def DmaDesc.srcBytes (d : DmaDesc) : Nat := bytesFor d.elems (fmtOf (Scw.ofNat d.scw).src).width
/-- Destination bytes of a row. -/
def DmaDesc.dstBytes (d : DmaDesc) : Nat := bytesFor d.elems (fmtOf (Scw.ofNat d.scw).dst).width
/-- Source scale bytes of a row. -/
def DmaDesc.ssBytes (d : DmaDesc) : Nat := match (Scw.ofNat d.scw).srcBlock with | some b => d.elems / b | none => 0
/-- Destination scale bytes of a row. -/
def DmaDesc.dsBytes (d : DmaDesc) : Nat := match (Scw.ofNat d.scw).dstBlock with | some b => d.elems / b | none => 0
/-- Whether the destination plane is written: FRESH, or a verbatim copy of the plane (R102). -/
def DmaDesc.writesPlane (d : DmaDesc) : Bool :=
  let c := Scw.ofNat d.scw
  c.dstScale = 2 || (c.dstScale = 1 && c.verbatim)
/-- Destination bytes of the whole descriptor, element and scale-plane bytes together (R226). -/
def DmaDesc.totalBytes (d : DmaDesc) : Nat := d.rows * (d.dstBytes + if d.writesPlane then d.dsBytes else 0)

/-- The address of a row of a range. -/
def rowAddr (base pitch r : Nat) : Nat := (base + r * pitch) % 2 ^ 64

/-- The bytes from the first of row 0 to the last of the last row. -/
def extent (rows pitch len : Nat) : Nat := if len = 0 then 0 else (rows - 1) * pitch + len

/-- R224 step 2: the ranges that the engine checks whole. -/
def DmaDesc.ranges (d : DmaDesc) : List (Nat × Nat × Need) :=
  [(d.src, extent d.rows d.srcPitch d.srcBytes, .read), (d.dst, extent d.rows d.dstPitch d.dstBytes, .write),
   (d.sscale, extent d.rows d.sscalePitch d.ssBytes, .read),
   (d.dscale, extent d.rows d.dscalePitch d.dsBytes, if d.writesPlane then .write else .read)]

-- ---------------------------------------------------------------- moving the rows

/-- One byte at a 64-bit address with its mark. -/
def State.readMarked1 (s : State) (nd : Needle) (r : RunStitch) (fresh a : Nat) : ReadOut × Bool :=
  let o := s.readAddr nd r [] fresh a 1
  (o, !o.usable)

/-- Bytes at rising addresses with their marks, and the reads. -/
def State.readMarked (s : State) (nd : Needle) (r : RunStitch) : Nat → Nat → Nat → List (Nat × ReadOut × Bool)
  | _, _, 0 => []
  | fresh, a, n + 1 =>
    let p := s.readMarked1 nd r fresh a
    (a, p.1, p.2) :: s.readMarked nd r (fresh + 1) (a + 1) n

/-- The bytes of such reads. -/
def markedOf (os : List (Nat × ReadOut × Bool)) : Marked := os.map (fun o => (o.2.1.bytes.headD 0, o.2.2))

/-- R548, R549: what a DMA's reads leave behind: as any reads, but poison does not end the stitch by itself. A held granule does
(R330). -/
def State.afterMarked (s : State) (n : Nat) (os : List (Nat × ReadOut × Bool)) (hint : Nat) (by_ : Sender := .stitch) (lock : Bool := false) : State :=
  let outs := os.map (fun o => (o.1, o.2.1))
  let o := joinReads outs
  let clean := outs.map (fun p => (p.1, { p.2 with poison := none, held := none, lost := false, host := none }))
  let s1 := s.afterReads n clean hint by_ lock
  match (s1.needle n).run with
  | none => s1
  | some r =>
    let s2 := match o.poison with
      | some (seg, j, ch, bs) => (s1.modCtx r.st.ctx (fun x => x.noteUe seg 0 j ch bs)).modRun n (fun x => { x with withdraw := true })
      | none => if o.lost then s1.modRun n (fun x => { x with withdraw := true }) else match o.host with
        | some (seg, off) => (s1.noteHost r.st.ctx seg off).modRun n (fun x => { x with withdraw := true })
        | none => s1
    match o.held with
    | some g => (s2.holdGranule g.1 g.2).withdrawStitch n (some g)
    | none => s2

/-- R548: the bursts of the marked bytes enter their poison tables. -/
def State.poisonBytes (s : State) (n : Nat) (ws : List (Nat × Byte)) : State :=
  let nd := s.needle n
  match nd.run with
  | none => s
  | some r => (burstsOf (s.planWrite nd r ws).stack).foldl (fun a k => a.poisonBurst (k / 2 ^ 26) (k % 2 ^ 26)) s

/-- What moving rows came to. -/
structure DmaOut where
  flags : ShFlags
  status : Nat
  deriving DecidableEq, Repr

/-- R549, R610: whether bytes that are written to the Hem tier meet a host port in reset. -/
def State.hostFails (s : State) (n : Nat) (ws : List (Nat × Byte)) : Bool :=
  match (s.needle n).run with | some r => (s.planWrite (s.needle n) r ws).failedAt.isSome | none => false

/-- Writes a row of marked bytes from address `a`: poisoned bytes go on as poison into context space and as zeros into the Sleeve, where
the stitch ends at once (R548). -/
def State.writeMarked (s : State) (n a : Nat) (w : WriteBy) (m : Marked) : Except Nat (State × Nat) :=
  let ws := m.mapIdx (fun i b => (a + i, if b.2 then (0 : Byte) else b.1))
  let marked := (m.mapIdx (fun i b => (a + i, b))).filter (fun p => p.2.2)
  match s.writeAddrs n ws w with
  | .error k => .error k
  | .ok (s1, refused) =>
    if marked.isEmpty then .ok (s1, if refused then stPoisoned else if s.hostFails n ws then stHostFault else stOk)
    else match splitAddr a with
      | .sleeve _ => .ok (s1.withdrawStitch n none, stFenced)
      | _ => .ok ((s1.poisonBytes n (marked.map (fun p => (p.1, p.2.1)))).modRun n (fun x => { x with withdraw := true }), stFenced)

/-- R223: moves rows in order, from the first on; a fault stops the movement. -/
def State.moveRows (s : State) (n : Nat) (d : DmaDesc) (order : Nat) : List Nat → DmaOut → Except (State × Nat × ShFlags) (State × DmaOut)
  | [], o => .ok (s, o)
  | r :: rest, o =>
    let nd := s.needle n
    match nd.run with
    | none => .ok (s, o)
    | some run =>
      let rs := s.readMarked nd run s.freeCtr (rowAddr d.src d.srcPitch r) d.srcBytes
      let ss := s.readMarked nd run (s.freeCtr + rs.length) (rowAddr d.sscale d.sscalePitch r) d.ssBytes
      let ds := if d.writesPlane then [] else
        s.readMarked nd run (s.freeCtr + rs.length + ss.length) (rowAddr d.dscale d.dscalePitch r) d.dsBytes
      let s1 := s.afterMarked n (rs ++ ss ++ ds) d.srcHint (.dma d.deadline) d.lock
      let row := d.convert r (markedOf rs) (markedOf ss) (markedOf ds)
      let da := rowAddr d.dst d.dstPitch r
      let w : WriteBy := { sender := .dma d.deadline, lock := d.lock, hint := d.dstHint, vec := false, order := order }
      match s1.writeMarked n da w row.elems with
      | .error k => .error (s1, k, o.flags)
      | .ok (s2, st2) =>
        let pa := rowAddr d.dscale d.dscalePitch r
        match (if d.writesPlane then s2.writeMarked n pa w row.scales else .ok (s2, stOk)) with
        | .error k => .error (s2, k, o.flags ||| row.flags)
        | .ok (s3, st3) =>
          let st := if o.status != stOk then o.status else if st2 != stOk then st2 else st3
          s3.moveRows n d order rest { flags := o.flags ||| row.flags, status := st }

/-- R225: the slot that an engine starts next: the earliest issued that has not started. -/
def Needle.nextStart (nd : Needle) (eng : Nat) : Option (Nat × DmaSlot) :=
  (nd.slots eng).foldl (fun b p =>
    if p.2.started || p.2.done then b
    else match b with
      | none => some p
      | some q => if p.2.seq < q.2.seq then some p else some q) none

/-- Replaces a slot. -/
def State.setSlot (s : State) (n eng i : Nat) (d : DmaSlot) : State :=
  let nd := s.needle n
  s.setNeedle n (nd.setSlots eng (FMap.set (nd.slots eng) i d))

/-- R586: whether a descriptor takes a part of a 64-byte unit of a Hem grant with ENC. -/
def State.encDma (s : State) (n : Nat) (d : DmaDesc) : Bool :=
  let nd := s.needle n
  match nd.run with
  | none => false
  | some r =>
    let odd := fun (a pitch len : Nat) =>
      len != 0 && (match splitAddr a with | .ctx seg _ => s.encSeg r.st.ctx nd seg | _ => false) &&
        (a % 64 != 0 || len % 64 != 0 || (1 < d.rows && pitch % 64 != 0))
    odd d.src d.srcPitch d.srcBytes || odd d.dst d.dstPitch d.dstBytes || odd d.sscale d.sscalePitch d.ssBytes ||
      odd d.dscale d.dscalePitch d.dsBytes

/-- R224, R225: starts a descriptor. What its rows wrote to peers is acknowledged message by message. -/
def State.startSlot (s : State) (n eng i : Nat) (d : DmaSlot) : State :=
  if d.desc.bad then s.setSlot n eng i { d with started := true, done := true, status := stBadParam }
  else match rangesFault (s.needle n) d.desc.ranges with
    | some k => (s.setSlot n eng i { d with started := true, done := true, status := stSegFault }).faultAt n k d.pc
    | none =>
      if s.encDma n d.desc then s.setSlot n eng i { d with started := true, done := true, status := stBadParam } else
      let before := match (s.needle n).run with | some r => r.unacked | none => []
      match s.moveRows n d.desc d.order (List.range d.desc.rows) { flags := 0, status := stOk } with
      | .error (s1, k, fl) =>
        ((s1.joinShFlags n fl).setSlot n eng i
          { d with started := true, done := true, status := stSegFault, shFlags := fl, bytes := d.desc.totalBytes }).faultAt n k d.pc
      | .ok (s1, o) =>
        let now := match (s1.needle n).run with | some r => r.unacked | none => []
        let new := now.filter (fun m => !before.contains m)
        let s2 := (s1.joinShFlags n o.flags).modRun n (fun r => { r with unacked := before })
        s2.setSlot n eng i
          { d with
            started := true
            status := o.status
            shFlags := o.flags
            bytes := d.desc.totalBytes
            msgs := new.map (fun m => m / 2) }

end Sys2Proof.Machine
end

