-- ==== Sys2Proof/Machine/KnotOps.lean ====
section
/-! DEFINITION. Knots as stitches use them (R230 to R244): references and their checks, the operations, waits, and the instructions of
group 0x6. -/

namespace Sys2Proof.Machine

/-- The operations by OP (R234). -/
def kopAdd : Nat := 0
def kopArrive : Nat := 1
def kopSet : Nat := 2
def kopClr : Nat := 3
def kopWait : Nat := 4
def kopRead : Nat := 5

/-- R233: STATE_LO and STATE_HI as one 48-bit number. -/
def KnotState.word : KnotState → Nat
  | .counter v => v.toNat
  | .barrier _ a p => p + a * 2 ^ 16
  | .event f => if f then 1 else 0

/-- R230: whether a wait with this operand is satisfied; none where the type does not match, which no type does. -/
def KnotState.waitMet (k : KnotState) (operand : DWord) : Bool :=
  match k with
  | .counter v => BitVec.sle (BitVec.ofNat 48 operand.toNat) v
  | .barrier _ _ p => p != operand.toNat % 65536
  | .event f => f

/-- R234, R236: what an operation does: the state after it, the result, whether it altered the knot (R239) and whether a barrier's phase
filled; none where the type does not match the operation. -/
def KnotState.apply (k : KnotState) (op : Nat) (arg : DWord) : Option (KnotState × Nat × Bool × Bool) :=
  match k, op with
  | .counter v, 0 =>
    let a := BitVec.ofNat 48 arg.toNat
    some (.counter (v + a), v.toNat, a != 0, false)
  | .barrier t a p, 1 =>
    let c := if arg.toNat % 65536 = 0 then 1 else arg.toNat % 65536
    if t ≤ a + c then some (.barrier t 0 ((p + 1) % 65536), p, true, true)
    else some (.barrier t (a + c) p, p + (a + c) * 2 ^ 16, true, false)
  | .event f, 2 => some (.event true, if f then 1 else 0, !f, false)
  | .event f, 3 => some (.event false, if f then 1 else 0, f, false)
  | k, 5 => some (k, k.word, false, false)
  | _, _ => none

/-- R237: the result word. -/
def knotResult (value status : Nat) (sat : Bool) : DWord :=
  BitVec.ofNat 64 (value % 2 ^ 48 + status * 2 ^ 48 + if sat then 2 ^ 56 else 0)

/-- R243: adds a signaller: the last four distinct ones, newest first. -/
def addSignaller (l : List Signaller) (x : Signaller) : List Signaller := (x :: l.filter (fun y => y ≠ x)).take 4

/-- R237: the knot a local operation of a context may use, or its status. -/
def State.knotFor (s : State) (ctx handle : Nat) : Except Nat Knot :=
  match FMap.get? s.knots (handle % 2 ^ 14) with
  | none => .error stStale
  | some k =>
    if k.gen != handle / 2 ^ 14 % 256 then .error stStale
    else if k.owner = ctx then .ok k
    else
      let same := match s.ctx? ctx, s.ctx? k.owner with
        | some a, some b => a.garment.isSome && a.garment = b.garment
        | _, _ => false
      if k.gknot && same then .ok k else .error stBadParam

/-- R241: marks the stitches whose arrivals filled a phase as having written outside the Sleeve. -/
def State.arrivalsFilled (s : State) (k : Knot) : State :=
  let ids := k.arrivals.map Prod.fst
  let mark : RunStitch → RunStitch := fun r => if ids.contains r.st.id then { r with wroteOut := true } else r
  { s with needles := s.needles.map (fun p => (p.1, { p.2 with run := p.2.run.map mark })), finished := s.finished.map mark }

/-- R236, R240: re-examines the waits on a knot after a change: those it satisfies keep the state that satisfied them. -/
def State.wakeWaits (s : State) (idx : Nat) (st : KnotState) : State :=
  { s with needles := s.needles.map (fun p => (p.1, { p.2 with kwait := p.2.kwait.map (fun w =>
      if w.knot % 2 ^ 14 = idx && w.met.isNone && st.waitMet w.operand then { w with met := some st.word } else w) })) }

/-- R238, R239: the knot engine applies an operation to an open knot: the result and whether it altered the knot. -/
def State.knotApply (s : State) (idx : Nat) (k : Knot) (op : Nat) (arg : DWord) (who : Signaller) (stitch : Option Nat) :
    State × Option (Nat × Bool) :=
  match k.state.apply op arg with
  | none => (s, none)
  | some (st, res, altered, filled) =>
    let arr := match stitch with
      | some id => if op = 1 then (id, if arg.toNat % 65536 = 0 then 1 else arg.toNat % 65536) :: k.arrivals else k.arrivals
      | none => k.arrivals
    let k1 : Knot :=
      { k with
        state := st
        changes := if altered then satAdd (2 ^ 32 - 1) k.changes 1 else k.changes
        signallers := if altered then addSignaller k.signallers who else k.signallers
        arrivals := if filled then [] else arr }
    let s1 := if filled then s.arrivalsFilled { k with arrivals := arr } else s
    let s2 := { s1 with knots := FMap.set s1.knots idx k1 }
    ((if altered then s2.wakeWaits idx st else s2), some (res, altered))

/-- The fields of a knot reference (R235). -/
structure KnotRef where
  handle : Nat
  remote : Bool
  pos : Nat
  board : Nat
  garment : Nat
  deriving DecidableEq, Repr

/-- R235: splits a reference; none where a reserved bit is set. -/
def KnotRef.ofNat (w : Nat) : Option KnotRef :=
  let r : KnotRef := { handle := bits w 0 22, remote := bit w 22, pos := bits w 23 4, board := bits w 27 4, garment := bits w 31 16 }
  if w / 2 ^ 47 != 0 || (!r.remote && w / 2 ^ 22 != 0) then none else some r

/-- R237: how a remote operation ends before any message is sent; none where a message goes. -/
def State.remoteKnotStop (s : State) (ctx op : Nat) (r : KnotRef) : Option Nat :=
  if op = kopClr || op = kopWait || op = kopRead then some stBadParam
  else match s.ctx? ctx with
    | none => some stBadParam
    | some cx =>
      match cx.garment with
      | none => some stBadParam
      | some g =>
        match FMap.get? s.garments g with
        | none => some stBadParam
        | some ga =>
          let m := memberOf r.board r.pos
          if !ga.live || g != r.garment || !ga.members.contains m then some stBadParam
          else
            let st := s.peerState m
            if st = stOk then none else some st

/-- R237, R239: ends a knot instruction with its result. A FENCED or PEER_LOST result drops the stitch with WITHDRAWN. -/
def State.knotDone (s : State) (n rd value status : Nat) (sat wrote : Bool) : State :=
  let nd := s.needle n
  (s.setNeedle n (nd.finishX rd (knotResult value status sat))).modRun n (fun r =>
    { r with wroteOut := r.wroteOut || wrote, withdraw := r.withdraw || status = stFenced || status = stPeerLost })

/-- What a knot instruction does at the head of its queue (R234 to R241). -/
def knotAct (op : Nat) (s : State) (n : Nat) (q : Queued) : State :=
  let nd := s.needle n
  let rd := q.f.rd.toNat
  match nd.run, KnotRef.ofNat q.x1.toNat with
  | none, _ => s
  | _, none => s.faultAt n fkIllegal q.pc
  | some run, some ref =>
    if ref.remote then
      match s.remoteKnotStop run.st.ctx op ref with
      | some st => s.knotDone n rd 0 st true false
      | none =>
        let id := s.board.nextMsg
        let s1 := s.sendMsg (memberOf ref.board ref.pos) msgKnot (s.headFor .knot true (s.ctxHandleOf run.st.ctx)) [op, ref.handle, ref.garment, q.x2.toNat]
        let nd1 := s1.needle n
        (s1.setNeedle n { nd1 with
          knotOps := nd1.knotOps ++ [(id, op, rd, q.x2.toNat)]
          xPend := if rd = 0 then nd1.xPend else rd :: nd1.xPend.erase rd }).modRun n
            (fun r => (r.awaits (2 * id + 1) none q.seq).reaches [memberOf ref.board ref.pos])
    else
      match s.knotFor run.st.ctx ref.handle with
      | .error st =>
        let s1 := if st = stStale then s.noteStale true msgKnot s.tick.number else s
        s1.knotDone n rd 0 st true false
      | .ok k =>
        let idx := ref.handle % 2 ^ 14
        if op = kopWait then
          if k.state.waitMet q.x2 then s.knotDone n rd k.state.word stOk true false
          else
            s.setNeedle n { nd with
              kwait := some { knot := ref.handle, operand := q.x2, giveUp := q.x3.toNat, rd := rd, seq := q.seq, met := none }
              xPend := if rd = 0 then nd.xPend else rd :: nd.xPend.erase rd }
        else
          match s.knotApply idx k op q.x2 (.here run.st.ctx run.st.program) (some run.st.id) with
          | (s1, none) => s1.knotDone n rd 0 stBadParam true false
          | (s1, some (res, altered)) => s1.knotDone n rd res stOk true (altered && op != kopArrive)

/-- R234: a row of group 0x6. -/
def rowKnot (op : Nat) (named : FmtR → List Nat) (ok : FmtR → Bool) : MatRow :=
  { matRow 0x6 op (fun f => f.rd.toNat :: f.rs1.toNat :: named f) (fun f => noMask f && f.func = 0 && ok f) (knotAct op) with
    xdst := fun f => some f.rd.toNat }

/-- KADD. -/
def rowKadd : MatRow := rowKnot 0x00 (fun f => [f.rs2.toNat]) (fun f => fz f.rs3)
/-- KARRIVE. -/
def rowKarrive : MatRow := rowKnot 0x01 (fun f => [f.rs2.toNat]) (fun f => fz f.rs3)
/-- KSET. -/
def rowKset : MatRow := rowKnot 0x02 (fun _ => []) (fun f => fz f.rs2 && fz f.rs3)
/-- KCLR. -/
def rowKclr : MatRow := rowKnot 0x03 (fun _ => []) (fun f => fz f.rs2 && fz f.rs3)
/-- KWAIT. -/
def rowKwait : MatRow := rowKnot 0x04 (fun f => [f.rs2.toNat, f.rs3.toNat]) (fun _ => true)
/-- KREAD. -/
def rowKread : MatRow := rowKnot 0x05 (fun _ => []) (fun f => fz f.rs2 && fz f.rs3)

/-- KADD, R234. -/
def execKadd (n : Nat) (f : FmtR) (s : State) : Host.Outcome State Fault Refusal := s.pushM n f rowKadd
/-- KARRIVE, R236. -/
def execKarrive (n : Nat) (f : FmtR) (s : State) : Host.Outcome State Fault Refusal := s.pushM n f rowKarrive
/-- KSET, R234. -/
def execKset (n : Nat) (f : FmtR) (s : State) : Host.Outcome State Fault Refusal := s.pushM n f rowKset
/-- KCLR, R234. -/
def execKclr (n : Nat) (f : FmtR) (s : State) : Host.Outcome State Fault Refusal := s.pushM n f rowKclr
/-- KWAIT, R240. -/
def execKwait (n : Nat) (f : FmtR) (s : State) : Host.Outcome State Fault Refusal := s.pushM n f rowKwait
/-- KREAD, R234. -/
def execKread (n : Nat) (f : FmtR) (s : State) : Host.Outcome State Fault Refusal := s.pushM n f rowKread

end Sys2Proof.Machine
end

