-- ==== Sys2Proof/Machine/Notices.lean ====
section
/-! DEFINITION. The notices that devices of a garment send each other as control messages: what each is, and to whom it goes. The manual gives
what a notice says and not its layout: the words here are the model's own. -/

namespace Sys2Proof.Machine

/-- What a control message is. -/
inductive Notice where
  | reqUpdate | reqAck | join | staged | turnAbort | layers | stepComplete | stepSealed | stepAbort | commit | tear | endNotice
  | ckptWant | fillStage | granuleRequest | basting | fillData | loss | ack
  | heartbeat | mark | epochMark
  deriving DecidableEq, Repr

/-- A notice's code, the first word of its message. -/
def Notice.code : Notice → Nat
  | .reqUpdate => 1 | .reqAck => 2 | .join => 3 | .staged => 4 | .turnAbort => 5 | .layers => 6 | .stepComplete => 7 | .stepSealed => 8
  | .stepAbort => 9 | .commit => 10 | .tear => 11 | .endNotice => 12 | .ckptWant => 13 | .fillStage => 14 | .granuleRequest => 15
  | .basting => 16 | .fillData => 17 | .loss => 18 | .ack => 19 | .heartbeat => 20 | .mark => 21 | .epochMark => 22

/-- Sends a notice to one member. -/
def State.notify (s : State) (member : Nat) (n : Notice) (ws : List Nat) : State := s.sendMsg member msgControl (controlHead n.code) (n.code :: ws)

/-- The members of a garment apart from this device. -/
def State.otherMembers (s : State) (g : Nat) : List Nat :=
  match FMap.get? s.garments g with
  | none => []
  | some ga => ga.members.filter (· != s.self)

/-- Sends a notice to every other member of a garment. -/
def State.notifyAll (s : State) (g : Nat) (n : Notice) (ws : List Nat) : State :=
  (s.otherMembers g).foldl (fun (a : State) m => a.notify m n ws) s

end Sys2Proof.Machine
end

