-- ==== Sys2Proof/Machine/Remote.lean ====
section
/-! DEFINITION. ACC_SEND (R177, R178, R365, R366): tile totals sent to the adders, and images copied as remote writes. -/

namespace Sys2Proof.Machine

/-- The reduction key (R365). -/
structure RedKey where
  step : Nat
  attempt : Nat
  slot : Nat
  keyed : Bool
  deriving DecidableEq, Repr

/-- R365: a key's fields; none where the instruction faults. -/
def RedKey.ofNat (k : Nat) : Option RedKey :=
  let r : RedKey := { step := bits k 0 16, attempt := bits k 16 4, slot := bits k 20 7, keyed := bit k 27 }
  if k / 2 ^ 28 != 0 || (!r.keyed && k != 0) then none else some r

/-- R177: why a destination of ACC_SEND is refused, none where it may be used: only ORDINARY segments that lie in the stacks and PEER
segments, with W. -/
def State.sendFault (s : State) (nd : Needle) (ctx a len : Nat) : Option Nat :=
  match splitAddr a with
  | .ctx seg off =>
    match segFault nd seg off len .write with
    | some k => some k
    | none =>
      match FMap.get? nd.segs seg, s.ctx? ctx with
      | some d, some cx =>
        if d.kind = 5 then none
        else if d.kind != 0 then some fkSegPerm
        else if (match FMap.get? cx.patterns d.region with | some p => decide (p.residence = 2) | none => false) then some fkSegPerm
        else none
      | _, _ => some fkSegInvalid
  | _ => some fkSpace

/-- The member that owns a destination segment, the garment it is reached through (0 here) and the segment number there. -/
def State.sendTarget (s : State) (nd : Needle) (ctx seg : Nat) : Nat × Nat × Nat × Bool :=
  match FMap.get? nd.segs seg with
  | some d => if d.kind = 5 then (memberOf d.board d.pos, d.garment, d.pseg, true) else (s.self, ctx, seg, false)
  | none => (s.self, ctx, seg, false)

/-- R378: the residue of an FP32 code: its significand modulo 15. -/
def residue15 (code : Nat) : Nat :=
  let m := bits code 0 23
  let e := bits code 23 8
  (if e = 0 then 0 else 2 ^ 23 + m) % 15

/-- The message words of a remote accumulation: whether it went through a PEER segment, garment or context, segment, offset, key, the
number of the ACC_SEND and the message's first element, then the FP32 codes in ascending row and column, each with the residue that goes
beside it above its 32 bits (R378). -/
def accWords (peer : Bool) (g seg off key send first : Nat) (vals : List Nat) : List Nat :=
  (if peer then 1 else 0) :: g :: seg :: off :: key :: send :: first :: vals.map (fun v => v + residue15 v * 2 ^ 32)

/-- R211, R366: an ACC_SEND leaves in messages of `k` values (4 KiB, locked ones 1 KiB); the numbers they got. -/
def State.sendAdds (s : State) (dest : Nat) (head : MsgHead) (peer : Bool) (g seg off key k : Nat) (vals : List Nat) : State × List Nat :=
  let send := s.board.nextMsg
  (List.range ((vals.length + k - 1) / k)).foldl (fun (a : State × List Nat) i =>
    (a.1.sendMsg dest msgAdd head (accWords peer g seg off key send (k * i) ((vals.drop (k * i)).take k)), a.2 ++ [a.1.board.nextMsg])) (s, [])

/-- R177: the FP32 totals of rows of a tile, in ascending row and column. -/
def Tile.totals (t : Tile) (row0 rows : Nat) : List Nat :=
  (List.range (128 * rows)).map (fun i => (FMap.getD t.cells (128 * row0 + i) Cell.cleared).total.toNat)

/-- What ACC_SEND in ADD mode does when it runs. -/
def accSendAddAct (s : State) (n : Nat) (q : Queued) : State :=
  let func := q.f.func.toNat
  let ti := bits func 0 3
  let rows := bits func 5 7 + 1
  let row0 := bits func 12 7
  let nd := s.needle n
  let t := nd.tile ti
  let a := q.x1.toNat
  let key := q.x2.toNat
  match nd.run, RedKey.ofNat key with
  | none, _ => s
  | _, none => s.faultAt n fkIllegal q.pc
  | some run, some k =>
    if k.keyed && !(row0 = 0 && rows = 128 && a % 65536 = 0) then s.faultAt n fkIllegal q.pc
    else match s.sendFault nd run.st.ctx a (512 * rows), splitAddr a with
      | some f, _ => s.faultAt n f q.pc
      | none, .ctx seg off =>
        if t.isOpen then s.faultAt n fkCursor q.pc
        else
          let (dest, g, dseg, peer) := s.sendTarget nd run.st.ctx seg
          let st := s.peerState dest
          let vals := t.totals row0 rows
          let nd1 := if bit func 4 then nd.setTile ti { Tile.cleared with live := true, canon := t.canon, hold := t.hold } else nd
          if st != stOk then
            (s.setNeedle n nd1).modRun n (fun r => { r with withdraw := true, remoteSent := true })
          else
            let id := s.board.nextMsg
            let (s1, sent) := (s.setNeedle n nd1).sendAdds dest (s.headFor .stitch k.keyed (s.ctxHandleOf run.st.ctx)) peer g dseg off key
              (if k.keyed then 256 else 1024) vals
            let rec_ : KeyedSend :=
              { dest := dest, peer := peer, garment := g, seg := dseg, off := off, key := key, msg := id,
                sum := f64Encode (f64Sum false vals), abs := f64Encode (f64Sum true vals), order := q.seq, left := sent,
                discarded := false, endMsg := none }
            s1.modRun n (fun r =>
              { sent.foldl (fun (x : RunStitch) m => x.awaits (2 * m) none q.seq) (r.reaches [dest]) with
                remoteSent := true
                accFlags := r.accFlags ||| t.flags
                keyed := if k.keyed then r.keyed ++ [rec_] else r.keyed })
      | none, _ => s.faultAt n fkSpace q.pc

/-- The contribution that a message number belongs to, with its stitch (R366). -/
def State.contributionOf (s : State) (msg : Nat) : Option (Nat × KeyedSend) :=
  (s.needles.filterMap (fun p => p.2.run) ++ s.finished).findSome? (fun r =>
    (r.keyed.find? (fun k => k.left.contains msg || k.endMsg = some msg)).map (fun k => (r.st.id, k)))

/-- R371, R381: a message of a contribution is acknowledged. The end notice follows the last one's acknowledgement, and the stitch waits for
it too (R366); where an addition was discarded or tore the tile, none leaves. -/
def State.endContribution (s : State) (msg status : Nat) : State :=
  match s.contributionOf msg with
  | none => s
  | some (id, k) =>
    if k.endMsg.isSome then s
    else
      let k1 := { k with left := k.left.filter (· != msg), discarded := k.discarded || status != stOk }
      let last := k1.left.isEmpty && !k1.discarded
      let endId := s.board.nextMsg
      let s1 := if last then
          s.notify k.dest .endNotice [if k.peer then 1 else 0, k.garment, k.seg, k.off, k.key, k.msg, k.sum, k.abs] else s
      let k2 := if last then { k1 with endMsg := some endId } else k1
      let g : RunStitch → RunStitch := fun r =>
        if r.st.id = id then
          { (if last then r.awaits (2 * endId) none k.order else r) with keyed := r.keyed.map (fun x => if x.msg = k.msg then k2 else x) }
        else r
      { s1 with needles := s1.needles.map (fun p => (p.1, { p.2 with run := p.2.run.map g })), finished := s1.finished.map g }

/-- What ACC_SEND in IMG mode does when it runs (R178). The copy to memory of this device is applied as it leaves; a copy to a peer leaves
as messages. -/
def accSendImgAct (s : State) (n : Nat) (q : Queued) : State :=
  let nd := s.needle n
  let a := q.x1.toNat
  let src := q.x2.toNat
  let len := q.x3.toNat
  match nd.run, splitAddr src with
  | none, _ => s
  | some run, .sleeve off =>
    match s.sendFault nd run.st.ctx a len, nd.sleeveFault off len false with
    | some f, _ => s.faultAt n f q.pc
    | none, some f => s.faultAt n f q.pc
    | none, none =>
      match splitAddr a with
      | .ctx seg _ =>
        let st := s.peerState (s.sendTarget nd run.st.ctx seg).1
        if st != stOk then s.modRun n (fun r => { r with withdraw := true, wroteOut := true })
        else
          match s.writeRun n a (Mem.readN nd.sleeve off len) (q.writes 0) with
          | .error f => s.faultAt n f q.pc
          | .ok s1 => s1.modRun n (fun r => { r with wroteOut := true })
      | _ => s.faultAt n fkSpace q.pc
  | _, _ => s.faultAt n fkSpace q.pc

/-- ACC_SEND in ADD mode, R160. -/
def rowAccSendAdd : MatRow :=
  matRow 0xD 0x04 (fun f => [f.rs1.toNat, f.rs2.toNat])
    (fun f => noMask f && fz f.rd && fz f.rs3 && funcIn f 0x7FFF7 && decide (bits f.func.toNat 12 7 + (bits f.func.toNat 5 7 + 1) ≤ 128))
    accSendAddAct
/-- ACC_SEND in IMG mode, R160, R178: TILE, CLR, ROWS and ROW0 are zero. -/
def rowAccSendImg : MatRow :=
  { matRow 0xD 0x04 (fun f => [f.rs1.toNat, f.rs2.toNat, f.rs3.toNat]) (fun f => noMask f && fz f.rd && f.func.toNat = 8) accSendImgAct with
    mode := 1 }

/-- ACC_SEND in ADD mode, R177. -/
def execAccSendAdd (n : Nat) (f : FmtR) (s : State) : Host.Outcome State Fault Refusal := s.pushM n f rowAccSendAdd
/-- ACC_SEND in IMG mode, R178. -/
def execAccSendImg (n : Nat) (f : FmtR) (s : State) : Host.Outcome State Fault Refusal := s.pushM n f rowAccSendImg

end Sys2Proof.Machine
end

