-- ==== Sys2Proof/Machine/VecAcross.lean ====
section
/-! DEFINITION. Vector instructions of groups 0xA and 0xB: reductions, scans, permutations, width changes, masks and moves (R194 to
R198). -/

namespace Sys2Proof.Machine

-- ---------------------------------------------------------------- reductions and scans (R195, R196)

/-- R195: the inputs of a tree: P of them, the identity where the element is not active. -/
def treeInputs {α : Type} (vl : Nat) (act : List Bool) (ident : α) (val : Nat → α) : List α :=
  (List.range (2 ^ treeLevels vl)).map (fun e => if act.getD e false then val e else ident)

/-- R195: the largest integer of an element type. -/
def intMax (uns : Bool) (w : Nat) : Int := if uns then 2 ^ w - 1 else 2 ^ (w - 1) - 1
/-- R195: the smallest integer of an element type. -/
def intMin (uns : Bool) (w : Nat) : Int := if uns then 0 else -(2 ^ (w - 1))

/-- R195: a floating-point reduction: exact inputs into FP32, `op` in FP32, the result rounded once to the type. -/
def rowRedF (op : Nat) (ident : FVal) (g : FVal → FVal → FVal) : VecRow :=
  regRow 0xA op (fun f ew => fz f.rs2 && fz f.rs3 && floatOk f ew 0)
    (fun q nd =>
      let el := q.a nd
      let r := treeFold g ident (treeLevels q.vl) (treeInputs q.vl (q.active nd) ident (fun e => q.fmt.read (el.getD e 0)))
      let c := q.fmt.encode (q.fmt.round r).1
      q.putAll nd (List.replicate 256 c))

/-- R195: an integer reduction; `ident` is the identity at a signedness and width. -/
def rowRedI (op extra : Nat) (ident : Bool → Nat → Int) (g : Int → Int → Int) : VecRow :=
  regRow 0xA op (fun f _ => fz f.rs2 && fz f.rs3 && funcIn f extra)
    (fun q nd =>
      let w := ewWidth q.ew
      let u := bit q.f.func.toNat 4
      let el := q.a nd
      let r := treeFold g 0 (treeLevels q.vl)
        (treeInputs q.vl (q.active nd) (ident u w) (fun e => elemInt u w (el.getD e 0)))
      q.putAll nd (List.replicate 256 (intCode w r)))

/-- VREDSUM.F, R195. -/
def rowVredsumF : VecRow := rowRedF 0x00 (.fin true 0 0) (fun a b => (fl32 a b).1)
/-- VREDMAX.F, R195. -/
def rowVredmaxF : VecRow := rowRedF 0x01 (.inf true) FVal.max2
/-- VREDMIN.F, R195. -/
def rowVredminF : VecRow := rowRedF 0x02 (.inf false) FVal.min2
/-- VREDSUM.I, R195. -/
def rowVredsumI : VecRow := rowRedI 0x03 0 (fun _ _ => 0) (fun a b => a + b)
/-- VREDMAX.I, R195. -/
def rowVredmaxI : VecRow := rowRedI 0x04 0x10 intMin (fun a b => if a < b then b else a)
/-- VREDMIN.I, R195. -/
def rowVredminI : VecRow := rowRedI 0x05 0x10 intMax (fun a b => if b < a then b else a)

/-- R196: the inputs of a scan: one per element below VL. -/
def scanInputs {α : Type} (vl : Nat) (act : List Bool) (ident : α) (val : Nat → α) : List α :=
  (List.range vl).map (fun e => if act.getD e false then val e else ident)

/-- VSCAN.F, R196. -/
def rowVscanF : VecRow :=
  regRow 0xA 0x08 (fun f ew => fz f.rs2 && fz f.rs3 && floatOk f ew 0)
    (fun q nd =>
      let el := q.a nd
      let x := scanList (fun a b => (fl32 a b).1) (scanInputs q.vl (q.active nd) (.fin true 0 0) (fun e => q.fmt.read (el.getD e 0)))
      q.putAll nd ((x.map (fun v => q.fmt.encode (q.fmt.round v).1)) ++ List.replicate (256 - q.vl) 0))
/-- VSCAN.I, R196. -/
def rowVscanI : VecRow :=
  regRow 0xA 0x09 (fun f _ => fz f.rs2 && fz f.rs3 && funcIn f 0)
    (fun q nd =>
      let w := ewWidth q.ew
      let el := q.a nd
      let x := scanList (fun a b => (a + b) % 2 ^ w) (scanInputs q.vl (q.active nd) 0 (fun e => el.getD e 0))
      q.putAll nd (x ++ List.replicate (256 - q.vl) 0))

-- ---------------------------------------------------------------- permutations (R194)

/-- A permutation: element `e` of the result from the registers' elements; `ok` checks the fields. -/
def rowPermute (op : Nat) (ok : FmtR → Nat → Bool) (g : Queued → Needle → Nat → List Nat → List Nat → Nat → Nat) : VecRow :=
  regRow 0xA op ok
    (fun q nd =>
      let n := 2048 / ewWidth q.ew
      q.putV nd ((List.range n).map (g q nd n (q.a nd) (q.b nd))))

/-- Two sources, no FUNC. -/
def okAB (f : FmtR) (_ : Nat) : Bool := fz f.rs3 && funcIn f 0
/-- One source, no FUNC. -/
def okA (f : FmtR) (_ : Nat) : Bool := fz f.rs2 && fz f.rs3 && funcIn f 0

/-- VPERM, R194. -/
def rowVperm : VecRow := rowPermute 0x10 okAB (fun _ _ n a b e => let i := b.getD e 0; if i < n then a.getD i 0 else 0)
/-- VBFLY, R194. -/
def rowVbfly : VecRow :=
  rowPermute 0x11 (fun f ew => fz f.rs2 && fz f.rs3 && funcIn f 0x700 && decide (2 ^ bits f.func.toNat 8 3 < 2048 / ewWidth ew))
    (fun q _ _ a _ e => a.getD (Nat.xor e (2 ^ bits q.f.func.toNat 8 3)) 0)
/-- VTR8, R194. -/
def rowVtr8 : VecRow := rowPermute 0x12 okA (fun _ _ _ a _ e => a.getD (e / 64 * 64 + 8 * (e % 8) + e % 64 / 8) 0)
/-- VZIPLO, R194. -/
def rowVziplo : VecRow := rowPermute 0x13 okAB (fun _ _ _ a b e => if e % 2 = 0 then a.getD (e / 2) 0 else b.getD (e / 2) 0)
/-- VZIPHI, R194. -/
def rowVziphi : VecRow :=
  rowPermute 0x14 okAB (fun _ _ n a b e => if e % 2 = 0 then a.getD (n / 2 + e / 2) 0 else b.getD (n / 2 + e / 2) 0)
/-- VUZPE, R194. -/
def rowVuzpe : VecRow :=
  rowPermute 0x15 okAB (fun _ _ n a b e => if e < n / 2 then a.getD (2 * e) 0 else b.getD (2 * (e - n / 2)) 0)
/-- VUZPO, R194. -/
def rowVuzpo : VecRow :=
  rowPermute 0x16 okAB (fun _ _ n a b e => if e < n / 2 then a.getD (2 * e + 1) 0 else b.getD (2 * (e - n / 2) + 1) 0)
/-- VCOMPRESS, R194. -/
def rowVcompress : VecRow :=
  regRow 0xA 0x18 okA
    (fun q nd =>
      let el := q.a nd
      let kept := (q.activeIdx nd).map (fun e => el.getD e 0)
      q.putAll nd (kept ++ List.replicate (256 - kept.length) 0))
/-- VEXPAND, R194. -/
def rowVexpand : VecRow :=
  rowPermute 0x19 okA (fun q nd _ a _ e => a.getD ((q.activeIdx nd).filter (fun i => decide (i < e))).length 0)
/-- VIDX, R194. -/
def rowVidx : VecRow := rowPermute 0x1A (fun f ew => fz f.rs1 && okA f ew) (fun _ _ _ _ _ e => e)
/-- VMPFX, R194: RS1 names a mask register. -/
def rowVmpfx : VecRow :=
  rowPermute 0x1B (fun f ew => isM f.rs1 && okA f ew)
    (fun q nd _ _ _ e =>
      ((List.range e).filter (fun f => decide (f < q.vl) && (nd.getM q.f.rs1.toNat).getLsbD f)).length % 2 ^ ewWidth q.ew)

-- ---------------------------------------------------------------- width changes (R197)

/-- The EW code of a width. -/
def widthEw (w : Nat) : Nat := if w = 8 then 0 else if w = 16 then 1 else 2

/-- R197: moves elements between widths `ws` and `wd` under a position: `g` converts a source code, where the source element of the
wider width that governs it is active. Elements that receive no result keep their values. -/
def convertWidth (q : Queued) (nd : Needle) (ws wd pos : Nat) (g : List Nat → List Nat) : Needle :=
  let wide := Nat.max ws wd
  let src := vElems ws (nd.getV q.f.rs1.toNat)
  let old := vElems wd (nd.getV q.f.rd.toNat)
  let act := activeList (2048 / wide) q.vl (nd.getM q.f.msk.toNat) q.f.minv
  let n := 2048 / wide
  let srcOff := if ws < wd then pos * n else 0
  let dstOff := if wd < ws then pos * n else 0
  let out := g (slice src srcOff n)
  nd.setV q.f.rd.toNat (vOfElems wd (old.mapIdx (fun i o =>
    if dstOff ≤ i && i < dstOff + n && act.getD (i - dstOff) false then out.getD (i - dstOff) o else o)))

/-- R197: the SCW of VCVT's FUNC: INT8 under UNIT, every other format under NONE. -/
def cvtScw (func : Nat) : Scw :=
  { src := bits func 0 4, dst := bits func 4 4, srcScale := if bits func 0 4 = 3 then 3 else 0,
    dstScale := if bits func 4 4 = 3 then 3 else 0, srcB16 := false, dstB16 := false, round := bits func 8 2, ovf := bit func 10,
    fit := false, reserved := 0 }

/-- R197: whether VCVT's fields are values it allows, at an EW; if not, SCW (assumption 11). -/
def cvtOk (func ew : Nat) : Bool :=
  let c := cvtScw func
  match Fmt.ofCode c.src, Fmt.ofCode c.dst with
  | some s, some d =>
    decide (c.src ≤ 3) && decide (c.dst ≤ 3) && decide (c.round < 2) && c.valid 0 &&
    ewWidth ew = Nat.max s.width d.width &&
    decide (bits func 11 2 < Nat.max s.width d.width / Nat.min s.width d.width)
  | _, _ => false

/-- What VCVT does when it runs. -/
def vcvtAct (s : State) (n : Nat) (q : Queued) : State :=
  let func := q.f.func.toNat
  if !cvtOk func q.ew then s.faultAt n fkScw q.pc
  else
    let c := cvtScw func
    let ws := ((Fmt.ofCode c.src).getD .fp32).width
    let wd := ((Fmt.ofCode c.dst).getD .fp32).width
    let nd := s.needle n
    let wide := Nat.max ws wd
    let act := activeList (2048 / wide) q.vl (nd.getM q.f.msk.toNat) q.f.minv
    let cnt := 2048 / wide
    let src := slice (vElems ws (nd.getV q.f.rs1.toNat)) (if ws < wd then bits func 11 2 * cnt else 0) cnt
    let live := (List.zip act src).map (fun p => if p.1 then p.2 else 0)
    let out := c.convertRow (fun _ => 0) 0 live [] []
    (s.setNeedle n (convertWidth q nd ws wd (bits func 11 2) (fun _ => out.codes))).joinShFlags n out.flags

/-- VCVT, R197. -/
def rowVcvt : VecRow :=
  { group := 0xA, op := 0x20, named := fun _ => [], ok := fun f _ => fz f.rs2 && fz f.rs3 && funcIn f 0x1FFF,
    xdst := fun _ => none, desc := noDesc, act := vcvtAct }

/-- R197: whether VIEXT's fields are values it allows, at an EW; if not, ILLEGAL (assumption 11). -/
def iextOk (func ew : Nat) : Bool :=
  let ws := ewWidth (bits func 0 2)
  let wd := ewWidth (bits func 2 2)
  ws != 0 && wd != 0 && ewWidth ew = Nat.max ws wd && decide (bits func 11 2 < Nat.max ws wd / Nat.min ws wd)

/-- R197: one element of VIEXT. -/
def iextElem (func ws wd c : Nat) : Nat :=
  if ws < wd then (if bit func 4 then intCode wd (sInt ws c) else c)
  else if wd < ws then
    (if bit func 5 then
      let v := sInt ws c
      intCode wd (if v < intMin false wd then intMin false wd else if intMax false wd < v then intMax false wd else v)
    else c % 2 ^ wd)
  else c

/-- VIEXT, R197. -/
def rowViext : VecRow :=
  regRow 0xA 0x21 (fun f ew => fz f.rs2 && fz f.rs3 && funcIn f 0x183F && iextOk f.func.toNat ew)
    (fun q nd =>
      let func := q.f.func.toNat
      let ws := ewWidth (bits func 0 2)
      let wd := ewWidth (bits func 2 2)
      convertWidth q nd ws wd (bits func 11 2) (fun l => l.map (iextElem func ws wd)))

-- ---------------------------------------------------------------- group 0xB (R198)

/-- R198: a mask operation of two mask registers. -/
def rowMask2 (op : Nat) (g : MReg → MReg → MReg) : VecRow :=
  regRow 0xB op (fun f _ => isM f.rd && isM f.rs1 && isM f.rs2 && fz f.rs3 && noMask f && funcIn f 0)
    (fun q nd => nd.setM q.f.rd.toNat (g (nd.getM q.f.rs1.toNat) (nd.getM q.f.rs2.toNat)))

/-- VMAND, R198. -/
def rowVmand : VecRow := rowMask2 0x00 (fun a b => a &&& b)
/-- VMOR, R198. -/
def rowVmor : VecRow := rowMask2 0x01 (fun a b => a ||| b)
/-- VMXOR, R198. -/
def rowVmxor : VecRow := rowMask2 0x02 (fun a b => a ^^^ b)
/-- VMANDN, R198. -/
def rowVmandn : VecRow := rowMask2 0x03 (fun a b => a &&& ~~~b)
/-- VMNOT, R198. -/
def rowVmnot : VecRow :=
  regRow 0xB 0x04 (fun f _ => isM f.rd && isM f.rs1 && fz f.rs2 && fz f.rs3 && noMask f && funcIn f 0)
    (fun q nd => nd.setM q.f.rd.toNat (~~~(nd.getM q.f.rs1.toNat)))
/-- VMLEN, R198. -/
def rowVmlen : VecRow :=
  { group := 0xB, op := 0x05, named := fun f => [f.rs1.toNat],
    ok := fun f _ => isM f.rd && fz f.rs2 && fz f.rs3 && noMask f && funcIn f 0, xdst := fun _ => none, desc := noDesc,
    act := fun s n q => s.setNeedle n ((s.needle n).setM q.f.rd.toNat
      (BitVec.ofNat 256 (packCodes 1 ((List.range 256).map (fun e => if e < q.x1.toNat then 1 else 0))))) }

/-- R198: an instruction that writes X[RD] from a value of the needle's registers. -/
def rowToX (op : Nat) (ok : FmtR → Nat → Bool) (g : Queued → Needle → DWord) : VecRow :=
  { group := 0xB, op := op, named := fun f => [f.rd.toNat], ok := ok, xdst := fun f => some f.rd.toNat, desc := noDesc,
    act := fun s n q => let nd := s.needle n
                        s.setNeedle n ({ nd with xPend := nd.xPend.erase q.f.rd.toNat }.setX q.f.rd.toNat (g q nd)) }

/-- The elements below VL whose bit is 1. -/
def maskedBelow (q : Queued) (nd : Needle) : List Nat :=
  (List.range q.vl).filter (fun e => (nd.getM q.f.rs1.toNat).getLsbD e)

/-- VMPOP, R198. -/
def rowVmpop : VecRow :=
  rowToX 0x08 (fun f _ => isM f.rs1 && fz f.rs2 && fz f.rs3 && noMask f && funcIn f 0)
    (fun q nd => BitVec.ofNat 64 (maskedBelow q nd).length)
/-- VMFIRST, R198. -/
def rowVmfirst : VecRow :=
  rowToX 0x09 (fun f _ => isM f.rs1 && fz f.rs2 && fz f.rs3 && noMask f && funcIn f 0)
    (fun q nd => match maskedBelow q nd with | [] => BitVec.allOnes 64 | e :: _ => BitVec.ofNat 64 e)
/-- VEXT, R198. -/
def rowVext : VecRow :=
  rowToX 0x0A (fun f ew => fz f.rs2 && fz f.rs3 && noMask f && funcIn f 0x1FF && decide (bits f.func.toNat 0 8 < 2048 / ewWidth ew))
    (fun q nd =>
      let c := (q.a nd).getD (bits q.f.func.toNat 0 8) 0
      if bit q.f.func.toNat 8 then sext64 (ewWidth q.ew) c else BitVec.ofNat 64 c)
/-- VMOV, R198. -/
def rowVmov : VecRow :=
  regRow 0xB 0x0B (fun f _ => fz f.rs2 && fz f.rs3 && funcIn f 0) (fun q nd => q.putV nd (q.a nd))

/-- VREDSUM_F. -/
def execVredsumF (n : Nat) (f : FmtR) (s : State) : Host.Outcome State Fault Refusal := s.pushV n f rowVredsumF
/-- VREDMAX_F. -/
def execVredmaxF (n : Nat) (f : FmtR) (s : State) : Host.Outcome State Fault Refusal := s.pushV n f rowVredmaxF
/-- VREDMIN_F. -/
def execVredminF (n : Nat) (f : FmtR) (s : State) : Host.Outcome State Fault Refusal := s.pushV n f rowVredminF
/-- VREDSUM_I. -/
def execVredsumI (n : Nat) (f : FmtR) (s : State) : Host.Outcome State Fault Refusal := s.pushV n f rowVredsumI
/-- VREDMAX_I. -/
def execVredmaxI (n : Nat) (f : FmtR) (s : State) : Host.Outcome State Fault Refusal := s.pushV n f rowVredmaxI
/-- VREDMIN_I. -/
def execVredminI (n : Nat) (f : FmtR) (s : State) : Host.Outcome State Fault Refusal := s.pushV n f rowVredminI
/-- VSCAN_F. -/
def execVscanF (n : Nat) (f : FmtR) (s : State) : Host.Outcome State Fault Refusal := s.pushV n f rowVscanF
/-- VSCAN_I. -/
def execVscanI (n : Nat) (f : FmtR) (s : State) : Host.Outcome State Fault Refusal := s.pushV n f rowVscanI
/-- VPERM. -/
def execVperm (n : Nat) (f : FmtR) (s : State) : Host.Outcome State Fault Refusal := s.pushV n f rowVperm
/-- VBFLY. -/
def execVbfly (n : Nat) (f : FmtR) (s : State) : Host.Outcome State Fault Refusal := s.pushV n f rowVbfly
/-- VTR8. -/
def execVtr8 (n : Nat) (f : FmtR) (s : State) : Host.Outcome State Fault Refusal := s.pushV n f rowVtr8
/-- VZIPLO. -/
def execVziplo (n : Nat) (f : FmtR) (s : State) : Host.Outcome State Fault Refusal := s.pushV n f rowVziplo
/-- VZIPHI. -/
def execVziphi (n : Nat) (f : FmtR) (s : State) : Host.Outcome State Fault Refusal := s.pushV n f rowVziphi
/-- VUZPE. -/
def execVuzpe (n : Nat) (f : FmtR) (s : State) : Host.Outcome State Fault Refusal := s.pushV n f rowVuzpe
/-- VUZPO. -/
def execVuzpo (n : Nat) (f : FmtR) (s : State) : Host.Outcome State Fault Refusal := s.pushV n f rowVuzpo
/-- VCOMPRESS. -/
def execVcompress (n : Nat) (f : FmtR) (s : State) : Host.Outcome State Fault Refusal := s.pushV n f rowVcompress
/-- VEXPAND. -/
def execVexpand (n : Nat) (f : FmtR) (s : State) : Host.Outcome State Fault Refusal := s.pushV n f rowVexpand
/-- VIDX. -/
def execVidx (n : Nat) (f : FmtR) (s : State) : Host.Outcome State Fault Refusal := s.pushV n f rowVidx
/-- VMPFX. -/
def execVmpfx (n : Nat) (f : FmtR) (s : State) : Host.Outcome State Fault Refusal := s.pushV n f rowVmpfx
/-- VCVT. -/
def execVcvt (n : Nat) (f : FmtR) (s : State) : Host.Outcome State Fault Refusal := s.pushV n f rowVcvt
/-- VIEXT. -/
def execViext (n : Nat) (f : FmtR) (s : State) : Host.Outcome State Fault Refusal := s.pushV n f rowViext
/-- VMAND. -/
def execVmand (n : Nat) (f : FmtR) (s : State) : Host.Outcome State Fault Refusal := s.pushV n f rowVmand
/-- VMOR. -/
def execVmor (n : Nat) (f : FmtR) (s : State) : Host.Outcome State Fault Refusal := s.pushV n f rowVmor
/-- VMXOR. -/
def execVmxor (n : Nat) (f : FmtR) (s : State) : Host.Outcome State Fault Refusal := s.pushV n f rowVmxor
/-- VMANDN. -/
def execVmandn (n : Nat) (f : FmtR) (s : State) : Host.Outcome State Fault Refusal := s.pushV n f rowVmandn
/-- VMNOT. -/
def execVmnot (n : Nat) (f : FmtR) (s : State) : Host.Outcome State Fault Refusal := s.pushV n f rowVmnot
/-- VMLEN. -/
def execVmlen (n : Nat) (f : FmtR) (s : State) : Host.Outcome State Fault Refusal := s.pushV n f rowVmlen
/-- VMPOP. -/
def execVmpop (n : Nat) (f : FmtR) (s : State) : Host.Outcome State Fault Refusal := s.pushV n f rowVmpop
/-- VMFIRST. -/
def execVmfirst (n : Nat) (f : FmtR) (s : State) : Host.Outcome State Fault Refusal := s.pushV n f rowVmfirst
/-- VEXT. -/
def execVext (n : Nat) (f : FmtR) (s : State) : Host.Outcome State Fault Refusal := s.pushV n f rowVext
/-- VMOV. -/
def execVmov (n : Nat) (f : FmtR) (s : State) : Host.Outcome State Fault Refusal := s.pushV n f rowVmov

end Sys2Proof.Machine
end

