-- ==== Sys2Proof/Machine/Vector.lean ====
section
/-! DEFINITION. Vector instructions of group 0x8: element arithmetic and compares (R182 to R187). -/

namespace Sys2Proof.Machine

/-- R186: a times 2^b, rounded once; b is a signed integer of the element width. -/
def scalb (f : Fmt) (a : FVal) (b : Int) : FVal :=
  match a with
  | .fin n m e => (f.roundFin n m (e + b)).1
  | v => v

/-- VADD.F, R186. -/
def rowVaddF : VecRow := rowF2 0x00 (fun f a b => (f.add a b).1)
/-- VSUB.F, R186. -/
def rowVsubF : VecRow := rowF2 0x01 (fun f a b => (f.add a b.neg).1)
/-- VMUL.F, R186. -/
def rowVmulF : VecRow := rowF2 0x02 (fun f a b => (f.round (FVal.mul a b)).1)
/-- VFMA.F, R186. -/
def rowVfmaF : VecRow := rowF3 0x03 (fun f a b c => f.fma a b c)
/-- VFNMA.F, R186. -/
def rowVfnmaF : VecRow := rowF3 0x04 (fun f a b c => f.fma a.neg b c)
/-- VDIV.F, R186. -/
def rowVdivF : VecRow := rowF2 0x05 (fun f a b => f.div a b)
/-- VSQRT.F, R186. -/
def rowVsqrtF : VecRow := rowF1 0x06 (fun f a => f.sqrt a)
/-- VMIN.F, R186. -/
def rowVminF : VecRow := rowF2 0x07 (fun _ a b => a.min2 b)
/-- VMAX.F, R186. -/
def rowVmaxF : VecRow := rowF2 0x08 (fun _ a b => a.max2 b)
/-- VABS.F, R186. -/
def rowVabsF : VecRow := rowF1 0x09 (fun _ a => if a.sign then a.neg else a)
/-- VNEG.F, R186. -/
def rowVnegF : VecRow := rowF1 0x0A (fun _ a => a.neg)
/-- VSCALB.F, R186. -/
def rowVscalbF : VecRow :=
  regRow 0x8 0x0B (fun f ew => fz f.rs3 && floatOk f ew 0)
    (fun q nd => q.putV nd (List.zipWith (fun x y => q.fmt.encode (scalb q.fmt (q.fmt.read x) (sInt (ewWidth q.ew) y)))
      (q.a nd) (q.b nd)))
/-- VCMP.F, R186. -/
def rowVcmpF : VecRow :=
  regRow 0x8 0x0C (fun f ew => isM f.rd && fz f.rs3 && floatOk f ew 0xE && decide (bits f.func.toNat 1 3 < 6))
    (fun q nd => q.putM nd (List.zipWith (fun x y => cmpF (bits q.f.func.toNat 1 3) (q.fmt.read x) (q.fmt.read y)) (q.a nd) (q.b nd)))
/-- VEXP2, R187. -/
def rowVexp2 : VecRow := rowApprox 0x10 .exp2
/-- VLOG2, R187. -/
def rowVlog2 : VecRow := rowApprox 0x11 .log2
/-- VRCP, R187. -/
def rowVrcp : VecRow := rowApprox 0x12 .rcp
/-- VRSQRT, R187. -/
def rowVrsqrt : VecRow := rowApprox 0x13 .rsqrt
/-- VTANH, R187. -/
def rowVtanh : VecRow := rowApprox 0x14 .tanh
/-- VADD.I, R186. -/
def rowVaddI : VecRow := rowI2 0x20 0 (fun _ _ a b => a + b)
/-- VSUB.I, R186. -/
def rowVsubI : VecRow := rowI2 0x21 0 (fun _ w a b => a + 2 ^ w - b)
/-- VMUL.I, R186. -/
def rowVmulI : VecRow := rowI2 0x22 0 (fun _ _ a b => a * b)
/-- VAND, R186. -/
def rowVand : VecRow := rowI2 0x23 0 (fun _ _ a b => Nat.land a b)
/-- VOR, R186. -/
def rowVor : VecRow := rowI2 0x24 0 (fun _ _ a b => Nat.lor a b)
/-- VXOR, R186. -/
def rowVxor : VecRow := rowI2 0x25 0 (fun _ _ a b => Nat.xor a b)
/-- VSHL, R186. -/
def rowVshl : VecRow := rowI2 0x26 0 (fun _ w a b => a * 2 ^ (b % w))
/-- VSHR, R186. -/
def rowVshr : VecRow := rowI2 0x27 0 (fun _ w a b => a / 2 ^ (b % w))
/-- VSRA, R186. -/
def rowVsra : VecRow := rowI2 0x28 0 (fun _ w a b => intCode w (sInt w a / (2 ^ (b % w) : Nat)))
/-- VMIN.I, R186: FUNC[4] unsigned. -/
def rowVminI : VecRow := rowI2 0x29 0x10 (fun q w a b =>
  let u := bit q.f.func.toNat 4
  if elemInt u w b < elemInt u w a then b else a)
/-- VMAX.I, R186. -/
def rowVmaxI : VecRow := rowI2 0x2A 0x10 (fun q w a b =>
  let u := bit q.f.func.toNat 4
  if elemInt u w a < elemInt u w b then b else a)
/-- VCMP.I, R186. -/
def rowVcmpI : VecRow :=
  regRow 0x8 0x2B (fun f _ => isM f.rd && fz f.rs3 && funcIn f 0x1E && decide (bits f.func.toNat 1 3 < 6))
    (fun q nd =>
      let w := ewWidth q.ew
      let u := bit q.f.func.toNat 4
      q.putM nd (List.zipWith (fun x y => cmpI (bits q.f.func.toNat 1 3) (elemInt u w x) (elemInt u w y)) (q.a nd) (q.b nd)))
/-- VSEL, R186: M[RS3] selects. -/
def rowVsel : VecRow :=
  regRow 0x8 0x2C (fun f _ => isM f.rs3 && funcIn f 0)
    (fun q nd => q.putV nd ((List.zip (q.a nd) (q.b nd)).mapIdx (fun e p =>
      if (nd.getM q.f.rs3.toNat).getLsbD e then p.1 else p.2)))

/-- VADD_F. -/
def execVaddF (n : Nat) (f : FmtR) (s : State) : Host.Outcome State Fault Refusal := s.pushV n f rowVaddF
/-- VSUB_F. -/
def execVsubF (n : Nat) (f : FmtR) (s : State) : Host.Outcome State Fault Refusal := s.pushV n f rowVsubF
/-- VMUL_F. -/
def execVmulF (n : Nat) (f : FmtR) (s : State) : Host.Outcome State Fault Refusal := s.pushV n f rowVmulF
/-- VFMA_F. -/
def execVfmaF (n : Nat) (f : FmtR) (s : State) : Host.Outcome State Fault Refusal := s.pushV n f rowVfmaF
/-- VFNMA_F. -/
def execVfnmaF (n : Nat) (f : FmtR) (s : State) : Host.Outcome State Fault Refusal := s.pushV n f rowVfnmaF
/-- VDIV_F. -/
def execVdivF (n : Nat) (f : FmtR) (s : State) : Host.Outcome State Fault Refusal := s.pushV n f rowVdivF
/-- VSQRT_F. -/
def execVsqrtF (n : Nat) (f : FmtR) (s : State) : Host.Outcome State Fault Refusal := s.pushV n f rowVsqrtF
/-- VMIN_F. -/
def execVminF (n : Nat) (f : FmtR) (s : State) : Host.Outcome State Fault Refusal := s.pushV n f rowVminF
/-- VMAX_F. -/
def execVmaxF (n : Nat) (f : FmtR) (s : State) : Host.Outcome State Fault Refusal := s.pushV n f rowVmaxF
/-- VABS_F. -/
def execVabsF (n : Nat) (f : FmtR) (s : State) : Host.Outcome State Fault Refusal := s.pushV n f rowVabsF
/-- VNEG_F. -/
def execVnegF (n : Nat) (f : FmtR) (s : State) : Host.Outcome State Fault Refusal := s.pushV n f rowVnegF
/-- VSCALB_F. -/
def execVscalbF (n : Nat) (f : FmtR) (s : State) : Host.Outcome State Fault Refusal := s.pushV n f rowVscalbF
/-- VCMP_F. -/
def execVcmpF (n : Nat) (f : FmtR) (s : State) : Host.Outcome State Fault Refusal := s.pushV n f rowVcmpF
/-- VEXP2. -/
def execVexp2 (n : Nat) (f : FmtR) (s : State) : Host.Outcome State Fault Refusal := s.pushV n f rowVexp2
/-- VLOG2. -/
def execVlog2 (n : Nat) (f : FmtR) (s : State) : Host.Outcome State Fault Refusal := s.pushV n f rowVlog2
/-- VRCP. -/
def execVrcp (n : Nat) (f : FmtR) (s : State) : Host.Outcome State Fault Refusal := s.pushV n f rowVrcp
/-- VRSQRT. -/
def execVrsqrt (n : Nat) (f : FmtR) (s : State) : Host.Outcome State Fault Refusal := s.pushV n f rowVrsqrt
/-- VTANH. -/
def execVtanh (n : Nat) (f : FmtR) (s : State) : Host.Outcome State Fault Refusal := s.pushV n f rowVtanh
/-- VADD_I. -/
def execVaddI (n : Nat) (f : FmtR) (s : State) : Host.Outcome State Fault Refusal := s.pushV n f rowVaddI
/-- VSUB_I. -/
def execVsubI (n : Nat) (f : FmtR) (s : State) : Host.Outcome State Fault Refusal := s.pushV n f rowVsubI
/-- VMUL_I. -/
def execVmulI (n : Nat) (f : FmtR) (s : State) : Host.Outcome State Fault Refusal := s.pushV n f rowVmulI
/-- VAND. -/
def execVand (n : Nat) (f : FmtR) (s : State) : Host.Outcome State Fault Refusal := s.pushV n f rowVand
/-- VOR. -/
def execVor (n : Nat) (f : FmtR) (s : State) : Host.Outcome State Fault Refusal := s.pushV n f rowVor
/-- VXOR. -/
def execVxor (n : Nat) (f : FmtR) (s : State) : Host.Outcome State Fault Refusal := s.pushV n f rowVxor
/-- VSHL. -/
def execVshl (n : Nat) (f : FmtR) (s : State) : Host.Outcome State Fault Refusal := s.pushV n f rowVshl
/-- VSHR. -/
def execVshr (n : Nat) (f : FmtR) (s : State) : Host.Outcome State Fault Refusal := s.pushV n f rowVshr
/-- VSRA. -/
def execVsra (n : Nat) (f : FmtR) (s : State) : Host.Outcome State Fault Refusal := s.pushV n f rowVsra
/-- VMIN_I. -/
def execVminI (n : Nat) (f : FmtR) (s : State) : Host.Outcome State Fault Refusal := s.pushV n f rowVminI
/-- VMAX_I. -/
def execVmaxI (n : Nat) (f : FmtR) (s : State) : Host.Outcome State Fault Refusal := s.pushV n f rowVmaxI
/-- VCMP_I. -/
def execVcmpI (n : Nat) (f : FmtR) (s : State) : Host.Outcome State Fault Refusal := s.pushV n f rowVcmpI
/-- VSEL. -/
def execVsel (n : Nat) (f : FmtR) (s : State) : Host.Outcome State Fault Refusal := s.pushV n f rowVsel

end Sys2Proof.Machine
end

