-- ==== Sys2Proof/Machine/Control.lean ====
section
/-! DEFINITION. The queues' drain (R137, R142, R160, R179), the control instructions of group 0x4 (R135, R142, R146, R153), the start of
stitches (R136, R150 to R153) and the acknowledgements that end waits. -/

namespace Sys2Proof.Machine

-- ---------------------------------------------------------------- draining the queues

/-- The vector rows by group and OP (R186, R188, R194 to R198). -/
def vecRows : List VecRow :=
  [rowVaddF, rowVsubF, rowVmulF, rowVfmaF, rowVfnmaF, rowVdivF, rowVsqrtF, rowVminF, rowVmaxF, rowVabsF, rowVnegF, rowVscalbF,
   rowVcmpF, rowVexp2, rowVlog2, rowVrcp, rowVrsqrt, rowVtanh, rowVaddI, rowVsubI, rowVmulI, rowVand, rowVor, rowVxor, rowVshl,
   rowVshr, rowVsra, rowVminI, rowVmaxI, rowVcmpI, rowVsel] ++
  [rowVld, rowVst, rowVmld, rowVmst, rowVunpk, rowVpack, rowVrand] ++
  [rowVredsumF, rowVredmaxF, rowVredminF, rowVredsumI, rowVredmaxI, rowVredminI, rowVscanF, rowVscanI, rowVperm, rowVbfly, rowVtr8,
   rowVziplo, rowVziphi, rowVuzpe, rowVuzpo, rowVcompress, rowVexpand, rowVidx, rowVmpfx, rowVcvt, rowViext] ++
  [rowVmand, rowVmor, rowVmxor, rowVmandn, rowVmnot, rowVmlen, rowVmpop, rowVmfirst, rowVext, rowVmov]

/-- The rows of the matrix queue (R160, R220, R234). -/
def matRows : List MatRow :=
  [rowDma, rowDmastat, rowKadd, rowKarrive, rowKset, rowKclr, rowKwait, rowKread, rowWload, rowMmul, rowPromote, rowAclr, rowArel,
   rowAflags, rowAload, rowAstore, rowTsave, rowTrestore, rowAccSendAdd, rowAccSendImg]

/-- R142: a QSYNC token in a queue, told by the group of control instructions. -/
def Queued.isToken (q : Queued) : Bool := q.group = 0x4

/-- R142, R190: whether the work that mask bits name has completed: all of it, or for a token what was pushed before it. -/
def Needle.settled (nd : Needle) (mask before : Nat) : Bool :=
  let early (q : Queued) : Bool := decide (q.seq < before) && !q.isToken
  let inM (p : Queued → Bool) : Bool := nd.mq.any (fun q => early q && p q)
  let dmaOn (e : Nat) : Bool := (nd.slots e).any (fun p => !p.2.done && decide (p.2.order < before)) ||
    inM (fun q => q.group = 0x5 && q.op = 0x00 && bits q.f.func.toNat 0 1 = e)
  let waits (p : RunStitch → Nat → Bool) : Bool := match nd.run with
    | some r => r.unacked.any (fun k => decide ((FMap.getD r.sentBy k (none, 0)).2 < before) && p r k)
    | none => false
  let unacked (odd : Nat) : Bool := waits (fun _ k => k % 2 = odd)
  (!bit mask 0 || (!nd.vq.any early && !waits (fun r k => (r.vecOp k).isSome))) &&
  (!bit mask 1 || !inM (fun q => q.group = 0xC || q.group = 0xD)) &&
  (!bit mask 2 || !dmaOn 0) &&
  (!bit mask 3 || !dmaOn 1) &&
  (!bit mask 4 || (!unacked 0 && !inM (fun q => q.group = 0xD && q.op = 0x04))) &&
  (!bit mask 5 || (!unacked 1 && !inM (fun q => q.group = 0x6) &&
    (match nd.kwait with | some w => decide (before ≤ w.seq) | none => true)))

/-- One entry taken from the vector queue, where its head may go on. -/
def State.drainV (s : State) (n : Nat) : Option State :=
  let nd := s.needle n
  match nd.vq with
  | [] => none
  | q :: t =>
    if q.isToken then (if nd.settled q.mask q.seq then some (s.setNeedle n { nd with vq := t }) else none)
    else if q.toContext && 16 ≤ nd.vecOut then none
    else match vecRows.find? (fun v => v.group = q.group && v.op = q.op) with
      | some v => some (v.act (s.setNeedle n { nd with vq := t }) n q)
      | none => some (s.setNeedle n { nd with vq := t })

/-- One entry taken from the matrix queue, where its head may go on. -/
def State.drainM (s : State) (n : Nat) : Option State :=
  let nd := s.needle n
  if nd.kwait.isSome then none
  else match nd.mq with
  | [] => none
  | q :: t =>
    if q.isToken then (if nd.settled q.mask q.seq then some (s.setNeedle n { nd with mq := t }) else none)
    else match matRows.find? (fun m => m.group = q.group && m.op = q.op && m.mode = q.mask) with
      | some m => if m.ready nd q then some (m.act (s.setNeedle n { nd with mq := t }) n q) else none
      | none => some (s.setNeedle n { nd with mq := t })

/-- R137: both queues run as far as they can, at most `fuel` entries. -/
def State.drainGo (n : Nat) : Nat → State → State
  | 0, s => s
  | fuel + 1, s =>
    match s.drainV n with
    | some s1 => s1.drainGo n fuel
    | none => match s.drainM n with
      | some s1 => s1.drainGo n fuel
      | none => s

/-- Both queues of 32 entries, drained. -/
def State.drain (s : State) (n : Nat) : State := s.drainGo n 66

-- ---------------------------------------------------------------- the DMA engines (R221, R224, R225)

/-- DMA_DESCRIPTOR_START, R221, R224, R225: an engine starts the next descriptor of its order. With FENCE it starts only when every earlier
descriptor of the engine is acknowledged. What a completion lets go on goes on. -/
def execDmaDescriptorStart (n eng : Nat) (s : State) : Host.Outcome State Fault Refusal :=
  if Config.needles ≤ n || 2 ≤ eng then .fault .noSuchUnit
  else
    let nd := s.needle n
    match nd.nextStart eng with
    | none => .next s
    | some (i, d) =>
      if d.desc.fence && (nd.slots eng).any (fun p => decide (p.2.seq < d.seq) && !p.2.done) then .next s
      else .next ((s.startSlot n eng i d).drain n)

-- ---------------------------------------------------------------- the control instructions (R145)

/-- NOP of a needle, R145. -/
def execNopInsn (n : Nat) (f : FmtI) (s : State) : Host.Outcome State Fault Refusal :=
  s.issue n [] (f.rd = 0 && f.rs1 = 0 && f.imm = 0) (fun nd _ => s.retire n nd)

/-- SYNC, R142: it stalls until the work its mask names has completed. -/
def execSync (n : Nat) (f : FmtI) (s : State) : Host.Outcome State Fault Refusal :=
  s.issue n [] (f.rd = 0 && f.rs1 = 0 && decide (f.imm.toNat < 64)) (fun nd _ =>
    if nd.settled f.imm.toNat (nd.pushes + 1) then s.retire n nd else s)

/-- QSYNC, R142: it pushes a token into the vector queue or the matrix queue. -/
def execQsync (n : Nat) (f : FmtI) (s : State) : Host.Outcome State Fault Refusal :=
  s.issue n [] (decide (f.rd.toNat < 2) && f.rs1 = 0 && decide (f.imm.toNat < 64)) (fun nd _ =>
    let zf : FmtR := { rd := 0, rs1 := 0, rs2 := 0, rs3 := 0, msk := 0, minv := false, func := 0 }
    let tok := { nd.capture 0x4 0x02 zf [] with mask := f.imm.toNat, seq := nd.pushes + 1 }
    if f.rd = 0 then
      (if 32 ≤ nd.vq.length then s
       else (s.setNeedle n { nd with vq := nd.vq ++ [tok], pushes := nd.pushes + 2, pc := nd.pc + 1 }).drain n)
    else
      (if 32 ≤ nd.mq.length then s
       else (s.setNeedle n { nd with mq := nd.mq ++ [tok], pushes := nd.pushes + 2, pc := nd.pc + 1 }).drain n))

/-- SETVL, R135. -/
def execSetvl (n : Nat) (f : FmtI) (s : State) : Host.Outcome State Fault Refusal :=
  s.issue n [f.rd.toNat, f.rs1.toNat] (decide (f.imm.toNat < 3)) (fun nd _ =>
    let ew := f.imm.toNat
    let vl := Nat.min (nd.getX f.rs1.toNat).toNat (2048 / ewWidth ew)
    s.retire n ({ nd with ew := ew, vl := vl }.setX f.rd.toNat (BitVec.ofNat 64 vl)))

/-- R29, R146: the bounds of the time left until C, in ns, in the phase. -/
def TickState.leftBounds (t : TickState) : Nat × Nat :=
  let T := t.periodNs
  let G := 1000 * t.guardUs
  match t.phase with
  | .admission => (T - 20000, T - 8000)
  | .run => (G, T - 20000)
  | .guardBand => (0, G)
  | .commit => (0, 0)

/-- R146: measures the time left until C, in ns: a free value within the phase's bounds and no more than an earlier measurement. -/
def State.measureLeft (s : State) : Nat × State :=
  let (lo, top) := s.tick.leftBounds
  let (v, s1) := s.drawUpTo (Nat.min top s.tick.leftMin - lo)
  (lo + v, { s1 with tick := { s1.tick with leftMin := lo + v } })

/-- R146: measures the cycles since the stitch started: a free value, no less than an earlier measurement and no more than a tick at the
panel's clock holds. -/
def State.measureCycles (s : State) (n : Nat) (r : RunStitch) : Nat × State :=
  let (v, s1) := s.drawUpTo (s.tick.periodNs * (s.panel (n / Config.needlesPerPanel)).mhz / 1000 - r.cycles)
  (r.cycles + v, s1.modRun n (fun x => { x with cycles := r.cycles + v }))

/-- R146: the value of a special register and the state after it is read. -/
def State.specialReg (s : State) (n sr : Nat) (r : RunStitch) : Nat × State :=
  match sr with
  | 0 => (s.tick.number, s)
  | 1 => s.measureLeft
  | 2 => let (v, s1) := s.measureLeft; (v - 1000 * s.tick.guardUs, s1)
  | 3 => s.measureCycles n r
  | 4 => (r.shFlags.toNat, s)
  | 5 => (r.accFlags.toNat + Nat.min r.splits 65535 * 2 ^ 16, s)
  | 6 => (n % Config.needlesPerPanel + n / Config.needlesPerPanel * 2 ^ 8, s)
  | _ => (s.ctxHandleOf r.st.ctx, s)

/-- RDSR, R146. -/
def execRdsr (n : Nat) (f : FmtI) (s : State) : Host.Outcome State Fault Refusal :=
  s.issue n [f.rd.toNat] (f.rs1 = 0 && decide (f.imm.toNat < 8)) (fun nd r =>
    let (v, s1) := s.specialReg n f.imm.toNat r
    s1.retire n ({ nd with run := (s1.needle n).run }.setX f.rd.toNat (BitVec.ofNat 64 v)))

/-- TIE, R153: it ends issue. -/
def execTie (n : Nat) (f : FmtI) (s : State) : Host.Outcome State Fault Refusal :=
  s.issue n [] (f.rd = 0 && f.rs1 = 0 && decide (f.imm.toNat < 2 ^ 16)) (fun nd r =>
    s.setNeedle n { nd with run := some { r with ended := some .tied, user := f.imm.toNat } })

-- ---------------------------------------------------------------- starting stitches (R136, R150 to R153)

/-- A stitch as it starts. -/
def RunStitch.begin (st : Stitch) (n : Nat) : RunStitch :=
  { st := st, needle := n, ended := none, user := 0, shFlags := 0, accFlags := 0, splits := 0, noncanon := false, wroteOut := false,
    remoteSent := false, withdraw := false, stockHold := none, unacked := [], sentBy := [], dmaSeq0 := 0, dmaSeq1 := 0, cycles := 0, arrivals := [], keyed := [],
    channels := [], peers := [] }

/-- R136: the X registers at the start. -/
def State.startRegs (s : State) (n : Nat) (st : Stitch) : FMap DWord :=
  [(1, st.arg0), (2, st.arg1), (3, st.arg2),
   (4, BitVec.ofNat 64 (n % Config.needlesPerPanel + n / Config.needlesPerPanel * 2 ^ 8 + st.tag % 2 ^ 16 * 2 ^ 16)),
   (5, BitVec.ofNat 64 (s.tick.number % 2 ^ 48)), (6, BitVec.ofNat 64 (s.ctxHandleOf st.ctx))]

/-- R148: the length of the region a segment maps, in chunks, where it has one: of a Pattern that is current, a mapped copy or a grant the
context holds. A STOCK or HEM segment whose region is gone has length 0. -/
def State.regionLen (s : State) (cx : Context) (d : Seg) : Option Nat :=
  match d.kind with
  | 3 => some (match FMap.get? s.stock d.region with | some k => 32 * k.granules | none => 0)
  | 4 => some (match FMap.get? cx.grants d.region with | some g => g.len | none => 0)
  | 5 => none
  | _ => (FMap.get? cx.patterns d.region).map (fun p => p.len)

/-- R150: the descriptors a needle loads at dispatch, with the lengths of their regions. -/
def State.loadSegs (s : State) (cx : Context) (nd : Needle) : Needle :=
  { nd with
    segs := cx.segs
    segLens := cx.segs.filterMap (fun p => (s.regionLen cx p.2).map (fun l => (p.1, l))) }

/-- R151: bytes of an image from its entry to the end of its CODE segment, at most 64 KiB, in whole instructions; or the fault of an
entry address that is not in a CODE segment with X. -/
def Needle.imageRange (nd : Needle) (entry : Nat) : Except Nat (Nat × Seg × Nat × Nat) :=
  match splitAddr entry with
  | .ctx seg off =>
    match FMap.get? nd.segs seg with
    | none => .error fkSegPerm
    | some d =>
      if !(d.valid && d.kind = 2 && d.x) || 65536 * d.length ≤ off then .error fkSegPerm
      else
        let len := Nat.min 65536 (65536 * d.length - off) / 8 * 8
        match segFault nd seg off len .fetch with
        | some k => .error k
        | none => .ok (seg, d, off, len)
  | _ => .error fkSegPerm

/-- R143: the instruction words of an image's bytes; a zero word is not listed. -/
def imageWords : Nat → List Byte → FMap DWord
  | _, [] => []
  | i, b0 :: b1 :: b2 :: b3 :: b4 :: b5 :: b6 :: b7 :: t =>
    let w := leNat [b0, b1, b2, b3, b4, b5, b6, b7]
    if w = 0 then imageWords (i + 1) t else (i, BitVec.ofNat 64 w) :: imageWords (i + 1) t
  | _, _ => []

/-- R151: loads the image unless the store holds it already. -/
def State.loadImage (s : State) (n : Nat) (st : Stitch) : State :=
  match s.ctx? st.ctx with
  | none => s.faultAt n fkSegPerm 0
  | some cx =>
    match FMap.get? cx.progs st.program with
    | none => s.faultAt n fkSegPerm 0
    | some p =>
      let nd := s.needle n
      match nd.imageRange p.entry with
      | .error k => s.faultAt n k 0
      | .ok (seg, d, off, len) =>
        if nd.imageOf = some (st.ctx, st.program, cx.progVersion) then s
        else
          let o := s.readSeg st.ctx d seg st.id s.freeCtr off len
          let s1 := s.afterReads n [(seg * 2 ^ 42 + off, o)] 0
          if o.usable then
            s1.setNeedle n { (s1.needle n) with
              image := imageWords 0 o.bytes
              imageLen := len / 8
              imageOf := some (st.ctx, st.program, cx.progVersion) }
          else s1

/-- R136, R150 to R152: dispatches and starts a stitch on a needle. -/
def State.startStitch (s : State) (n : Nat) (st : Stitch) (rest : List Stitch) : State :=
  let nd := s.needle n
  let nd1 : Needle :=
    { nd with
      admitted := rest
      run := some (RunStitch.begin st n)
      pc := 0
      x := s.startRegs n st
      xPend := []
      vl := 64
      ew := 2
      d0 := []
      d1 := []
      mq := []
      vq := []
      kwait := none
      knotOps := []
      pushes := 0
      w0 := none
      w1 := none }
  let nd2 := match s.ctx? st.ctx with | some cx => s.loadSegs cx nd1 | none => nd1
  (s.setNeedle n nd2).loadImage n st

/-- STITCH_START, R152: in the run phase, the first stitch admitted to an idle needle starts, once the needle has restored. -/
def execStitchStart (n : Nat) (s : State) : Host.Outcome State Fault Refusal :=
  if Config.needles ≤ n then .fault .noSuchUnit
  else
    let nd := s.needle n
    match nd.run, nd.admitted with
    | none, st :: rest =>
      if s.tick.phase = .run && !nd.fenced && !nd.selfTest then .next (s.startStitch n st rest) else .next s
    | _, _ => .next s

/-- NEXT_STITCH_START, R153, R30: a needle whose stitch ended, with both queues empty and no descriptor outstanding, starts its next
admitted stitch; in the guard band none starts. The one that ended waits for the commit. -/
def execNextStitchStart (n : Nat) (s : State) : Host.Outcome State Fault Refusal :=
  if Config.needles ≤ n then .fault .noSuchUnit
  else
    let nd := s.needle n
    match nd.run with
    | none => .next s
    | some r =>
      if r.ended.isNone || nd.busy then .next s
      else
        let s1 := { (s.setNeedle n { nd with run := none }) with finished := s.finished ++ [r] }
        match nd.admitted with
        | st :: rest =>
          if s.tick.phase = .run && !nd.fenced && !nd.selfTest then .next (s1.startStitch n st rest) else .next s1
        | [] => .next s1

-- ---------------------------------------------------------------- acknowledgements

/-- R225, R227: a slot is acknowledged, or completes with the status its path or peer gave it. -/
def execDmaSlotAcknowledged (n eng slot status : Nat) (s : State) : Host.Outcome State Fault Refusal :=
  if Config.needles ≤ n || 2 ≤ eng || 16 ≤ slot then .fault .noSuchUnit
  else
    let nd := s.needle n
    match FMap.get? (nd.slots eng) slot, nd.run with
    | some d, some r =>
      if !d.started || d.done then .next s
      else
        let st := if d.status != stOk then d.status else status
        let bad := status = stFenced || status = stPeerLost || status = stPoisoned || status = stHostFault
        let s1 := (s.setSlot n eng slot { d with done := true, status := st, msgs := [] }).modRun n (fun x =>
          { x with withdraw := x.withdraw || bad })
        let s2 := if status = stHostFault then s1.noteHost r.st.ctx (d.desc.dst / 2 ^ 42 % 64) (d.desc.dst % 2 ^ 42) else s1
        .next (s2.drain n)
    | _, _ => .next s

/-- R34: removes an acknowledged message from whichever stitch waits for it, with what the acknowledgement does to the stitch. -/
def State.ackMessage (s : State) (m : Nat) (f : RunStitch → RunStitch) : State :=
  let g : RunStitch → RunStitch := fun r => if r.unacked.contains m then f { r with unacked := r.unacked.filter (· != m) } else r
  { s with needles := s.needles.map (fun p => (p.1, { p.2 with run := p.2.run.map g })), finished := s.finished.map g }

/-- ACC_SEND_ACKNOWLEDGED, R366, R371, R380, R619: a message of an ACC_SEND, or of another remote write, is acknowledged with a status. A
keyed contribution's stitch is dropped for FENCED and PEER_LOST of its path only; its torn tile repeats the step. -/
def execAccSendAcknowledged (n msg status : Nat) (torn : Bool) (s : State) : Host.Outcome State Fault Refusal :=
  if Config.needles ≤ n then .fault .noSuchUnit
  else
    .next ((s.ackMessage (2 * msg) (fun r =>
      let keyed := r.keyed.any (fun k => k.left.contains msg || k.endMsg = some msg)
      let drop := if keyed then !torn && (status = stFenced || status = stPeerLost)
        else status = stFenced || status = stPeerLost || status = stPoisoned || status = stHostFault
      { r with withdraw := r.withdraw || drop })).endContribution msg status |>.drain n)

/-- KWAIT_SATISFIED, R240: a wait that a change satisfied ends: its result is written and the queue goes on. -/
def execKwaitSatisfied (n : Nat) (s : State) : Host.Outcome State Fault Refusal :=
  if Config.needles ≤ n then .fault .noSuchUnit
  else
    let nd := s.needle n
    match nd.kwait with
    | none => .next s
    | some w =>
      match w.met with
      | none => .next s
      | some v => .next (((s.setNeedle n { nd with kwait := none }).knotDone n w.rd v stOk true false).drain n)

/-- KWAIT_GIVE_UP, R234, R240: the give-up deadline passes: the wait ends with SAT 0 and the state as it is, or satisfied where a change had
satisfied it. A deadline of 0, or past C, is C, where R241 ends the wait. -/
def execKwaitGiveUp (n : Nat) (s : State) : Host.Outcome State Fault Refusal :=
  if Config.needles ≤ n then .fault .noSuchUnit
  else
    let nd := s.needle n
    match nd.kwait with
    | none => .next s
    | some w =>
      match w.met with
      | some v => .next (((s.setNeedle n { nd with kwait := none }).knotDone n w.rd v stOk true false).drain n)
      | none =>
        if w.giveUp = 0 || s.tick.periodNs - 8000 ≤ w.giveUp then .next s
        else
          let s1 := s.setNeedle n { nd with kwait := none }
          match FMap.get? s.knots (w.knot % 2 ^ 14) with
          | some k => .next ((s1.knotDone n w.rd k.state.word stOk false false).drain n)
          | none => .next ((s1.knotDone n w.rd 0 stStale false false).drain n)

end Sys2Proof.Machine
end

