-- ==== Sys2Proof/Machine/Lining.lean ====
section
/-! DEFINITION. The Lining (R203 to R219, R228, R229): attachments, routes, sites, deadlines, and the deadline arbiters, run from one event to
the next, with their counters. -/

namespace Sys2Proof

/-- R216: the senders that may lock a message: DMA engines, the adders, knot operations and commit-time records; and what a peer's device
locked. -/
def Sender.mayLock : Sender → Bool
  | .dma _ => true | .adder _ => true | .knot => true | .record => true | .peer _ l => l | _ => false

/-- R216: whether a message is a locked sequence: 1 KiB is 16 beats at a channel and 4 on the Lining; a longer one is not sent locked. -/
def Bid.locked (b : Bid) : Bool := b.lock && b.sender.mayLock && decide (b.bytes ≤ 1024)

-- ---------------------------------------------------------------- attachments and routes (R15, R204 to R208)

/-- R15, R16: the panel of an attachment. -/
def Attach.panel : Attach → Nat
  | .needle n => n / 48
  | .controller k _ => k / 4
  | .link l => if l < 4 then 0 else if l < 8 then 2 else if l < 12 then 3 else if l < 16 then 5 else if l < 18 then 1 else 4
  | .hostPort h => if h = 0 then 1 else 4
  | .bolt k => if k = 0 then 1 else 4
  | .tailor c => if c = 0 then 1 else 4
  | .thimble => 1

/-- The number of an attachment for the choice of its router. -/
def Attach.code : Attach → Nat
  | .needle n => n
  | .controller k lane => 1000 + 4 * k + lane
  | .link l => 2000 + l
  | .hostPort h => 3000 + h
  | .bolt k => 4000 + k
  | .tailor c => 5000 + c
  | .thimble => 6000

/-- R204: the global number of the router at (x, y) of a panel. -/
def panelRouter (p x y : Nat) : Nat := 12 * (4 * (p / 3) + y) + 4 * (p % 3) + x

/-- R204, R207: the routers of a panel that lie at the edge of the die. -/
def outerRouters (p : Nat) : List Nat :=
  ((List.range 16).map (fun i => panelRouter p (i % 4) (i / 4))).filter (fun r => r % 12 = 0 || r % 12 = 11 || r / 12 = 0 || r / 12 = 7)

/-- R204, R207: the router of an attachment: three needles share one; every other part lies at one of its panel's outer edge routers, which
one the manual leaves open (assumption 70). -/
def Attach.router (a : Attach) : Nat :=
  match a with
  | .needle n => panelRouter (n / 48) (n % 48 / 3 % 4) (n % 48 / 3 / 4)
  | _ =>
    let l := outerRouters a.panel
    (l[Config.edgeRouter a.code % Nat.max 1 l.length]?).getD 0

/-- Whether an attachment is a needle. -/
def Attach.isNeedle : Attach → Bool
  | .needle _ => true | _ => false

end Sys2Proof

namespace Sys2Proof.Machine

/-- R205: the plane of a message: S (1) for responses and acknowledgements, Q (0) for every other kind. -/
def kindPlane (kind : Nat) : Nat := if kind = 4 || kind = 5 then 1 else 0

/-- R208: the output port a message takes at router `r` on its way to router `d`: 0 +X, 1 -X, 2 +Y, 3 -Y, 4 needles, 5 edge. -/
def routePort (r d : Nat) (edge : Bool) : Nat :=
  if r % 12 < d % 12 then 0
  else if d % 12 < r % 12 then 1
  else if r / 12 < d / 12 then 2
  else if d / 12 < r / 12 then 3
  else if edge then 5 else 4

/-- R206: the seam that an output port of a router crosses, with the router pair along it. -/
def seamAt (r port : Nat) : Option (Nat × Nat) :=
  let x := r % 12
  let y := r / 12
  let lowX := if port = 0 then x else x - 1
  let lowY := if port = 2 then y else y - 1
  if port = 0 || (port = 1 && 0 < x) then
    (if lowX = 3 then some (2 * (y / 4), y % 4) else if lowX = 7 then some (2 * (y / 4) + 1, y % 4) else none)
  else if (port = 2 || (port = 3 && 0 < y)) && lowY = 3 then some (4 + x / 4, x % 4)
  else none

/-- R229: the site identifier of an output port of a router, per plane; `lane` is one of a seam's two links of the router pair. -/
def meshSite (r port plane lane : Nat) : Nat :=
  match seamAt r port with
  | some (seam, pair) =>
    1 * 2 ^ 12 + seam * 2 ^ 5 + (pair + 4 * (lane % 2)) * 2 ^ 2 + (if port = 0 || port = 2 then 0 else 1) * 2 + plane % 2
  | none => r % 128 * 2 ^ 4 + port * 2 + plane % 2

/-- The router beyond an output port of a router. -/
def beyond (r port : Nat) : Nat :=
  match port with
  | 0 => r + 1 | 1 => r - 1 | 2 => r + 12 | _ => r - 12

/-- R208, R229: the arbiters from router `r`, entered by `input`, to the receiver's output port: first along X and then along Y. -/
def meshHops (d plane lane : Nat) (edge : Bool) : Nat → Nat → Nat → List Hop
  | 0, _, _ => []
  | fuel + 1, r, input =>
    let port := routePort r d edge
    let h : Hop := { site := meshSite r port plane lane, input := input, port := 2 * (8 * r + input) + plane % 2 }
    if 4 ≤ port then [h] else h :: meshHops d plane lane edge fuel (beyond r port) (port + 1 - 2 * (port % 2))

/-- R208, R212: the arbiters a message passes. -/
def hopsOf (b : Bid) : List Hop :=
  match b.site with
  | .mesh lane => meshHops b.dst.router (kindPlane b.kind) lane (!b.dst.isNeedle) 19 b.src.router (if b.src.isNeedle then 4 else 5)
  | .other site input => [{ site := site, input := input, port := 2 ^ 12 + 8 * site + input }]

/-- R206, R212: the bytes of one beat at a site. -/
def beatBytes (site : Nat) : Nat := if site / 2 ^ 12 = 2 then 64 else if site / 2 ^ 12 = 5 then 4096 else 256

/-- R203, R206: how long a beat takes: one Lining cycle of 0.5 ns on the mesh. -/
def beatTime (b : Bid) : Nat := match b.site with | .mesh _ => 1 | .other _ _ => Nat.max 1 b.beat

/-- R210: from the end of a transfer to the message's arrival at the next router: 1.0 ns, and 7.0 ns across a seam. -/
def hopLatency (site : Nat) : Nat := if site / 2 ^ 12 = 1 then 14 else 2

-- ---------------------------------------------------------------- one arbiter (R212 to R216, R228)

/-- R212: whether request `a` ranks strictly ahead of `b`; `mem` is a memory channel's second key. -/
def ArbReq.ahead (mem : Bool) (a b : ArbReq) : Bool :=
  if a.dl != b.dl then decide (a.dl < b.dl)
  else if mem && a.openRow != b.openRow then a.openRow
  else if a.arrival != b.arrival then decide (a.arrival < b.arrival)
  else decide (a.input < b.input)

/-- The first-ranked of a list of requests. -/
def firstRanked (mem : Bool) : List ArbReq → Option ArbReq
  | [] => none
  | r :: t => match firstRanked mem t with
    | none => some r
    | some b => if b.ahead mem r then some b else some r

/-- R214, R219: the instant of a request's DL. -/
def ArbReq.dlAt (r : ArbReq) : Nat := 2 * (r.dl + 8000)

/-- R228: the counters after a grant to `r` at instant `at_`. -/
def ArbCtr.grant (c : ArbCtr) (r : ArbReq) (at_ : Nat) : ArbCtr :=
  let waited := decide (r.firstB < at_)
  let ns := (at_ - r.since) / 2
  { grants := satAdd (2 ^ 48 - 1) c.grants 1
    revokes := c.revokes
    waits := if waited then satAdd (2 ^ 32 - 1) c.waits 1 else c.waits
    waitNs := if waited then satAdd (2 ^ 64 - 1) c.waitNs ns else c.waitNs
    maxWait := if waited then Nat.min (2 ^ 24 - 1) (Nat.max c.maxWait ns) else c.maxWait
    late := if r.dlAt < at_ then satAdd 65535 c.late 1 else c.late
    locked := if r.lock then satAdd 65535 c.locked 1 else c.locked }

/-- The counters of an input. -/
def Arbiter.ctr (a : Arbiter) (i : Nat) : ArbCtr := FMap.getD a.counters i ArbCtr.zero

/-- R302: the burst slots that a move's copies took in the window of 1 µs of an instant. -/
def Arbiter.copiedAt (a : Arbiter) (t : Nat) : Nat := if a.window = t / 2000 then a.copied else 0

/-- Grants request `r` at an instant; what asked at this very instant has its first beat boundary at the end of the beat granted. -/
def Arbiter.grant (a : Arbiter) (r : ArbReq) (at_ : Nat) : Arbiter :=
  { a with
    waiting := (a.waiting.filter (fun x => x.id != r.id)).map (fun x => if x.since = at_ && x.firstB = at_ then { x with firstB := at_ + r.beat } else x)
    owner := some (r, at_)
    now := at_
    window := if 0 < r.share then at_ / 2000 else a.window
    copied := if 0 < r.share then a.copiedAt at_ + r.beats else a.copied
    counters := FMap.set a.counters r.input ((a.ctr r.input).grant r at_) }

/-- The first beat boundary of a transfer after an instant. -/
def boundaryAfter (start beat t : Nat) : Nat := start + ((t - start) / beat + 1) * beat

/-- Whether an arbiter holds, or is about to hold, message `id` (R209). -/
def Arbiter.holds (a : Arbiter) (id : Nat) : Bool :=
  (a.coming ++ a.waiting).any (fun r => r.id = id) || (match a.owner with | some (o, _) => o.id = id | none => false)

/-- R217: the inputs that hold a locked grant, with the site. -/
def heldLocks (net : FMap Arbiter) : List (Nat × Nat) :=
  net.filterMap (fun p => match p.2.owner with | some (o, _) => if o.lock then some (p.1, o.port) else none | none => none)

/-- R217, R302: the requests that are presented at an instant: not a locked one whose input holds a locked grant at another arbiter, and not a
move's copy that has had its share of the window while other traffic waits. -/
def Arbiter.presented (a : Arbiter) (locks : List (Nat × Nat)) (site t : Nat) : List ArbReq :=
  a.waiting.filter (fun r => !(r.lock && locks.any (fun l => l.1 != site && l.2 = r.port)) &&
    !(decide (0 < r.share) && decide (r.share < a.copiedAt t + r.beats) && a.waiting.any (fun x => x.share = 0)))

/-- R215, R216: the presented requests that rank ahead of an owner that can be revoked. -/
def Arbiter.rivals (a : Arbiter) (o : ArbReq) (locks : List (Nat × Nat)) (site t : Nat) : List ArbReq :=
  if o.lock || o.beats ≤ 1 then [] else (a.presented locks site t).filter (fun r => r.ahead (site / 2 ^ 12 = 2) o)

/-- R215: the beat boundary at which an owner loses its grant, not before `clock`; at the latest the end of its transfer. -/
def Arbiter.ownerEnd (a : Arbiter) (o : ArbReq) (start clock : Nat) (locks : List (Nat × Nat)) (site : Nat) : Nat :=
  (a.rivals o locks site clock).foldl (fun t r =>
    let b := boundaryAfter start o.beat r.arrival
    Nat.min t (if b < clock then boundaryAfter start o.beat clock else b)) (start + o.beats * o.beat)

/-- When something happens next at an arbiter: the owner's end or revocation, a grant at an idle site, or an arrival; the second number orders
what falls on one instant. -/
def Arbiter.due (a : Arbiter) (clock : Nat) (locks : List (Nat × Nat)) (site : Nat) : Option (Nat × Nat) :=
  let own : List (Nat × Nat) := match a.owner with
    | some (o, start) => [(Nat.max clock (a.ownerEnd o start clock locks site), 0)]
    | none => if (a.presented locks site (Nat.max clock a.now)).isEmpty then [] else [(Nat.max clock a.now, 1)]
  let come : List (Nat × Nat) := a.coming.map (fun r => (Nat.max clock r.arrival, 2))
  (own ++ come).foldl (fun b x => match b with
    | none => some x
    | some y => if x.1 < y.1 || (x.1 = y.1 && x.2 < y.2) then some x else b) none

/-- R209: the messages that have come whole by an instant request the site's output. -/
def Arbiter.arrive (a : Arbiter) (t : Nat) : Arbiter :=
  let ask := fun (r : ArbReq) => { r with
    since := r.arrival
    firstB := match a.owner with | some (o, start) => boundaryAfter start o.beat r.arrival | none => r.arrival }
  { a with
    coming := a.coming.filter (fun r => !decide (r.arrival ≤ t))
    waiting := a.waiting ++ (a.coming.filter (fun r => decide (r.arrival ≤ t))).map ask
    now := Nat.max a.now t }

/-- R213: at an idle site the first-ranked request takes the next beat; those that asked before the instant rank first. -/
def Arbiter.serve (a : Arbiter) (t : Nat) (locks : List (Nat × Nat)) (site : Nat) : Arbiter :=
  let l := a.presented locks site t
  match firstRanked (site / 2 ^ 12 = 2) (l.filter (fun r => decide (r.arrival < t))) with
  | some r => a.grant r t
  | none => match firstRanked (site / 2 ^ 12 = 2) l with
    | some r => a.grant r t
    | none => a

/-- R215: the owner loses its grant at a beat boundary; it competes again with its DL and arrival, and starts anew. -/
def Arbiter.revoke (a : Arbiter) (o : ArbReq) (t : Nat) (locks : List (Nat × Nat)) (site : Nat) : Arbiter :=
  let c := a.ctr o.input
  let a1 := { a with counters := FMap.set a.counters o.input { c with revokes := satAdd 65535 c.revokes 1 } }
  match firstRanked (site / 2 ^ 12 = 2) ((a.rivals o locks site t).filter (fun r => decide (r.arrival < t))) with
  | some r => { a1 with waiting := { o with since := t, firstB := t + o.beat } :: a1.waiting }.grant r t
  | none => a

/-- The owner's transfer ends. -/
def Arbiter.finish (a : Arbiter) (o : ArbReq) (t : Nat) : Arbiter := { a with owner := none, now := t, delivered := a.delivered ++ [o.id] }

-- ---------------------------------------------------------------- the arbiters together (R209, R217)

/-- R209: a message that has passed an arbiter comes to the next one on its way. -/
def forward (net : FMap Arbiter) (site : Nat) (o : ArbReq) (t : Nat) : FMap Arbiter :=
  match o.next with
  | [] => net
  | h :: rest =>
    let a := FMap.getD net h.site Arbiter.idle
    let r := { o with input := h.input, port := h.port, next := rest, arrival := t + hopLatency site }
    FMap.set net h.site { a with coming := a.coming ++ [r] }

/-- What happens at a site at instant `t`. -/
def netEvent (net : FMap Arbiter) (site t what clock : Nat) : FMap Arbiter :=
  let a := FMap.getD net site Arbiter.idle
  let locks := heldLocks net
  match what, a.owner with
  | 0, some (o, start) =>
    if a.ownerEnd o start clock locks site < start + o.beats * o.beat then FMap.set net site (a.revoke o t locks site)
    else forward (FMap.set net site (a.finish o t)) site o t
  | 2, _ => FMap.set net site (a.arrive t)
  | _, _ => FMap.set net site (a.serve t locks site)

/-- The next event of all arbiters: its instant, its rank on that instant, and its site. -/
def nextEvent (net : FMap Arbiter) (clock : Nat) : Option (Nat × Nat × Nat) :=
  let locks := heldLocks net
  net.foldl (fun b p => match p.2.due clock locks p.1 with
    | none => b
    | some x => match b with
      | none => some (x.1, x.2, p.1)
      | some y => if x.1 < y.1 || (x.1 = y.1 && x.2 < y.2.1) then some (x.1, x.2, p.1) else b) none

/-- Runs all arbiters up to an instant, event by event. -/
def runNet (to_ : Nat) : Nat → Nat → FMap Arbiter → FMap Arbiter
  | 0, _, net => net
  | fuel + 1, clock, net => match nextEvent net clock with
    | none => net
    | some (t, what, site) => if to_ < t then net else runNet to_ fuel t (netEvent net site t what clock)

/-- How many requests lie at the arbiters. -/
def netLoad (net : FMap Arbiter) : Nat :=
  net.foldl (fun n p => n + p.2.coming.length + p.2.waiting.length + (if p.2.owner.isSome then 1 else 0)) 0

/-- R213, R215, R218: everything due at the arbiters up to an instant happens. A request passes at most 19 arbiters, and another revokes it
at each at most once. -/
def State.runLining (s : State) (to_ : Nat) : State :=
  let n := netLoad s.arbiters + 1
  { s with arbiters := runNet to_ (80 * n * n) (s.arbiters.foldl (fun c p => Nat.max c p.2.now) 0) s.arbiters }

/-- R302: the burst slots in 1 µs that a move's SHARE gives its copies at the source channel's queue: a burst takes 1.6 ns (R258). -/
def State.copyShare (s : State) (b : Bid) (site : Nat) : Nat :=
  if b.sender = .gusset && site / 2 ^ 12 = 2 then
    (match s.moves.find? (fun m => m.src = site % 2 ^ 10) with | some m => 625 * m.share / 100 | none => 0)
  else 0

/-- The request that a message makes at the first arbiter on its way. -/
def State.request (s : State) (b : Bid) (h : Hop) (rest : List Hop) : ArbReq :=
  { id := b.id, input := h.input, port := h.port, dl := s.tick.deadline b.sender b.instant,
    beats := (b.bytes + beatBytes h.site - 1) / beatBytes h.site, lock := b.locked, openRow := b.openRow, arrival := b.instant,
    since := b.instant, firstB := b.instant, beat := beatTime b, ctx := b.ctx, kind := b.kind, src := b.src, dst := b.dst, share := s.copyShare b h.site, next := rest }

/-- R48, R49, R209, R228: a message arrives whole at a site: a dead epoch is discarded and counted; one that is already on its way is at no
second arbiter; otherwise it competes. -/
def State.bid (s : State) (b : Bid) : State :=
  if !s.isReady then s
  else if b.epoch != s.sendEpoch then s.noteStale false b.kind b.epoch
  else
    let s1 := s.runLining b.instant
    if s1.arbiters.any (fun p => p.2.holds b.id) then s1
    else match hopsOf b with
      | [] => s1
      | h :: rest =>
        let a := FMap.getD s1.arbiters h.site Arbiter.idle
        { s1 with arbiters := FMap.set s1.arbiters h.site { a with coming := a.coming ++ [s1.request b h rest] } }.runLining b.instant

/-- The message that brought a request competes first, where one is given (R212). -/
def State.bid? (s : State) : Option Bid → State
  | some b => if b.fits then s.bid b else s
  | none => s

/-- ROUTER_MESSAGE, R209, R212 to R217. -/
def execRouterMessage (b : Bid) (s : State) : Host.Outcome State Fault Refusal :=
  if !b.fits then .fault .noSuchUnit else .next (s.bid b)

/-- R49, R50, R214: at C every message still on its way is dead; instants count anew. -/
def State.endLining (s : State) : State :=
  let s1 := s.runLining (2 * s.tick.periodNs)
  { s1 with arbiters := s1.arbiters.map (fun p => (p.1, { p.2 with coming := [], waiting := [], owner := none, now := 0, delivered := [], window := 0, copied := 0 })) }

end Sys2Proof.Machine
end

