-- ==== Sys2Proof/Machine/CmdDevice.lean ====
section
/-! DEFINITION. The device, tick and power commands (R466 to R469), the program table and class ceiling (R475), and the commands that read
or clear counters (R228, R392, R435, R499 to R501, R285, R286). -/

namespace Sys2Proof.Machine

/-- NOP: it completes OK. -/
def rowNop : CmdRow :=
  { op := 0x00, mgmt := false, stages := false, act := fun r s => s.devCmd r .plain [] (s.done []) }

/-- NOP of Olukor, R465. -/
def execNop (r : CmdReq) (s : State) : Host.Outcome State Fault Refusal := .next (s.perform rowNop r)

/-- R466: "TW-VG2472-30" in ASCII, zero-padded, as four words. -/
def orderingWords : List Nat := [0x562D5754, 0x37343247, 0x30332D32, 0]

/-- R466: the record of the device. -/
def State.devRecord (s : State) : List Byte :=
  recordOf (orderingWords ++
    [0 + 3 * 2 ^ 4 + (if s.thimble.approved then 2 ^ 8 else 0) + (if s.tailor.activeB then 2 ^ 9 else 0),
     (match s.tailor.active with | some o => o.id | none => 0), s.thimble.version, s.board.posId % 16 + s.board.boardId % 16 * 2 ^ 4,
     Config.serial % 2 ^ 32, Config.serial / 2 ^ 32 % 2 ^ 32]) 64

/-- R466: DEV_INFO. -/
def rowDevInfo : CmdRow :=
  { op := 0x01, mgmt := false, stages := false, act := fun r s => s.devCmd r .out [] (s.outRecords r [s.devRecord]) }

/-- DEV_INFO, R466. -/
def execDevInfo (r : CmdReq) (s : State) : Host.Outcome State Fault Refusal := .next (s.perform rowDevInfo r)

/-- R26, R53, R467: TICK_SET. -/
def actTickSet (r : CmdReq) (s : State) : CmdResult :=
  s.devCmd r .plain [(0x08, fld 0 7 + fld 16 9), (0x0C, 2 ^ 32 - 1), (0x10, fld 0 16)] (
    let code := r.f 0x08 0 7
    let g := r.f 0x08 16 9
    let e := r.d 0x0C
    if 124 < code || g < 20 || 400 < g || 500 + 125 * code < 4 * g || e < s.tick.number + 16 then s.fail stBadParam
    else
      let st : TickStage := { at_ := e, period := code, guardUs := g }
      { s with tick := { s.tick with staged := s.tick.staged ++ [st] } }.done [e % 2 ^ 32, e / 2 ^ 32])

/-- Command 0x02. -/
def rowTickSet : CmdRow := { op := 0x02, mgmt := true, stages := false, act := actTickSet }

/-- TICK_SET, R467. -/
def execTickSet (r : CmdReq) (s : State) : Host.Outcome State Fault Refusal := .next (s.perform rowTickSet r)

/-- R468: where FREQn lies: the word and its low bit. -/
def freqField (p : Nat) : Nat × Nat := if p < 4 then (0x10, 8 * p) else (0x14, 8 * (p - 4))

/-- R468: POWER_LIMIT stages the three settings and the clocks FREQ_MASK names. -/
def actPowerLimit (r : CmdReq) (s : State) : CmdResult :=
  s.devCmd r .plain
    [(0x08, fld 0 9 + fld 16 5 + fld 24 7), (0x0C, fld 0 6), (0x10, fld 0 6 + fld 8 6 + fld 16 6 + fld 24 6), (0x14, fld 0 6 + fld 8 6)] (
    let v := r.w 0x08
    let named := (List.range 6).filter (fun p => bit (r.w 0x0C) p)
    let code := fun p => r.f (freqField p).1 (freqField p).2 6
    if !powerCfgOk v || named.any (fun p => 48 < code p) then s.fail stBadParam
    else
      let s1 := (s.setPower v).stage (.power (bits v 0 9) (bits v 16 5) (bits v 24 7))
      (named.foldl (fun (a : State) p => (a.setFreq p (code p)).stage (.freq p (code p))) s1).done [])

/-- Command 0x03. -/
def rowPowerLimit : CmdRow := { op := 0x03, mgmt := true, stages := true, act := actPowerLimit }

/-- POWER_LIMIT, R468. -/
def execPowerLimit (r : CmdReq) (s : State) : Host.Outcome State Fault Refusal := .next (s.perform rowPowerLimit r)

/-- R469: ENERGY_TRACE names the trace's spool, of KIND 5, or stops the trace. -/
def actEnergyTrace (r : CmdReq) (s : State) : CmdResult :=
  s.ctxCmd r .plain [(0x08, fld 0 28)] (fun c _ =>
    if r.w 0x08 = 0 then { s with adm := { s.adm with trace := none } }.done []
    else match s.cmdSpool c (r.w 0x08) with
      | .error e => s.fail e
      | .ok (i, sp) => if sp.kind != 5 then s.fail stBadParam else { s with adm := { s.adm with trace := some i } }.done [])

/-- Command 0x04. -/
def rowEnergyTrace : CmdRow := { op := 0x04, mgmt := true, stages := false, act := actEnergyTrace }

/-- ENERGY_TRACE, R469. -/
def execEnergyTrace (r : CmdReq) (s : State) : Host.Outcome State Fault Refusal := .next (s.perform rowEnergyTrace r)

/-- R85, R469: the five counters. -/
def EnergyCtr.record (e : EnergyCtr) : List Byte :=
  recordOf (([e.admitted, e.leftBudget, e.leftPlace, (roundUnits e.chargedMj).toNat, (roundUnits e.measuredMj).toNat].map
    (fun v => [v % 2 ^ 32, v / 2 ^ 32 % 2 ^ 32])).flatten) 64

/-- R469: ENERGY_READ. -/
def rowEnergyRead : CmdRow :=
  { op := 0x05, mgmt := false, stages := false, act := fun r s => s.ctxCmd r .out [] (fun _ cx => s.outRecords r [cx.energy.record]) }

/-- ENERGY_READ, R469. -/
def execEnergyRead (r : CmdReq) (s : State) : Host.Outcome State Fault Refusal := .next (s.perform rowEnergyRead r)

-- ---------------------------------------------------------------- programs and priority (R58, R59, R475)

/-- R475: CTX_PRIORITY stages the class ceiling. -/
def rowCtxPriority : CmdRow :=
  { op := 0x15, mgmt := true, stages := true,
    act := fun r s => s.ctxCmd r .plain [(0x08, fld 0 3)] (fun c _ => (s.stage (.ceiling c (r.w 0x08))).done []) }

/-- CTX_PRIORITY, R475. -/
def execCtxPriority (r : CmdReq) (s : State) : Host.Outcome State Fault Refusal := .next (s.perform rowCtxPriority r)

/-- The programs of a context as they stand once what is staged becomes current. -/
def State.stagedProgs (s : State) (c : Nat) (cx : Context) : FMap Prog :=
  s.shadow.foldl (fun (m : FMap Prog) e => match e with
    | .prog k id p => if k = c then (match p with | some v => FMap.set m id v | none => FMap.del m id) else m
    | _ => m) cx.progs

/-- R58, R471, R475: PROG_SET. -/
def actProgSet (r : CmdReq) (s : State) : CmdResult :=
  let all := 2 ^ 32 - 1
  let remove := bit (r.w 0x08) 16
  s.ctxCmd r .plain [(0x08, fld 0 17), (0x0C, all), (0x10, all), (0x14, fld 0 10), (0x18, fld 0 16), (0x1C, all)] (fun c cx =>
    let id := r.f 0x08 0 16
    if 0xF000 ≤ id then s.fail stBadParam
    else if remove then (s.stage (.prog c id none)).done []
    else if cx.liveMax < r.w 0x14 then s.fail stBadParam
    else
      let now := s.stagedProgs c cx
      if !FMap.has now id && 4096 ≤ now.length then s.fail stNoRoom
      else
        (s.stage (.prog c id (some { entry := r.d 0x0C, live := r.w 0x14, energyHint := r.w 0x18, cyclesHint := r.w 0x1C }))).done [])

/-- Command 0x16. -/
def rowProgSet : CmdRow := { op := 0x16, mgmt := false, stages := true, act := actProgSet }

/-- PROG_SET, R475. -/
def execProgSet (r : CmdReq) (s : State) : Host.Outcome State Fault Refusal := .next (s.perform rowProgSet r)

-- ---------------------------------------------------------------- the Tape (R390, R392, R499)

/-- R499: TAPE_SET stages the Tape's spool and its map. -/
def actTapeSet (r : CmdReq) (s : State) : CmdResult :=
  s.ctxCmd r .block [(0x08, fld 0 28), (0x0C, fld 0 9)] (fun c _ =>
    let n := r.w 0x0C
    let entries := (List.range n).map (fun i => r.bw (4 * i))
    let pairs := entries.map (fun e => (bits e 0 16, bits e 16 6))
    let spool : Except Nat (Option Nat) :=
      if r.w 0x08 = 0 then .ok none
      else match s.cmdSpool c (r.w 0x08) with
        | .error e => .error e
        | .ok (i, sp) => if sp.kind != 6 then .error stBadParam else .ok (some i)
    match spool with
    | .error e => s.fail e
    | .ok sp =>
      if 256 < n || entries.any (fun e => 2 ^ 22 ≤ e) || pairs.any (fun p => 59 < p.2) || (dedup (pairs.map Prod.fst)).length != n then
        s.fail stBadParam
      else (s.stage (.tape c sp pairs)).done [])

/-- Command 0xC0. -/
def rowTapeSet : CmdRow := { op := 0xC0, mgmt := false, stages := true, act := actTapeSet }

/-- TAPE_SET, R499. -/
def execTapeSet (r : CmdReq) (s : State) : Host.Outcome State Fault Refusal := .next (s.perform rowTapeSet r)

/-- Puts a total in its place by tag, then needle. -/
def insertTotal (t : TapeTotal) : List TapeTotal → List TapeTotal
  | [] => [t]
  | x :: l => if x.tag < t.tag || (x.tag = t.tag && x.needle ≤ t.needle) then x :: insertTotal t l else t :: x :: l

/-- R499: the record of a pair of tag and needle. -/
def TapeTotal.record (t : TapeTotal) (step : Nat) : List Byte :=
  recordOf [t.tag + t.needle % 48 * 2 ^ 6 + t.needle / 48 * 2 ^ 12, step,
    Nat.min 65535 t.stitches + Nat.min 65535 t.dropped * 2 ^ 16, t.cycles % 2 ^ 32, t.cycles / 2 ^ 32 % 2 ^ 32,
    Nat.min (2 ^ 32 - 1) t.waitNs] 32

/-- R391: the last step number a context opened. -/
def Train.lastStep (t : Train) : Nat := match t.last with | some (n, _, _) => n | none => 0

/-- R499: TAPE_READ. -/
def rowTapeRead : CmdRow :=
  { op := 0xC1, mgmt := false, stages := false,
    act := fun r s => s.ctxCmd r .out [] (fun _ cx =>
      let l := (cx.train.totals.filter (fun t => 0 < t.stitches)).foldl (fun a t => insertTotal t a) []
      s.outRecords r (l.map (fun t => t.record cx.train.lastStep))) }

/-- TAPE_READ, R499. -/
def execTapeRead (r : CmdReq) (s : State) : Host.Outcome State Fault Refusal := .next (s.perform rowTapeRead r)

-- ---------------------------------------------------------------- arbiters' counters (R228, R229, R500)

/-- R204, R206, R207, R229: whether a router has an output port of its own: a port across a seam is a seam link's site. -/
def routerHasPort (r port : Nat) : Bool :=
  let x := r % 12
  let y := r / 12
  match port with
  | 0 => x < 11 && (seamAt r 0).isNone
  | 1 => 0 < x && (seamAt r 1).isNone
  | 2 => y < 7 && (seamAt r 2).isNone
  | 3 => 0 < y && (seamAt r 3).isNone
  | 4 => true
  | _ => x = 0 || x = 11 || y = 0 || y = 7

/-- R229: the sites of the device, rising. -/
def allSites : List Nat :=
  (List.range 96).flatMap (fun r => ((List.range 6).filter (routerHasPort r)).flatMap (fun p => [r * 16 + p * 2, r * 16 + p * 2 + 1])) ++
  (List.range 224).map (fun i => 0x1000 + i) ++ (List.range 768).map (fun i => 0x2000 + i) ++ (List.range 20).map (fun i => 0x3000 + i) ++
  (List.range 4).map (fun i => 0x4000 + i) ++ (List.range 2).map (fun i => 0x5000 + i)

/-- R229: how many inputs a site has. -/
def siteInputs (site : Nat) : Nat :=
  match site / 2 ^ 12 with
  | 0 => 6 | 1 => 6 | 2 => 6 | 3 => 4 | 4 => 2 | _ => 2

/-- R228: the record of one input of a site. -/
def ArbCtr.record (c : ArbCtr) (site input : Nat) : List Byte :=
  recordOf [site + input * 2 ^ 16, c.grants % 2 ^ 32, c.grants / 2 ^ 32 + c.revokes * 2 ^ 16, c.waits, c.waitNs % 2 ^ 32,
            c.waitNs / 2 ^ 32, c.maxWait, c.late + c.locked * 2 ^ 16] 32

/-- R500: ARB_COUNTERS; CLEAR clears the counters it reported. -/
def actArbCounters (r : CmdReq) (s : State) : CmdResult :=
  s.devCmd r .out [(0x08, fld 0 18)] (
    let all := bit (r.w 0x08) 16
    let site := r.f 0x08 0 16
    let sites := if all then allSites else [site]
    if !all && !allSites.contains site then s.fail stBadParam
    else
      let ctr := fun st i => (FMap.getD s.arbiters st Arbiter.idle).ctr i
      let recs := sites.flatMap (fun st => (List.range (siteInputs st)).map (fun i => (st, i)))
      let (s1, res) := s.outRecords r (recs.map (fun p => (ctr p.1 p.2).record p.1 p.2))
      let written := match res with | some (_, n :: _) => recs.take n | _ => []
      let s2 := if bit (r.w 0x08) 17 then
          written.foldl (fun (a : State) p => { a with arbiters := FMap.modify a.arbiters p.1 (fun b =>
            { b with counters := FMap.del b.counters p.2 }) }) s1
        else s1
      (s2, res))

/-- Command 0xC2. -/
def rowArbCounters : CmdRow := { op := 0xC2, mgmt := true, stages := false, act := actArbCounters }

/-- ARB_COUNTERS, R500. -/
def execArbCounters (r : CmdReq) (s : State) : Host.Outcome State Fault Refusal := .next (s.perform rowArbCounters r)

-- ---------------------------------------------------------------- links (R435)

/-- R435: the record of a link. -/
def Link.record (l : Link) (i : Nat) : List Byte :=
  recordOf [i + l.state.code * 2 ^ 5 + l.farPos % 16 * 2 ^ 8 + l.farBoard % 16 * 2 ^ 12 + l.farLink % 32 * 2 ^ 16 +
              (match l.spareFor with | some n => n % 16 | none => 15) * 2 ^ 21 + l.cause % 8 * 2 ^ 25,
            Nat.min (2 ^ 32 - 1) l.replayed, Nat.min (2 ^ 32 - 1) l.fecCorr, Nat.min 65535 l.uncorr + Nat.min 65535 l.tagFail * 2 ^ 16,
            l.latency % 1024 + Nat.min 3 l.missed * 2 ^ 10, l.recals % 2 ^ 32, Nat.min (2 ^ 32 - 1) l.stale, 0] 32

/-- R497: LINK_STATUS writes the 20 records in link order. -/
def rowLinkStatus : CmdRow :=
  { op := 0xA5, mgmt := true, stages := false,
    act := fun r s => s.devCmd r .out [] (s.outRecords r ((List.range 20).map (fun i => (s.link i).record i))) }

/-- LINK_STATUS, R497. -/
def execLinkStatus (r : CmdReq) (s : State) : Host.Outcome State Fault Refusal := .next (s.perform rowLinkStatus r)

-- ---------------------------------------------------------------- repair access that reads (R284 to R286, R501)

/-- R286: an optional pin with its valid bit, and a spare lane's pin. -/
def pinField (p : Option Nat) : Nat := match p with | some v => v + 2 ^ 7 | none => 0
def lanePin (p : Option Nat) : Nat := match p with | some v => v | none => 0x7F

/-- R286: the record of a channel. -/
def State.chanRecord (s : State) (ch : Nat) : List Byte :=
  let c := s.channel ch
  let k := s.controller (ch / 32)
  let free := (if c.spare0.isNone then 1 else 0) + (if c.spare1.isNone then 1 else 0)
  -- the three dies of the channel's group of eight (R16)
  let temp := (List.range 3).foldl (fun (a : Nat) d =>
    match FMap.get? k.dies (3 * (ch % 32 / 8) + d) with | some x => Nat.max a x.tempC | none => a) 0
  let keep := (k.lines.filter (fun p => p.1 / 2 ^ 26 = ch && p.2.keep)).length
  recordOf [ch + c.state.code * 2 ^ 10 + free * 2 ^ 14 + c.erased.length % 4 * 2 ^ 16 + c.corrLimit % 8 * 2 ^ 18 +
              (if c.moveWanted then 2 ^ 21 else 0),
            pinField c.erased[0]? + pinField c.erased[1]? * 2 ^ 8 + lanePin c.spare0 * 2 ^ 16 + lanePin c.spare1 * 2 ^ 24,
            Nat.min 255 c.hpprFree + c.sppr.length % 256 * 2 ^ 8 + temp % 256 * 2 ^ 16, c.ceTotal, c.ueTotal, c.poison.length,
            keep % 2 ^ 16 + c.keepDenied * 2 ^ 16, 0] 32

/-- R501: MEM_STATUS. -/
def rowMemStatus : CmdRow :=
  { op := 0xD0, mgmt := true, stages := false,
    act := fun r s => s.devCmd r .out [(0x08, fld 0 21)] (
      let first := r.f 0x08 0 10
      let n := r.f 0x08 10 11
      if n = 0 || 768 < n || 768 < first + n then s.fail stBadParam
      else s.outRecords r ((List.range n).map (fun i => s.chanRecord (first + i)))) }

/-- MEM_STATUS, R501. -/
def execMemStatus (r : CmdReq) (s : State) : Host.Outcome State Fault Refusal := .next (s.perform rowMemStatus r)

/-- R285: a log record's bytes. -/
def LogRec.bytes (l : LogRec) (lost : Nat) : List Byte :=
  let v := Config.burstPlace l.channel l.burst
  let pin := fun i => pinField l.pins[i]?
  recordOf [l.tick % 2 ^ 32,
            l.tick / 2 ^ 32 % 2 ^ 16 + l.kind * 2 ^ 16 + l.source * 2 ^ 20 + (if l.erasedUsed then 2 ^ 23 else 0) + Nat.min 7 l.symbols * 2 ^ 24,
            l.channel + (3 * (l.channel % 32 / 8) + v % 3) * 2 ^ 10 + v / 4 % 64 * 2 ^ 14,
            v / 256 % 2 ^ 18 + v / 2 ^ 26 % 64 * 2 ^ 18,
            pin 0 + pin 1 * 2 ^ 8 + pin 2 * 2 ^ 16 + pin 3 * 2 ^ 24, l.ctx, l.ceTotal, lost] 32

/-- R285, R501: MEM_LOG_READ writes and removes records, oldest first; only those written are removed. -/
def actMemLogRead (r : CmdReq) (s : State) : CmdResult :=
  s.devCmd r .out [(0x08, fld 0 5)] (
    let k := r.w 0x08
    if 24 ≤ k then s.fail stBadParam
    else
      let c := s.controller k
      let (s1, res) := s.outRecords r (c.log.map (fun l => l.bytes c.lost))
      let n := match res with | some (_, n :: _) => n | _ => 0
      (s1.setController k { c with log := c.log.drop n, lost := if n = 0 then c.lost else 0 }, res))

/-- Command 0xD1. -/
def rowMemLogRead : CmdRow := { op := 0xD1, mgmt := true, stages := false, act := actMemLogRead }

/-- MEM_LOG_READ, R501. -/
def execMemLogRead (r : CmdReq) (s : State) : Host.Outcome State Fault Refusal := .next (s.perform rowMemLogRead r)

/-- R273, R501: MEM_SCRUB sets the pass period. -/
def rowMemScrub : CmdRow :=
  { op := 0xD2, mgmt := true, stages := false,
    act := fun r s => s.devCmd r .plain [(0x08, fld 0 8)] (
      let h := r.w 0x08
      if h = 0 || 168 < h then s.fail stBadParam else { s with scrubHours := h }.done []) }

/-- MEM_SCRUB, R501. -/
def execMemScrub (r : CmdReq) (s : State) : Host.Outcome State Fault Refusal := .next (s.perform rowMemScrub r)

/-- R490: RISK_SET stages the thresholds and the host's hint. -/
def rowRiskSet : CmdRow :=
  { op := 0x82, mgmt := false, stages := true,
    act := fun r s => s.ctxCmd r .plain [(0x08, fld 0 10 + fld 16 10), (0x0C, fld 0 10 + fld 31 1)] (fun c _ =>
      let high := r.f 0x08 0 10
      let low := r.f 0x08 16 10
      if high ≤ low then s.fail stBadParam
      else (s.stage (.risk c high low (if bit (r.w 0x0C) 31 then some (r.f 0x0C 0 10) else none))).done []) }

/-- RISK_SET, R490. -/
def execRiskSet (r : CmdReq) (s : State) : Host.Outcome State Fault Refusal := .next (s.perform rowRiskSet r)

end Sys2Proof.Machine
end

