-- ==== Sys2Proof/Machine/CmdKnots.lean ====
section
/-! DEFINITION. The host's knot commands (R231, R233, R242, R409, R492, R493). -/

namespace Sys2Proof.Machine

/-- R230: the type code. -/
def KnotState.code : KnotState → Nat
  | .counter _ => 0 | .barrier _ _ _ => 1 | .event _ => 2

/-- R230, R492: the state that TYPE and the state fields give; none for a type or a TARGET that is not valid. A barrier starts with
nobody arrived, at the phase given. -/
def knotStateOf (ty lo hi phase : Nat) : Option KnotState :=
  match ty with
  | 0 => some (.counter (BitVec.ofNat 48 (lo + hi % 2 ^ 16 * 2 ^ 32)))
  | 1 => if hi / 2 ^ 16 = 0 then none else some (.barrier (hi / 2 ^ 16) 0 phase)
  | 2 => some (.event (lo % 2 = 1))
  | _ => none

/-- R492: KNOT_OPEN. -/
def actKnotOpen (r : CmdReq) (s : State) : CmdResult :=
  s.ctxCmd r .plain [(0x08, fld 0 3), (0x0C, 2 ^ 32 - 1), (0x10, 2 ^ 32 - 1)] (fun c cx =>
    let gk := bit (r.w 0x08) 2
    match knotStateOf (r.f 0x08 0 2) (r.w 0x0C) (r.w 0x10) 0 with
    | none => s.fail stBadParam
    | some st =>
      if gk && cx.garment.isNone then s.fail stBadParam
      else match s.allocIndex 3 (fun i => FMap.has s.knots i) 0 Config.knots with
        | none => s.fail stNoRoom
        | some i =>
          let k : Knot := { gen := s.knotGen i, owner := c, gknot := gk, state := st, changes := 0, signallers := [], arrivals := [] }
          { s with knots := FMap.set s.knots i k }.done [knotHandle k.gen i])

/-- Command 0x90. -/
def rowKnotOpen : CmdRow := { op := 0x90, mgmt := false, stages := false, act := actKnotOpen }

/-- KNOT_OPEN, R492. -/
def execKnotOpen (r : CmdReq) (s : State) : Host.Outcome State Fault Refusal := .next (s.perform rowKnotOpen r)

/-- R409: whether a running turn names a knot as its READY_KNOT on this device. -/
def State.turnKnot (s : State) (c i : Nat) : Bool :=
  s.turns.any (fun t => (t.srcCtx = c || t.genCtx = c || s.sameGarment t.genCtx c) && t.readyKnot % 2 ^ 14 = i)

/-- R242, R492: KNOT_SET: it overwrites the state, counts once where it alters it, and is no signaller. -/
def actKnotSet (r : CmdReq) (s : State) : CmdResult :=
  s.ctxCmd r .plain [(0x08, fld 0 22), (0x0C, 2 ^ 32 - 1), (0x10, 2 ^ 32 - 1)] (fun c _ =>
    match s.cmdKnot c (r.w 0x08) with
    | .error e => s.fail e
    | .ok (i, k) =>
      match knotStateOf k.state.code (r.w 0x0C) (r.w 0x10) (r.w 0x0C % 2 ^ 16) with
      | none => s.fail stBadParam
      | some st =>
        if s.turnKnot c i then s.fail stBusy
        else
          let k1 : Knot := { k with state := st, arrivals := [], changes := if st = k.state then k.changes else satAdd (2 ^ 32 - 1) k.changes 1 }
          { s with knots := FMap.set s.knots i k1 }.done [])

/-- Command 0x91. -/
def rowKnotSet : CmdRow := { op := 0x91, mgmt := false, stages := false, act := actKnotSet }

/-- KNOT_SET, R492. -/
def execKnotSet (r : CmdReq) (s : State) : Host.Outcome State Fault Refusal := .next (s.perform rowKnotSet r)

/-- R233: the record of a knot. -/
def State.knotRecord (s : State) (i : Nat) (k : Knot) : List Byte :=
  let lo := k.state.word % 2 ^ 32
  let hi := match k.state with
    | .counter v => v.toNat / 2 ^ 32
    | .barrier t _ _ => t * 2 ^ 16
    | .event _ => 0
  let waiters := (s.needles.filter (fun p => match p.2.kwait with | some w => w.knot % 2 ^ 14 = i && w.met.isNone | none => false)).length
  let g := match s.ctx? k.owner with | some cx => (if k.gknot then cx.garment.getD 0 else 0) | none => 0
  recordOf [knotHandle k.gen i + k.state.code * 2 ^ 22 + (if k.gknot then 2 ^ 24 else 0), s.ctxHandleOf k.owner, g, lo, hi, waiters,
            k.changes, 0] 32

/-- R492: KNOT_READ. -/
def actKnotRead (r : CmdReq) (s : State) : CmdResult :=
  s.ctxCmd r .out [(0x08, fld 0 22)] (fun c _ =>
    match s.cmdKnot c (r.w 0x08) with
    | .error e => s.fail e
    | .ok (i, k) => s.outRecords r [s.knotRecord i k])

/-- Command 0x92. -/
def rowKnotRead : CmdRow := { op := 0x92, mgmt := false, stages := false, act := actKnotRead }

/-- KNOT_READ, R492. -/
def execKnotRead (r : CmdReq) (s : State) : Host.Outcome State Fault Refusal := .next (s.perform rowKnotRead r)

/-- R231, R255: closes a knot: its index waits to be used again. -/
def State.closeKnot (s : State) (i : Nat) : State :=
  { (s.retireIndex 3 i) with knots := FMap.del s.knots i }

/-- R492: KNOT_CLOSE. -/
def actKnotClose (r : CmdReq) (s : State) : CmdResult :=
  s.ctxCmd r .plain [(0x08, fld 0 22)] (fun c _ =>
    match s.cmdKnot c (r.w 0x08) with
    | .error e => s.fail e
    | .ok (i, _) => if s.turnKnot c i then s.fail stBusy else (s.closeKnot i).done [])

/-- Command 0x93. -/
def rowKnotClose : CmdRow := { op := 0x93, mgmt := false, stages := false, act := actKnotClose }

/-- KNOT_CLOSE, R492. -/
def execKnotClose (r : CmdReq) (s : State) : Host.Outcome State Fault Refusal := .next (s.perform rowKnotClose r)

/-- R493: the records of a cycle, one for each of its edges. -/
def State.cycleRecords (s : State) (k : KnotCycle) : List (List Byte) :=
  k.edges.zipIdx.map (fun (e : WaitEdge × Nat) =>
    recordOf [k.id, k.edges.length + e.2 * 2 ^ 4 + (if k.remote then 2 ^ 8 else 0) + (if k.trunc then 2 ^ 9 else 0) +
                (if k.reported then 2 ^ 10 else 0),
              s.ctxHandleOf e.1.ctx, e.1.program, e.1.knot, (k.last + 1 - k.seen) % 2 ^ 32, 0, 0] 32)

/-- Puts a cycle in its place by CYCLE_ID. -/
def insertCycle (k : KnotCycle) : List KnotCycle → List KnotCycle
  | [] => [k]
  | x :: t => if x.id ≤ k.id then x :: insertCycle k t else k :: x :: t

/-- R493: KNOT_CYCLES: the cycles found at the last commit, in ascending CYCLE_ID. -/
def actKnotCycles (r : CmdReq) (s : State) : CmdResult :=
  s.devCmd r .out [] (
    let l := s.cycles.foldl (fun a k => insertCycle k a) []
    s.outRecords r (l.map (fun k => s.cycleRecords k)).flatten)

/-- Command 0x94. -/
def rowKnotCycles : CmdRow := { op := 0x94, mgmt := true, stages := false, act := actKnotCycles }

/-- KNOT_CYCLES, R493. -/
def execKnotCycles (r : CmdReq) (s : State) : Host.Outcome State Fault Refusal := .next (s.perform rowKnotCycles r)

end Sys2Proof.Machine
end

