-- ==== Sys2Proof/Machine/Keys.lean ====
section
/-! DEFINITION. The checks of signed objects by the Thimble (R578, R583, R584) and the digests (R314, R528): the algorithms are named by the
manual and not given (assumption 8). -/

namespace Sys2Proof.Machine

/-- What a signature is over (R584). -/
inductive Signed where
  | image
  /-- Patch overlays and Thimble firmware. -/
  | firmware
  /-- The key record that fills slot 16. -/
  | rootRecord
  /-- Every other key record, and mode records. -/
  | record
  /-- Substitution authorisations. -/
  | auth
  deriving DecidableEq, Repr

/-- R583, R584: whether a slot's key covers an object. -/
def Signed.slotOk (o : Signed) (slot : Nat) (k : KeySlot) : Bool :=
  match o with
  | .image => (2 ≤ slot && slot ≤ 15) || (17 ≤ slot && bit k.purpose 0)
  | .firmware => slot = 0
  | .rootRecord => slot = 1
  | .record => slot = 16
  | .auth => 17 ≤ slot && bit k.purpose 1

/-- R578, R583: the status of a signature check: OK, BAD_DIGEST, or NOT_APPROVED for a TEST slot in approved mode. -/
def Thimble.check (t : Thimble) (o : Signed) (slot alg : Nat) (bytes : List Byte) : Nat :=
  match FMap.get? t.slots slot with
  | none => stBadDigest
  | some k =>
    if !o.slotOk slot k || k.alg != alg || !Config.signatureOk k.key bytes then stBadDigest
    else if t.approved && k.test then stNotApproved
    else stOk

/-- R568: whether the Thimble restarts. -/
def State.thimbleBusy (s : State) : Bool := s.thimble.restarting.isSome

/-- SHA-256 of bytes, as a number. -/
def sha256 (bs : List Byte) : Nat := Config.digest bs % 2 ^ 256

/-- R594, R318: bytes of a signature under an algorithm. -/
def sigLen (alg : Nat) : Nat := if alg = 0 then 4627 else 96

/-- A word of a list of bytes. -/
def word32 (bs : List Byte) (off : Nat) : Nat := leNat (slice bs off 4)

end Sys2Proof.Machine
end

