-- ==== Sys2Proof/Machine/MemEvents.lean ====
section
/-! DEFINITION. The events of the memory controllers (R260, R266 to R274, R280, R300, R301, R304): reads, writes, scrubbing, erased
pins, Pincushion errors, the copy of a channel move and the end of a retraining. -/

namespace Sys2Proof.Machine

/-- R276: whether the Pincushion holds a line and may serve it. -/
def State.lineHit (s : State) (ch b : Nat) : Bool :=
  let k := s.controller (ch / 32)
  FMap.has k.lines (lineKey ch b) && !k.bankFenced.contains (ch % 32 / 2) && (s.channel ch).state != .moving

/-- R266: serves a read: from the Pincushion, or from the stack by its decode result. The second component says that poison is passed on. -/
def State.serveRead (s : State) (ch b source hint : Nat) (errs : List (Nat × Nat)) (owner : Option Nat) : State × Bool :=
  if s.lineHit ch b && !(s.channel ch).isBad b then (s.touchLine ch b hint owner false true, false)
  else
    let h := match owner with | some c => (match s.ctx? c with | some _ => s.ctxHandleOf c | none => 0) | none => 0
    let (s1, bad) := s.readBurst ch b source errs h
    (if bad then s1 else s1.touchLine ch b hint owner false true, bad)

/-- MEMORY_READ_REQUEST, R263, R266, R268. Where the stack returned another burst than the one asked for, the address symbols are off by the
two indices' difference. `area` names the Olukor area, chunk and copy that the burst holds, where it holds one. -/
def execMemoryReadRequest (chan burst source hint : Nat) (errs : BurstErrs) (owner : Option Nat)
    (area : Option (Nat × Nat × Nat)) (bid : Option Bid) (s : State) : Host.Outcome State Fault Refusal :=
  if 768 ≤ chan then .fault .noSuchUnit
  else
    let all := errs.symbols ++ (match errs.wrong with | some w => addressErrs burst w | none => [])
    let (s1, bad) := (s.bid? bid).serveRead chan burst (source % 8) hint all owner
    match area, bad with
    | some (c, k, copy_), true => .next (s1.loseArea c k copy_ chan)
    | _, _ => .next s1

/-- R260: a slot in use, of a needle's engine, completes with POISONED. -/
def State.poisonSlot (s : State) (n eng i : Nat) : State :=
  let nd := s.needle n
  match FMap.get? (nd.slots eng) i with
  | none => s
  | some d => s.setNeedle n (nd.setSlots eng (FMap.set (nd.slots eng) i { d with done := true, status := stPoisoned }))

/-- MEMORY_WRITE_REQUEST, R260, R267: a partial write reads and decodes the burst first, and is not applied to a burst found uncorrectable
or poisoned: the stitch that issued it is dropped with WITHDRAWN, and the DMA slot whose write it was completes with POISONED. -/
def execMemoryWriteRequest (chan burst hint : Nat) (bytes : List (Nat × BitVec 8)) (errs : List (Nat × Nat)) (owner : Option Nat)
    (issuer : WriteIssuer) (bid : Option Bid) (s : State) : Host.Outcome State Fault Refusal :=
  if 768 ≤ chan then .fault .noSuchUnit
  else
    let s1 := s.bid? bid
    let ws := bytes.filter (fun w => decide (w.1 < 64))
    let full := (List.range 64).all (fun i => ws.any (fun w => w.1 = i))
    let (s2, bad) := if full || (s1.lineHit chan burst && !(s1.channel chan).isBad burst) then (s1, false)
      else s1.readBurst chan burst 1 errs (match owner with | some c => s1.ctxHandleOf c | none => 0)
    let (s3, refused) := if bad then (s2, true) else s2.writeBurst chan burst ws
    let s4 := if refused then s3 else s3.touchLine chan burst hint owner true full
    if !refused then .next s4
    else
      let s5 := match issuer.stitch with | some id => s4.withdrawById id | none => s4
      .next (match issuer.slot with | some (n, eng, i) => s5.poisonSlot n eng i | none => s5)

/-- Bursts of a channel. -/
def channelBursts : Nat := 35156250

/-- SCRUB_READ, R273: the next burst of the pass is read and handled by R266; listed bursts are skipped. A gusset's burst takes the test pattern,
whose bytes the manual does not give, and is read back; a pass that reads every burst as good makes the gusset the most recently tested. -/
def execScrubRead (chan : Nat) (errs : List (Nat × Nat)) (s : State) : Host.Outcome State Fault Refusal :=
  if 768 ≤ chan then .fault .noSuchUnit
  else
    let c := s.channel chan
    match c.state with
    | .gusset =>
      let b := c.scrubAt
      let s1 := (s.writeBurst chan b ((freeBytes s.freeCtr 64).mapIdx (fun i x => (i, x)))).1
      let (s2, bad) := { s1 with freeCtr := s1.freeCtr + 64 }.readBurst chan b 2 errs 0
      let k := s2.channel chan
      .next (s2.setChannel chan { k with
        scrubAt := (b + 1) % channelBursts
        testBad := (if b = 0 then false else k.testBad) || bad
        tested := if b + 1 = channelBursts && !(k.testBad || bad) then s.now else k.tested })
    | .online | .degraded | .moving =>
      let b := c.scrubAt
      let s1 := if c.poison.contains b then s else (s.readBurst chan b 2 errs 0).1
      .next (s1.setChannel chan { (s1.channel chan) with scrubAt := (b + 1) % channelBursts })
    | _ => .next s

/-- R269: how many of the last 64 corrected bursts had the pin in error. -/
def Channel.pinCount (c : Channel) (pin : Nat) : Nat := (c.pinSets.filter (fun l => l.contains pin)).length

/-- R270: sets MOVE_WANTED. -/
def Channel.wantMove (c : Channel) (tick : Nat) : Channel :=
  { c with moveWanted := true, wantedAt := c.wantedAt.orElse (fun _ => some tick) }

/-- PIN_ERASE, R269, R270: a pin in error in 16 of the last 64 corrected bursts is erased; a third pin sets MOVE_WANTED only, with its record
whether MOVE_WANTED was set or not. -/
def execPinErase (chan pin : Nat) (s : State) : Host.Outcome State Fault Refusal :=
  if 768 ≤ chan || 72 ≤ pin then .fault .noSuchUnit
  else
    let c := s.channel chan
    if c.pinCount pin < 16 || c.erased.contains pin then .next s
    else if c.erased.length < 2 then
      let c1 := c.wantMove s.now
      let s1 := (s.setChannel chan { c1 with
        erased := c.erased ++ [pin]
        state := if c.state = .online then .degraded else c.state }).logRecord (s.mkLog 3 0 chan 0 false 0 [pin] 0)
      .next (if c.erased.length = 1 then s1.lowerLimit chan 0 0 else s1)
    else .next ((s.setChannel chan (c.wantMove s.now)).logRecord (s.mkLog 3 0 chan 0 false 0 [pin] 0))

/-- Ticks of a list that lie within the last 1,000 (R542). -/
def recentTicks (now : Nat) (l : List Nat) : List Nat := l.filter (fun t => decide (now < t + 1000))

/-- PINCUSHION_LINE_UE, R280: a clean line is dropped; a dirty one's burst is poisoned and its owner told. The error counts toward the
bank's fence (R542). -/
def execPincushionLineUe (chan burst : Nat) (s : State) : Host.Outcome State Fault Refusal :=
  if 768 ≤ chan then .fault .noSuchUnit
  else
    let k := s.controller (chan / 32)
    match FMap.get? k.lines (lineKey chan burst) with
    | none => .next s
    | some l =>
      let bank := chan % 32 / 2
      let k1 : Controller :=
        { k with
          lines := FMap.del k.lines (lineKey chan burst)
          bankErrors := FMap.set k.bankErrors bank (s.now :: recentTicks s.now (FMap.getD k.bankErrors bank [])) }
      let s1 := (s.setController (chan / 32) k1).logRecord (s.mkLog 6 4 chan burst false 0 [] 0)
      .next (if l.dirty then (s1.poisonBurst chan burst).tellOwner chan burst 4 else s1)

/-- How many Pincushion banks are fenced. -/
def State.fencedBanks (s : State) : Nat := (s.controllers.map (fun p => p.2.bankFenced.length)).foldl (· + ·) 0

/-- PINCUSHION_BANK_FENCE, R280, R542, R544: a bank that reached four uncorrectable line errors or two residue mismatches within 1,000
ticks, or whose tag array has a parity error, is fenced: its dirty lines are written back and dropped. -/
def execPincushionBankFence (stk bank : Nat) (tagParity : Bool) (users : List Nat) (s : State) : Host.Outcome State Fault Refusal :=
  if 24 ≤ stk || 16 ≤ bank then .fault .noSuchUnit
  else
    let k := s.controller stk
    let now := s.now
    let due := tagParity || decide (4 ≤ (recentTicks now (FMap.getD k.bankErrors bank [])).length) ||
      decide (2 ≤ (recentTicks now (FMap.getD k.bankResidue bank [])).length)
    if !due || k.bankFenced.contains bank then .next s
    else
      let used : Nat → RunStitch → Bool := fun _ r => users.contains r.st.id
      let ctxs := s.usersOf used
      let k1 := { k.dropLines (fun key _ => key / 2 ^ 26 / 2 = 16 * stk + bank) with bankFenced := k.bankFenced ++ [bank] }
      let s1 := (s.withdrawWhere used).setController stk k1
      .next (s1.evFence 3 (if tagParity then 0 else 1) false (stk + bank * 2 ^ 8) ctxs s1.fencedBanks)

-- ---------------------------------------------------------------- the channel move (R300, R301, R304)

/-- Applies `f` to the move of a source channel. -/
def State.modMove (s : State) (src : Nat) (f : Move → Move) : State :=
  { s with moves := s.moves.map (fun m => if m.src = src then f m else m) }

/-- CHANNEL_COPY_UNIT_ACK, R301, R304: a 1 KiB unit of the chunk in hand is acknowledged: its 16 bursts stand at the destination with their
poison marks. A burst that the copy's read finds uncorrectable goes on as poison. A destination write that fails abandons the move at the
next commit. -/
def execChannelCopyUnitAck (chan unit : Nat) (errs : List (Nat × List (Nat × Nat))) (destFailed : Bool) (s : State) :
    Host.Outcome State Fault Refusal :=
  if 768 ≤ chan || 64 ≤ unit then .fault .noSuchUnit
  else
    match s.moves.find? (fun m => m.src = chan) with
    | none => .next s
    | some m =>
      -- R304: a fenced source is copied no further
      if (s.channel m.src).state = .fenced then .next s
      else if destFailed then .next (s.modMove chan (fun m => { m with failed := true }))
      else match m.copySet.find? (fun k => !m.copied.contains k) with
        | none => .next s
        | some k =>
          if m.units.contains unit then .next s
          else
            let s1 := (List.range 16).foldl (fun (a : State) i =>
              let b := 1024 * k + 16 * unit + i
              let e := (errs.find? (fun p => p.1 = i)).elim [] Prod.snd
              let a1 := (a.readBurst m.src b 6 e 0).1
              a1.copyBurst m.src m.dst b) s
            let full := m.units.length + 1 = 64
            .next (s1.modMove chan (fun m => { m with
              units := if full then [] else m.units ++ [unit]
              copied := if full then m.copied ++ [k] else m.copied }))

/-- CHANNEL_MOVE_DRAIN, R300 step 3: with every chunk copied before the cut-off, the remap is staged. -/
def execChannelMoveDrain (chan : Nat) (s : State) : Host.Outcome State Fault Refusal :=
  if 768 ≤ chan then .fault .noSuchUnit
  else
    .next (s.modMove chan (fun m =>
      if m.copySet.all (fun k => m.copied.contains k) && !s.tick.cutoff && !m.failed then { m with staged := true } else m))

/-- R271: the half a pin lies in. -/
def pinHalf (pin : Nat) : Nat := if pin < 32 || (64 ≤ pin && pin < 68) then 0 else 1

/-- R271: training gives a failing pin its half's spare lane where that lane is free; otherwise the pin starts erased. -/
def Channel.placePin (c : Channel) (pin : Nat) : Channel :=
  if pinHalf pin = 0 && c.spare0.isNone then { c with spare0 := some pin }
  else if pinHalf pin = 1 && c.spare1.isNone then { c with spare1 := some pin }
  else { c with erased := c.erased ++ [pin] }

/-- R264, R270, R271, R272: a channel after a training that found these pins failing: the repair record is applied, so pins that a spare lane
serves stay served and pins found failing before start erased; then each failing pin takes its half's spare lane or starts erased.
CORR_LIMIT is 4, or 2 with two erased pins. -/
def Channel.train (c : Channel) (rec_ : ChanRepair) (failing : List Nat) : Channel :=
  let c1 := { c with
    spare0 := rec_.spare0
    spare1 := rec_.spare1
    erased := rec_.erased
    sppr := rec_.sppr
    moveWanted := false
    wantedAt := none
    pinSets := []
    poison := []
    lost := [] }
  let c2 := ((dedup failing).filter (fun p => decide (p < 72) && rec_.spare0 != some p && rec_.spare1 != some p && !rec_.erased.contains p)).foldl
    Channel.placePin c1
  { c2 with corrLimit := if 2 ≤ c2.erased.length then 2 else 4 }

/-- R272: the repair record of a channel. -/
def State.repairOf (s : State) (ch : Nat) : ChanRepair := FMap.getD s.repair.chans ch ChanRepair.none_

/-- R272: the record of a channel changes. -/
def State.modRepair (s : State) (ch : Nat) (f : ChanRepair → ChanRepair) : State :=
  { s with repair := { s.repair with chans := FMap.modifyD s.repair.chans ch ChanRepair.none_ f } }

/-- R271, R272: a channel is trained by its repair record, which keeps the lanes assigned and the pins found failing. -/
def State.trainChannel (s : State) (ch : Nat) (failing : List Nat) : State :=
  let c := (s.channel ch).train (s.repairOf ch) failing
  (s.setChannel ch c).modRepair ch (fun r => { r with spare0 := c.spare0, spare1 := c.spare1, erased := c.erased })

/-- CHANNEL_RETRAIN_DONE, R271, R300: a repair and retraining ends with the pins found failing and the test's result; the channel becomes
GUSSET or FENCED at the commit. A command that asked for it completes there with the channel's record. -/
def execChannelRetrainDone (chan : Nat) (failing : List Nat) (passed : Bool) (s : State) : Host.Outcome State Fault Refusal :=
  if 768 ≤ chan then .fault .noSuchUnit
  else
    let c := s.channel chan
    if c.state != .training then .next s
    else
      let s1 := s.trainChannel chan failing
      let c1 := s1.channel chan
      .next ((s1.setChannel chan { c1 with trainResult := some (passed && decide (c1.erased.length ≤ 2)) }).logRecord
        (s1.mkLog 7 5 chan 0 false 0 (c1.erased.take 4) 0))

end Sys2Proof.Machine
end

