-- ==== Sys2Proof/Machine/Patterns.lean ====
section
/-! DEFINITION. Patterns and their allocation (R289 to R295), the Hem tier (R307 to R311), segment descriptors as commands write them (R147,
R293, R474), and the commands over them (R476, R477). -/

namespace Sys2Proof.Machine

-- ---------------------------------------------------------------- free runs (R292, R309)

/-- R289: channel chunks of a channel. -/
def channelChunks : Nat := 34332

/-- Whether `n` chunks from `start` on are in none of the runs. -/
def runFree (runs : List ChunkRun) (start n : Nat) : Bool :=
  runs.all (fun r => decide (start + n ≤ r.start) || decide (r.start + r.len ≤ start))

/-- R292: the lowest free run of `n` chunks below `limit`: it starts at 0 or where a run in use ends. -/
def lowestFree (runs : List ChunkRun) (n limit : Nat) : Option Nat :=
  let cands := (0 :: runs.map (fun r => r.start + r.len)).filter (fun st => decide (st + n ≤ limit) && runFree runs st n)
  match cands with
  | [] => none
  | c :: t => some (t.foldl Nat.min c)

/-- R292: chunks each slot receives: the length over the slots, rounded up, doubled for SCRATCH. -/
def perSlot (len m : Nat) (scratch : Bool) : Nat := (len + m - 1) / m * (if scratch then 2 else 1)

/-- R291: whether a channel is eligible for a new Pattern. -/
def Channel.eligible (c : Channel) : Bool := c.state = .online || (c.state = .degraded && !c.moveWanted)

/-- R291: the eligible channels of a scope, by ascending channel within its stack and then ascending stack. -/
def State.scopeChannels (s : State) (stackIds : List Nat) : List Nat :=
  (List.range 32).flatMap (fun i => (stackIds.map (fun k => 32 * k + i)).filter (fun ch => (s.channel ch).eligible))

/-- R291: the channels of a SPREAD that the device fills. -/
def State.spreadChannels (s : State) (spread unit : Nat) : List Nat :=
  if spread = 2 then s.scopeChannels [unit]
  else if spread = 3 then s.scopeChannels ((List.range 4).map (fun i => 4 * unit + i))
  else s.scopeChannels (List.range 24)

/-- R292: the slots that an allocation of `n` chunks on each channel gives; none where a channel has no free run. -/
def State.findSlots (s : State) (n : Nat) : List Nat → Option (List (Nat × Nat))
  | [] => some []
  | ch :: t =>
    match lowestFree (s.channel ch).runs n channelChunks, s.findSlots n t with
    | some b, some l => some ((ch, b) :: l)
    | _, _ => none

/-- R292: takes `n` chunks at a slot and writes them with zeros, which removes their poison marks (R267). -/
def State.takeRun (s : State) (n : Nat) (slot : Nat × Nat) : State :=
  let c := s.channel slot.1
  { s.setChannel slot.1 { c with
      runs := c.runs ++ [{ start := slot.2, len := n }]
      lost := c.lost.filter (fun k => !(decide (slot.2 ≤ k) && decide (k < slot.2 + n)))
      poison := c.poison.filter (fun b => !(decide (1024 * slot.2 ≤ b) && decide (b < 1024 * (slot.2 + n)))) } with
    stack := Mem.clearRange s.stack (slot.1 * 2 ^ 32 + 65536 * slot.2) (65536 * n) }

/-- Frees the run that starts at a slot: its lines go, KEEP ones too (R278); a move's copy set loses its chunks (R301). -/
def State.freeRun (s : State) (slot : Nat × Nat) : State :=
  let c := s.channel slot.1
  match c.runs.find? (fun r => r.start = slot.2) with
  | none => s
  | some run =>
    let gone := fun k => decide (run.start ≤ k) && decide (k < run.start + run.len)
    { (s.dropChunkLines slot.1 run.start run.len).setChannel slot.1 { c with runs := c.runs.filter (fun r => r.start != slot.2) } with
      moves := s.moves.map (fun m => if m.src = slot.1 then
        { m with
          copySet := m.copySet.filter (fun k => !gone k)
          copied := m.copied.filter (fun k => !gone k)
          units := if (m.copySet.find? (fun k => !m.copied.contains k)).any gone then [] else m.units } else m) }

/-- Frees a Pattern's chunks in the stacks. -/
def State.freePattern (s : State) (p : Pattern) : State :=
  if p.residence = 1 then p.slots.foldl (fun (a : State) sl => a.freeRun sl) s else s

/-- R471: stack chunks a Pattern takes. -/
def Pattern.chunks (p : Pattern) : Nat :=
  if p.residence = 1 && p.slots.length != 0 then p.slots.length * perSlot p.len p.slots.length p.scratch else 0

/-- R294, R471: chunks of a context's Patterns, current and staged. -/
def Context.chunksHeld (cx : Context) : Nat :=
  (cx.patterns.map (fun p => p.2.chunks)).foldl (· + ·) 0 + (cx.patternStages.map (fun p => p.2.pat.chunks)).foldl (· + ·) 0

/-- The segments of a context, current and as staged for this commit. -/
def State.segsOf (s : State) (c : Nat) (cx : Context) : List (Nat × Seg) :=
  cx.segs ++ s.shadow.filterMap (fun e => match e with | .seg k i d => if k = c then some (i, d) else none | _ => none)

/-- R309: grant chunks in use: Hem-placed Patterns, HEM segments and pleats of paused requests. -/
def State.grantRuns (s : State) (c : Nat) (cx : Context) (g : Nat) : List ChunkRun :=
  let pats := cx.patterns.map Prod.snd ++ cx.patternStages.map (fun p => p.2.pat)
  (pats.filter (fun p => p.residence = 2 && p.hemGrant = g)).map (fun p =>
    { start := p.hemBase, len := p.len * (if p.scratch then 2 else 1) }) ++
  ((s.segsOf c cx).filter (fun p => p.2.valid && p.2.kind = 4 && p.2.region = g)).map (fun p => { start := p.2.base, len := p.2.length }) ++
  (s.requests.filter (fun p => p.2.ctx = c && p.2.grant = g)).flatMap (fun p => p.2.hemRuns.map (fun r => { start := r.1, len := r.2 }))

-- ---------------------------------------------------------------- PATTERN_SET (R290 to R294, R477)

/-- R303: the channel that a reference names once the remaps of this commit are applied. -/
def State.remapped (s : State) (ch : Nat) : Nat :=
  match s.moves.find? (fun m => m.remapped && m.src = ch) with
  | some m => m.dst
  | none => ch

/-- R290: a Pattern record and its slot entries at an offset of a block: the number and the Pattern, not placed yet, with the channels
EXPLICIT names; none where a field is not valid. -/
def readPattern (r : CmdReq) (off : Nat) : Option (Nat × Pattern × List Nat) :=
  let w0 := r.bw off
  let spread := bits w0 10 2
  let place := bits w0 12 2
  let unit := bits w0 15 5
  let len := r.bw (off + 4)
  let m := bits (r.bw (off + 8)) 0 10
  let entries := if spread = 0 then (List.range m).map (fun i => r.bw (off + 32 + 4 * i)) else []
  let ok := bits w0 30 2 = 0 && r.bw (off + 8) < 2 ^ 12 && (List.range 4).all (fun i => r.bw (off + 16 + 4 * i) = 0) &&
    place != 3 && 0 < len && (match spread with | 2 => decide (unit < 24) | 3 => decide (unit < 6) | _ => unit = 0) &&
    entries.all (fun e => bits e 10 6 = 0)
  if ok then
    some (bits w0 0 10,
      { spread := spread, place := place, scratch := bit w0 14, unit := unit, hemGrant := bits w0 20 10, len := len, residence := 0,
        hemBase := 0, slots := [] },
      entries.map (fun e => bits e 0 10))
  else none

/-- R360: whether a REDUCE step of the context that is OPEN, COMPLETE or SEALED uses a segment that `p` selects. -/
def Context.stepUses (cx : Context) (p : Nat → Bool) : Bool :=
  [cx.train.buf0, cx.train.buf1].any (fun b => match b with
    | some st => (st.state = .open_ || st.state = .complete || st.state = .sealed) && (p st.redSeg || p st.divSeg)
    | none => false)

/-- R291, R292, R309, R471: where a Pattern is placed: its final record; or the status of its refusal. -/
def State.placePattern (s : State) (c : Nat) (cx : Context) (p : Pattern) (named : List Nat) : Except Nat Pattern :=
  let chans := if p.spread = 0 then named.map s.remapped else s.spreadChannels p.spread p.unit
  if p.spread = 0 && (chans.isEmpty || (dedup chans).length != chans.length || chans.any (fun ch => 768 ≤ ch || !(s.channel ch).eligible)) then
    .error stBadParam
  else if p.place != 0 && !FMap.has cx.grants p.hemGrant then .error stBadParam
  else
    let inHem : Except Nat Pattern :=
      match FMap.get? cx.grants p.hemGrant with
      | none => .error stBadParam
      | some g =>
        match lowestFree (s.grantRuns c cx p.hemGrant) (p.len * (if p.scratch then 2 else 1)) g.len with
        | none => .error stNoRoom
        | some b => .ok { p with residence := 2, hemBase := b, slots := [] }
    if p.place = 2 then inHem
    else
      let m := chans.length
      let n := perSlot p.len m p.scratch
      let room := m != 0 && cx.chunksHeld + m * n ≤ cx.quota
      match (if room then s.findSlots n chans else none) with
      | some slots => .ok { p with residence := 1, slots := slots }
      | none => if p.place = 1 then inHem else .error stNoRoom

/-- R294: stages a placed Pattern: in the stacks its chunks are taken and zeroed; in the Hem tier it becomes current at the commit after
this one. -/
def State.stagePattern (s : State) (c num : Nat) (p : Pattern) (cmd : Option Nat) : State :=
  let s1 := if p.residence = 1 then
      p.slots.foldl (fun (a : State) sl => a.takeRun (perSlot p.len p.slots.length p.scratch) sl) s
    else s
  let ready := if p.residence = 2 then some s.tick.number else none
  s1.modCtx c (fun x => { x with patternStages := FMap.set x.patternStages num { pat := p, zeroed := ready, cmd := cmd } })

/-- R477: the refusals of a Pattern number that is busy. -/
def Context.patternBusy (cx : Context) (num : Nat) : Bool :=
  FMap.has cx.patternStages num || cx.state = .quiesced || cx.risk.held ||
  cx.stepUses (fun i => match FMap.get? cx.segs i with | some d => d.kind ≤ 2 && d.region = num | none => false)

/-- R477: PATTERN_SET. -/
def actPatternSet (r : CmdReq) (s : State) : CmdResult :=
  s.ctxCmd r .block [] (fun c cx =>
    match readPattern r 0 with
    | none => s.fail stBadParam
    | some (num, p, named) =>
      if cx.patternBusy num then s.fail stBusy
      else match s.placePattern c cx p named with
        | .error e => s.fail e
        | .ok p1 => (s.stagePattern c num p1 (some r.num)).startedCmd)

/-- Command 0x20. -/
def rowPatternSet : CmdRow := { op := 0x20, mgmt := false, stages := false, act := actPatternSet }

/-- PATTERN_SET, R477. -/
def execPatternSet (r : CmdReq) (s : State) : Host.Outcome State Fault Refusal := .next (s.perform rowPatternSet r)

/-- R40: the tick whose command cut-off comes next. -/
def TickState.nextCut (t : TickState) : Nat := if t.cutoff then t.number + 1 else t.number

/-- PATTERN_ZEROED, R292: the zeroing of a staged Pattern ends: it becomes current at the first commit whose cut-off follows. -/
def execPatternZeroed (ctx num : Nat) (s : State) : Host.Outcome State Fault Refusal :=
  .next (s.modCtx ctx (fun x => { x with patternStages := FMap.modify x.patternStages num (fun g =>
    { g with zeroed := some (g.zeroed.getD s.tick.nextCut) }) }))

/-- R292, R294: step 2 of a commit makes a staged Pattern current: the one it replaces is freed, and its command completes. -/
def State.activatePattern (s : State) (c num : Nat) (g : PatternStage) : State :=
  match s.ctx? c with
  | none => s
  | some cx =>
    let s1 := match FMap.get? cx.patterns num with | some old => s.freePattern old | none => s
    let s2 := s1.modCtx c (fun x => { x with
      patterns := FMap.set x.patterns num g.pat
      patternStages := FMap.del x.patternStages num
      selectors := x.selectors.filter (fun k => k / 2 ^ 32 != num) })
    match g.cmd with
    | none => s2
    | some n => s2.finishCmd n stOk [g.pat.residence, g.pat.slots.length]

/-- R290: the words of a Pattern record as PATTERN_READ returns it. -/
def Pattern.words (p : Pattern) (num : Nat) : List Nat :=
  [num + p.spread * 2 ^ 10 + p.place * 2 ^ 12 + (if p.scratch then 2 ^ 14 else 0) + p.unit * 2 ^ 15 + p.hemGrant * 2 ^ 20, p.len,
   p.slots.length + p.residence * 2 ^ 10, (if p.residence = 2 then p.hemBase else 0), 0, 0, 0, 0] ++
  p.slots.map (fun sl => sl.1 + sl.2 * 2 ^ 16)

/-- R477: PATTERN_READ: the current record and its slot entries, as one record. -/
def rowPatternRead : CmdRow :=
  { op := 0x21, mgmt := false, stages := false,
    act := fun r s => s.ctxCmd r .out [(0x08, fld 0 10)] (fun _ cx =>
      match FMap.get? cx.patterns (r.w 0x08) with
      | none => s.fail stBadParam
      | some p => s.outRecords r [wordsLE (p.words (r.w 0x08))]) }

/-- PATTERN_READ, R477. -/
def execPatternRead (r : CmdReq) (s : State) : Host.Outcome State Fault Refusal := .next (s.perform rowPatternRead r)

/-- Frees a Pattern number, current and staged; a PATTERN_SET that is still zeroing ends with FENCED. -/
def State.dropPattern (s : State) (c num : Nat) : State :=
  match s.ctx? c with
  | none => s
  | some cx =>
    let s1 := match FMap.get? cx.patterns num with | some p => s.freePattern p | none => s
    let s2 := match FMap.get? cx.patternStages num with
      | some g => (match g.cmd with | some n => (s1.freePattern g.pat).finishCmd n stFenced [] | none => s1.freePattern g.pat)
      | none => s1
    s2.modCtx c (fun x => { x with
      patterns := FMap.del x.patterns num
      patternStages := FMap.del x.patternStages num
      selectors := x.selectors.filter (fun k => k / 2 ^ 32 != num) })

/-- R294, R477: PATTERN_CLOSE: BUSY while a current or staged segment names the Pattern, or a turn quiesces the context. -/
def actPatternClose (r : CmdReq) (s : State) : CmdResult :=
  s.ctxCmd r .plain [(0x08, fld 0 10)] (fun c cx =>
    let num := r.w 0x08
    if !FMap.has cx.patterns num && !FMap.has cx.patternStages num then s.fail stBadParam
    else if cx.state = .quiesced || cx.risk.held || (s.segsOf c cx).any (fun p => p.2.valid && p.2.kind ≤ 2 && p.2.region = num) then s.fail stBusy
    else (s.dropPattern c num).done [])

/-- Command 0x22. -/
def rowPatternClose : CmdRow := { op := 0x22, mgmt := false, stages := false, act := actPatternClose }

/-- PATTERN_CLOSE, R477. -/
def execPatternClose (r : CmdReq) (s : State) : Host.Outcome State Fault Refusal := .next (s.perform rowPatternClose r)

-- ---------------------------------------------------------------- the Hem tier (R307, R311, R476)

/-- R307, R476: HEM_GRANT. -/
def actHemGrant (r : CmdReq) (s : State) : CmdResult :=
  let all := 2 ^ 32 - 1
  s.ctxCmd r .plain [(0x08, fld 0 13), (0x0C, all), (0x10, all), (0x14, all)] (fun c cx =>
    let g := r.f 0x08 0 10
    if r.f 0x08 10 2 = 3 || r.d 0x0C % 65536 != 0 || r.w 0x14 = 0 then s.fail stBadParam
    else if FMap.has cx.grants g then s.fail stBusy
    else
      let v : Grant := { port := r.f 0x08 10 2, enc := bit (r.w 0x08) 12, base := r.d 0x0C, len := r.w 0x14 }
      (s.modCtx c (fun x => { x with grants := FMap.set x.grants g v })).done [])

/-- Command 0x17. -/
def rowHemGrant : CmdRow := { op := 0x17, mgmt := true, stages := false, act := actHemGrant }

/-- HEM_GRANT, R476. -/
def execHemGrant (r : CmdReq) (s : State) : Host.Outcome State Fault Refusal := .next (s.perform rowHemGrant r)

/-- R311: HEM_REVOKE: BUSY while a current or staged segment or Pattern names the grant, or it holds paused pleats. -/
def actHemRevoke (r : CmdReq) (s : State) : CmdResult :=
  s.ctxCmd r .plain [(0x08, fld 0 10)] (fun c cx =>
    let g := r.w 0x08
    let pats := cx.patterns.map Prod.snd ++ cx.patternStages.map (fun p => p.2.pat)
    if !FMap.has cx.grants g then s.fail stBadParam
    else if pats.any (fun p => p.place != 0 && p.hemGrant = g) || (s.segsOf c cx).any (fun p => p.2.valid && p.2.kind = 4 && p.2.region = g) ||
        s.requests.any (fun p => p.2.ctx = c && p.2.grant = g && !p.2.hemRuns.isEmpty) then s.fail stBusy
    else (s.modCtx c (fun x => { x with grants := FMap.del x.grants g })).done [])

/-- Command 0x18. -/
def rowHemRevoke : CmdRow := { op := 0x18, mgmt := true, stages := false, act := actHemRevoke }

/-- HEM_REVOKE, R311, R476. -/
def execHemRevoke (r : CmdReq) (s : State) : Host.Outcome State Fault Refusal := .next (s.perform rowHemRevoke r)

-- ---------------------------------------------------------------- segments (R147, R293, R321, R474)

/-- R147: a segment descriptor's words, none where a reserved bit is set. -/
def readSeg (ws : List Nat) : Option Seg :=
  let w := fun i => ws.getD i 0
  if w 0 < 2 ^ 19 && w 1 < 2 ^ 26 && w 3 < 2 ^ 30 && w 4 = 0 && w 5 = 0 && w 6 = 0 && w 7 = 0 then
    some { valid := bit (w 0) 0, kind := bits (w 0) 1 3, r := bit (w 0) 4, w := bit (w 0) 5, x := bit (w 0) 6, hint := bits (w 0) 7 2,
           region := bits (w 0) 9 10, length := w 1, base := w 2, garment := bits (w 3) 0 16, pos := bits (w 3) 16 4,
           board := bits (w 3) 20 4, pseg := bits (w 3) 24 6 }
  else none

/-- R147: the length of the region a descriptor names, and whether it is a SCRATCH Pattern; none where there is no region. -/
def State.regionOf (s : State) (cx : Context) (d : Seg) : Option (Nat × Bool) :=
  match d.kind with
  | 3 => (FMap.get? s.stock d.region).bind (fun k => if k.readable.isSome then some (32 * k.granules, false) else none)
  | 4 => (FMap.get? cx.grants d.region).map (fun g => (g.len, false))
  | _ =>
    match FMap.get? cx.patterns d.region with
    | some p => some (p.len, p.scratch)
    | none => (FMap.get? cx.patternStages d.region).map (fun g => (g.pat.len, g.pat.scratch))

/-- R147, R293, R321: whether a descriptor may be written. One with VALID = 0 is checked as any other, but may have LENGTH 0 (assumption 79). -/
def State.segOk (s : State) (cx : Context) (d : Seg) : Bool :=
  d.kind ≤ 5 && d.hint ≤ 2 && !(d.w && (d.kind = 3 || d.kind = 2)) && !(d.x && d.kind != 2) && (0 < d.length || !d.valid) &&
  (if d.kind = 5 then d.region = 0 && d.base = 0 && d.pos ≤ 8
   else match s.regionOf cx d with
     | none => false
     | some (len, scratch) => decide (d.base + d.length ≤ len) && (d.kind = 3 || d.kind = 4 || scratch = (d.kind = 1)))

/-- R474: CTX_SEGMENT_SET. -/
def actCtxSegmentSet (r : CmdReq) (s : State) : CmdResult :=
  s.ctxCmd r .plain ((0x08, fld 0 6) :: (List.range 8).map (fun i => (0x0C + 4 * i, 2 ^ 32 - 1))) (fun c cx =>
    let i := r.w 0x08
    match readSeg ((List.range 8).map (fun k => r.w (0x0C + 4 * k))) with
    | none => s.fail stBadParam
    | some d =>
      if !s.segOk cx d then s.fail stBadParam
      else if cx.state = .quiesced || cx.risk.held || cx.stepUses (fun k => k = i) then s.fail stBusy
      else if d.valid && s.contexts.any (fun p => p.1 != c && s.sameGarment c p.1 && (s.segsOf p.1 p.2).any (fun q => q.1 = i && q.2.valid)) then
        s.fail stBusy
      else (s.stage (.seg c i d)).done [])

/-- Command 0x14. -/
def rowCtxSegmentSet : CmdRow := { op := 0x14, mgmt := false, stages := true, act := actCtxSegmentSet }

/-- CTX_SEGMENT_SET, R474. -/
def execCtxSegmentSet (r : CmdReq) (s : State) : Host.Outcome State Fault Refusal := .next (s.perform rowCtxSegmentSet r)

end Sys2Proof.Machine
end

