-- ==== Sys2Proof/Machine/Moves.lean ====
section
/-! DEFINITION. The live channel move and the gusset reserve (R296 to R306), repair (R287, R288, R501), and what the commit does for them. -/

namespace Sys2Proof.Machine

-- ---------------------------------------------------------------- pausing a context (R279, R473)

/-- R279, R473: a context leaves admission: a quiesced one stays quiesced and is paused too (R402). Its dirty lines are written back and its
KEEP lines released. -/
def State.pauseCtx (s : State) (c : Nat) : State :=
  (s.modCtx c (fun x => match x.state with
    | .quiesced => { x with pausedToo := true }
    | _ => { x with state := .paused })).pauseLines c

-- ---------------------------------------------------------------- gussets (R297, R298)

/-- R298: the level of the gusset pool. -/
def State.gussetLevel (s : State) : Nat := ((List.range 768).filter (fun ch => (s.channel ch).state = .gusset)).length

/-- R298: a channel that may be made a gusset: it holds no allocated chunk. -/
def Channel.canReserve (c : Channel) : Bool := (c.state = .online || c.state = .degraded) && c.runs.isEmpty

/-- R298: whether training left a channel with an erased pin or no free spare lane. -/
def Channel.worn (c : Channel) : Bool := !c.erased.isEmpty || (c.spare0.isSome && c.spare1.isSome)

/-- The last element of a list that `p` selects. -/
def lastWhere (p : Nat → Bool) (l : List Nat) : Option Nat := (l.filter p).getLast?

/-- R298: the k-th gusset: a worn channel first; otherwise of panel k mod 6, and of the stack k/6 turns round that panel's four, the
highest-numbered free channel; a stack or panel without one passes its turn on. -/
def State.pickGusset (s : State) (k : Nat) : Option Nat :=
  let free := fun ch => (s.channel ch).canReserve
  let order := (List.range 6).flatMap (fun dp => (List.range 4).map (fun ds => 4 * ((k + dp) % 6) + (k / 6 + ds) % 4))
  let inStack := fun (p : Nat → Bool) st => lastWhere p ((List.range 32).map (fun i => 32 * st + i))
  match order.findSome? (inStack (fun ch => free ch && (s.channel ch).worn)) with
  | some ch => some ch
  | none => order.findSome? (inStack free)

/-- R298: a channel enters the list of gussets in the repair record. -/
def State.listGusset (s : State) (ch : Nat) : State :=
  let l := s.repair.gussets.getD []
  { s with repair := { s.repair with gussets := some (if l.contains ch then l else l ++ [ch]) } }

/-- R298: a channel leaves the list. -/
def State.unlistGusset (s : State) (ch : Nat) : State :=
  { s with repair := { s.repair with gussets := s.repair.gussets.map (fun l => l.filter (· != ch)) } }

/-- R297: makes `n` more gussets, the first of them the k-th; none where there are too few channels. -/
def State.addGussets (s : State) (k : Nat) : Nat → Option State
  | 0 => some s
  | n + 1 =>
    match s.pickGusset k with
    | none => none
    | some ch => ((s.setChannel ch { (s.channel ch) with state := .gusset }).listGusset ch).addGussets (k + 1) n

/-- R297: turns `n` gussets ONLINE, the most recently tested first. -/
def State.dropGussets (s : State) : Nat → State
  | 0 => s
  | n + 1 =>
    let gs := (List.range 768).filter (fun ch => (s.channel ch).state = .gusset)
    match gs with
    | [] => s
    | g :: t =>
      let best := t.foldl (fun a ch => if (s.channel a).tested < (s.channel ch).tested then ch else a) g
      let c := s.channel best
      ((s.setChannel best { c with state := .online }).unlistGusset best).dropGussets n

/-- R297, R498: GUSSET_SET. -/
def actGussetSet (r : CmdReq) (s : State) : CmdResult :=
  s.devCmd r .plain [(0x08, fld 0 6), (0x0C, fld 0 16)] (
    let g := r.w 0x08
    if 32 < g then s.fail stBadParam
    else
      let set := fun (a : State) => { a with gussetReserve := g, gussetHold := r.w 0x0C }
      if g ≤ s.gussetReserve then (set (s.dropGussets (s.gussetReserve - g))).done []
      else match s.addGussets s.gussetReserve (g - s.gussetReserve) with
        | none => s.fail stNoRoom
        | some s1 => (set s1).done [])

/-- Command 0xB5. -/
def rowGussetSet : CmdRow := { op := 0xB5, mgmt := true, stages := false, act := actGussetSet }

/-- GUSSET_SET, R498. -/
def execGussetSet (r : CmdReq) (s : State) : Host.Outcome State Fault Refusal := .next (s.perform rowGussetSet r)

-- ---------------------------------------------------------------- starting a move (R299, R300)

/-- R299: seams between two stacks' panels. -/
def seamsApart (a b : Nat) : Nat :=
  let pa := a / 4
  let pb := b / 4
  let dx := if pa % 3 < pb % 3 then pb % 3 - pa % 3 else pa % 3 - pb % 3
  let dy := if pa / 3 = pb / 3 then 0 else 1
  dx + dy

/-- R299: how far a gusset is from a source: the same stack, the same panel, then by seams. -/
def gussetRank (src ch : Nat) : Nat :=
  if src / 32 = ch / 32 then 0 else if src / 128 = ch / 128 then 1 else 1 + seamsApart (src / 32) (ch / 32)

/-- R299: the destination the device chooses. -/
def State.chooseGusset (s : State) (src : Nat) : Option Nat :=
  match (List.range 768).filter (fun ch => (s.channel ch).state = .gusset) with
  | [] => none
  | g :: t => some (t.foldl (fun a ch => if gussetRank src ch < gussetRank src a then ch else a) g)

/-- The allocated chunks of a channel, rising. -/
def Channel.allocated (c : Channel) : List Nat :=
  (List.range channelChunks).filter (fun k => c.runs.any (fun r => decide (r.start ≤ k) && decide (k < r.start + r.len)))

/-- R300 step 1: a move starts. -/
def State.startMove (s : State) (src dst share : Nat) : State :=
  let c := s.channel src
  let d := s.channel dst
  let m : Move := { src := src, dst := dst, share := share, copySet := c.allocated, copied := [], units := [], staged := false, failed := false,
                    remapped := false }
  let s1 := ((s.setChannel src { c with state := .moving, wantedAt := none }).setChannel dst { d with state := .moving, runs := c.runs })
  let s2 := s1.setController (src / 32) ((s1.controller (src / 32)).dropLines (fun k _ => k / 2 ^ 26 = src))
  { s2 with moves := s2.moves ++ [m] }

/-- R299: whether a move of the stack runs. -/
def State.stackMoves (s : State) (k : Nat) : Bool := s.moves.any (fun m => m.src / 32 = k && !m.remapped)

/-- R299, R498: CHANNEL_MOVE. -/
def actChannelMove (r : CmdReq) (s : State) : CmdResult :=
  s.devCmd r .plain [(0x08, fld 0 27)] (
    let src := r.f 0x08 0 10
    let dst := r.f 0x08 10 10
    let share := r.f 0x08 20 7
    if 768 ≤ src || 100 < share || (dst != 0x3FF && 768 ≤ dst) then s.fail stBadParam
    else
      let c := s.channel src
      let to_ := if dst = 0x3FF then s.chooseGusset src else some dst
      if c.state = .moving then s.fail stBusy
      else if c.state != .online && c.state != .degraded then s.fail stBadParam
      else if s.gussetLevel = 0 || s.stackMoves (src / 32) then s.fail stBusy
      else match to_ with
        | none => s.fail stBusy
        | some d =>
          if (s.channel d).state != .gusset then s.fail stBadParam
          else (s.startMove src d (if share = 0 then 25 else share)).done [])

/-- Command 0xB3. -/
def rowChannelMove : CmdRow := { op := 0xB3, mgmt := true, stages := false, act := actChannelMove }

/-- CHANNEL_MOVE, R498. -/
def execChannelMove (r : CmdReq) (s : State) : Host.Outcome State Fault Refusal := .next (s.perform rowChannelMove r)

/-- R299, R305: step 3 of a commit: every channel that wants a move starts one where its stack runs none and a gusset is free; with none
free, the wait of R305 begins. -/
def State.startWantedMoves (s : State) : State :=
  (List.range 768).foldl (fun (a : State) ch =>
    let c := a.channel ch
    if !c.moveWanted || !(c.state = .online || c.state = .degraded) then a
    else match a.chooseGusset ch with
      | none => a.setChannel ch { c with wantedAt := some (c.wantedAt.getD a.tick.number) }
      | some d => if a.stackMoves (ch / 32) then a.setChannel ch { c with wantedAt := none } else a.startMove ch d 25) s

/-- R305: fences every channel that has waited for a gusset through the hold time. -/
def State.expireHolds (s : State) : State :=
  if s.gussetLevel != 0 then s
  else (List.range 768).foldl (fun (a : State) ch =>
    let c := a.channel ch
    match c.wantedAt with
    | some t => if c.moveWanted && (c.state = .online || c.state = .degraded) && decide (t + a.gussetHold ≤ a.tick.number)
        then a.fenceChannel ch 0 else a
    | none => a) s

/-- GUSSET_HOLD_EXPIRY, R305. -/
def execGussetHoldExpiry (s : State) : Host.Outcome State Fault Refusal := .next s.expireHolds

-- ---------------------------------------------------------------- the remap and the failures of a move (R303, R304)

/-- R303: every reference to a channel in slots becomes another. -/
def remapSlots (src dst : Nat) (l : List (Nat × Nat)) : List (Nat × Nat) := l.map (fun p => if p.1 = src then (dst, p.2) else p)

/-- R303: replaces the source by the destination in every Pattern, current and staged, and in Olukor's own. -/
def State.remapRefs (s : State) (src dst : Nat) : State :=
  let f := remapSlots src dst
  { s with
    contexts := s.contexts.map (fun p => (p.1, { p.2 with
      areaA := f p.2.areaA
      areaB := f p.2.areaB
      areaMoved := p.2.areaMoved.map (fun q => (q.1, if q.2.1 = src then (dst, q.2.2) else q.2))
      patterns := p.2.patterns.map (fun q => (q.1, { q.2 with slots := f q.2.slots }))
      patternStages := p.2.patternStages.map (fun q => (q.1, { q.2 with pat := { q.2.pat with slots := f q.2.pat.slots } })) }))
    stock := s.stock.map (fun p => (p.1, { p.2 with
      slots := f p.2.slots
      rebuilt := p.2.rebuilt.map (fun q => (q.1, if q.2.1 = src then (dst, q.2.2) else q.2)) })) }

/-- R300 step 4, R303, R304: step 2 of a commit applies the moves that are ready, abandons those that failed, and ends those whose source
was fenced: its uncopied chunks read as poison at the destination. -/
def State.commitMoves (s : State) : State :=
  s.moves.foldl (fun (a : State) m =>
    let c := a.channel m.src
    let d := a.channel m.dst
    let drop := fun (b : State) => { b with moves := b.moves.filter (fun x => x.src != m.src) }
    let mark := fun (b : State) => { b with moves := b.moves.map (fun x => if x.src = m.src then { x with remapped := true } else x) }
    if m.remapped then a
    else if c.state = .fenced then
      if d.state = .fenced then drop a
      else
        let lost := m.copySet.filter (fun k => !m.copied.contains k)
        let b := ((a.remapRefs m.src m.dst).setChannel m.dst { d with state := .online, runs := c.runs, lost := lost }).unlistGusset m.dst
        mark (b.setChannel m.src { c with runs := [] })
    else if m.failed || d.state = .fenced then
      let b := a.setChannel m.src { c with state := .degraded, moveWanted := true }
      drop (b.setChannel m.dst { d with state := if d.state = .fenced then .fenced else .offline, runs := [] })
    else if m.staged then
      let b := ((a.remapRefs m.src m.dst).setChannel m.dst { d with state := .online, runs := c.runs }).unlistGusset m.dst
      let b1 := b.setChannel m.src { c with state := .offline, runs := [], moveWanted := false, wantedAt := none }
      (mark b1).mgmtEvent 0x15 0 0 [m.src + m.dst * 2 ^ 10, m.copied.length, b1.gussetLevel]
    else a) s

/-- R301: a copy unit or a mirrored write to a chunk died at C: its mark is cleared, and the chunk is copied again after the others. -/
def State.recopyChunk (s : State) (src chunk : Nat) : State :=
  s.modMove src (fun m =>
    if m.remapped || !m.copySet.contains chunk then m
    else { m with
      copySet := m.copySet.filter (· != chunk) ++ [chunk]
      copied := m.copied.filter (· != chunk)
      units := if m.copySet.find? (fun k => !m.copied.contains k) = some chunk then [] else m.units
      staged := false })

/-- The moves of this commit that are over are forgotten. -/
def State.endMoves (s : State) : State := { s with moves := s.moves.filter (fun m => !m.remapped) }

/-- R305: region chunks of a context's Pattern that lie on a fenced channel, or in its lost chunks, by whether a segment maps them. -/
def patternLost (p : Pattern) (ch : Nat) (only : Option (List Nat)) (j : Nat) : Bool :=
  p.residence = 1 && j < p.len &&
  (match p.slots[j % Nat.max 1 p.slots.length]? with
   | none => false
   | some sl => sl.1 = ch && (match only with
     | none => true
     | some ks =>
       let k := sl.2 + j / p.slots.length * (if p.scratch then 2 else 1)
       ks.contains k || (p.scratch && ks.contains (k + 1))))

/-- R305: the current segments of a context that map a lost chunk. -/
def Context.lostSegs (cx : Context) (ch : Nat) (only : Option (List Nat)) : List Nat :=
  cx.segs.filterMap (fun q =>
    if q.2.valid && q.2.kind ≤ 2 then
      match FMap.get? cx.patterns q.2.region with
      | none => none
      | some p =>
        let span := if only.isSome then q.2.length else Nat.min q.2.length p.slots.length
        if (List.range span).any (fun t => patternLost p ch only (q.2.base + t)) then some q.1 else none
    else none)

/-- R305: how many region chunks of a context are lost. -/
def Context.lostChunks (cx : Context) (ch : Nat) (only : Option (List Nat)) : Nat :=
  (cx.patterns.map (fun q => ((List.range q.2.len).filter (fun j => patternLost q.2 ch only j)).length)).foldl (· + ·) 0

/-- R305: the lost chunks of a fenced channel: all of them, or those a move had not copied, at its destination. -/
def State.lostAt (s : State) (ch : Nat) : Nat × Option (List Nat) × Nat :=
  match s.moves.find? (fun m => m.remapped && m.src = ch) with
  | some m => (m.dst, some (s.channel m.dst).lost, 3)
  | none => (ch, none, 0)

/-- R305: step 1 of the fencing commit: every stitch that used a channel fenced in this tick, before or after the fence, is dropped. -/
def State.dropUsers (s : State) : State :=
  s.fences.channelLost.foldl (fun (a : State) q => a.withdrawWhere (fun _ r => r.channels.contains q.1)) s

/-- R305: step 3 of the fencing commit: every context with a current segment that maps a chunk on the channel is paused, with
EV_CHANNEL_LOST. -/
def State.loseChannels (s : State) : State :=
  let s1 := s.fences.channelLost.foldl (fun (a : State) q =>
    let (ch, only, code) := a.lostAt q.1
    a.contexts.foldl (fun (b : State) p =>
      let segs := p.2.lostSegs ch only
      if segs.isEmpty then b
      else
        let mask := fun lo => (segs.filter (fun i => lo ≤ i && i < lo + 32)).foldl (fun (v : Nat) i => v ||| 2 ^ (i - lo)) 0
        (b.pauseCtx p.1).bothEvent p.1 0x16 2
          [q.1 + (if code = 3 then 3 else q.2) * 2 ^ 10, mask 0, mask 32, p.2.lostChunks ch only % 2 ^ 32]) a) s
  { s1 with fences := { s1.fences with channelLost := [] } }

-- ---------------------------------------------------------------- repair (R287, R288, R300, R501)

/-- R271, R287: a channel goes into retraining. -/
def Channel.retrainFor (c : Channel) (cmd : Option Nat) : Channel := { c with state := .training, retrain := cmd, trainResult := none }

/-- R287, R300 step 5: after the remap, soft repairs are applied to the rows that need them, and the channel is retrained. -/
def State.repairOffline (s : State) : State :=
  s.channels.foldl (fun (a : State) p =>
    if p.2.state = .offline then
      let sppr := p.2.sppr ++ (p.2.badRows.eraseDups).filter (fun x => !p.2.sppr.contains x)
      (a.setChannel p.1 ({ p.2 with sppr := sppr, badRows := [] }.retrainFor none)).modRepair p.1 (fun r => { r with sppr := sppr })
    else a) s

/-- R300 step 6, R304, R501: step 3 of a commit: trainings that ended make GUSSET channels, or FENCED ones, and their commands
complete. -/
def State.endTrainings (s : State) : State :=
  s.channels.foldl (fun (a : State) p =>
    match p.2.state, p.2.trainResult with
    | .training, some ok =>
      let c := a.channel p.1
      let c1 := { c with trainResult := none, retrain := none }
      if ok then
        let a1 := (a.setChannel p.1 { c1 with state := .gusset, tested := a.tick.number }).listGusset p.1
        match c.retrain with
        | some n => a1.finishCmd n stOk [leNat ((a1.chanRecord p.1).take 4)]
        | none => a1
      else
        let a1 := (a.setChannel p.1 c1).fenceChannel p.1 2
        match c.retrain with
        | some n => a1.finishCmd n stFenced [leNat ((a1.chanRecord p.1).take 4)]
        | none => a1
    | _, _ => a) s

/-- R287, R501: MEM_PPR. -/
def actMemPpr (r : CmdReq) (s : State) : CmdResult :=
  s.devCmd r .plain [(0x08, fld 0 21), (0x0C, fld 0 18)] (
    let ch := r.f 0x08 0 10
    let die := r.f 0x08 10 4
    let hard := bit (r.w 0x08) 20
    let c := s.channel ch
    if 768 ≤ ch || 12 ≤ die || die / 3 != ch % 32 / 8 then s.fail stBadParam
    else if c.state != .offline && c.state != .gusset then s.fail stBusy
    else if hard && c.hpprLeft die (r.f 0x08 14 6) = 0 then s.fail stNoSpare
    else
      let row := (die, r.f 0x08 14 6, r.w 0x0C)
      let c1 := if hard then { c with hppr := FMap.modifyD c.hppr (64 * die + r.f 0x08 14 6) 0 (· + 1) }
        else { c with sppr := if c.sppr.contains row then c.sppr else c.sppr ++ [row] }
      (((s.setChannel ch (c1.retrainFor (some r.num))).modRepair ch (fun k => { k with sppr := c1.sppr })).logRecord (s.mkLog 8 5 ch 0 false 0 [] 0)).startedCmd)

/-- Command 0xD3. -/
def rowMemPpr : CmdRow := { op := 0xD3, mgmt := true, stages := false, act := actMemPpr }

/-- MEM_PPR, R501. -/
def execMemPpr (r : CmdReq) (s : State) : Host.Outcome State Fault Refusal := .next (s.perform rowMemPpr r)

/-- R288, R501: MEM_LANE_SET: it assigns a free spare lane to a pin of the lane's half, or clears an erased pin. -/
def actMemLaneSet (r : CmdReq) (s : State) : CmdResult :=
  s.devCmd r .plain [(0x08, fld 0 18)] (
    let ch := r.f 0x08 0 10
    let pin := r.f 0x08 11 7
    let clear := bit (r.w 0x08) 10
    let c := s.channel ch
    let lane := if pinHalf pin = 0 then c.spare0 else c.spare1
    if 768 ≤ ch || 72 ≤ pin then s.fail stBadParam
    else if c.state != .offline && c.state != .gusset then s.fail stBusy
    else if (clear && !c.erased.contains pin) || (!clear && lane.isSome) then s.fail stBadParam
    else
      let c1 := if clear then { c with erased := c.erased.filter (· != pin) }
        else if pinHalf pin = 0 then { c with spare0 := some pin } else { c with spare1 := some pin }
      ((s.setChannel ch (c1.retrainFor (some r.num))).modRepair ch (fun k =>
        { k with spare0 := c1.spare0, spare1 := c1.spare1, erased := k.erased.filter (fun p => c1.erased.contains p) })).startedCmd)

/-- Command 0xD4. -/
def rowMemLaneSet : CmdRow := { op := 0xD4, mgmt := true, stages := false, act := actMemLaneSet }

/-- MEM_LANE_SET, R501. -/
def execMemLaneSet (r : CmdReq) (s : State) : Host.Outcome State Fault Refusal := .next (s.perform rowMemLaneSet r)

end Sys2Proof.Machine
end

