-- ==== Sys2Proof/Machine/CtxMem.lean ====
section
/-! DEFINITION. Context space as Olukor reads and writes it for a context, outside any stitch: through the context's current segments, with
the checks of R148 and the committed image of scratch chunks (R37). -/

namespace Sys2Proof.Machine

/-- R148: whether an access of `len` bytes at offset `off` of a current segment passes every check. -/
def State.ctxSegOk (s : State) (cx : Context) (seg off len : Nat) (need : Need) : Bool :=
  match FMap.get? cx.segs seg with
  | none => false
  | some d =>
    d.valid && (match need with | .read => d.r | .write => d.w | .fetch => d.x) && off + len ≤ 65536 * d.length &&
    (d.kind = 5 || len = 0 || (match s.regionOf cx d with
      | none => false
      | some (n, _) => decide (d.base + (off + len - 1) / 65536 < n)))

/-- Reads `len` bytes at a context address: none where a check fails or a byte cannot be used (poison, a held or lost granule). Bytes of a
peer are free values from `fresh` on. -/
def State.readCtx (s : State) (c a len fresh : Nat) : Option (List Byte) :=
  match s.ctx? c, splitAddr a with
  | some cx, .ctx seg off =>
    if s.ctxSegOk cx seg off len .read then
      match FMap.get? cx.segs seg with
      | none => none
      | some d =>
        let o := s.readSeg c d seg s.adm.nextId fresh off len
        if o.usable then some o.bytes else none
    else none
  | _, _ => none

/-- Writes bytes at a context address of this device: the state, unchanged where a check fails. A peer's segment is not written so. A host port
in reset fails its bytes, which may or may not arrive (R549, R610). -/
def State.writeCtx (s : State) (c a : Nat) (bs : List Byte) : State :=
  match s.ctx? c, splitAddr a with
  | some cx, .ctx seg off =>
    if s.ctxSegOk cx seg off bs.length .write then
      match FMap.get? cx.segs seg with
      | none => s
      | some d =>
        let pl := bs.zipIdx.map (fun (b : Byte × Nat) => (s.place c d seg (off + b.2) s.adm.nextId false, b.1))
        let st := pl.filterMap (fun p => match p.1 with | .stack ch x => some (ch * 2 ^ 32 + x, p.2) | _ => none)
        let s1 := (s.writeStack st 0 (some c)).1
        let down := fun (p : Place) => match p with | .host x _ => s.hemDown c d x | _ => false
        let failed := pl.findIdx? (fun p => down p.1)
        let (landed, s2) := if failed.isSome then s1.drawUpTo 1 else (0, s1)
        let s3 := match failed with | some i => s2.noteHost c seg (off + i) | none => s2
        pl.foldl (fun (t : State) p => match p.1 with
          | .host x e => if landed = 0 && down p.1 then t else t.putHostByte x e p.2
          | _ => t) s3
    else s
  | _, _ => s

/-- The 32-bit words of bytes, little-endian. -/
def wordsOf (bs : List Byte) (n : Nat) : List Nat := (List.range n).map (fun i => leNat (slice bs (4 * i) 4))

/-- A context address. -/
def ctxAddr (seg off : Nat) : Nat := seg * 2 ^ 42 + off

end Sys2Proof.Machine
end

