-- ==== Sys2Proof/Machine/Steps.lean ====
section
/-! DEFINITION. Training steps (chapter 15): STEP_BEGIN, the reduction buffers and the adders, the ledger, torn tiles, the deadline, the
checks, sealing across a garment, and the end of a step. -/

namespace Sys2Proof.Machine

-- ---------------------------------------------------------------- the two buffers

/-- A buffer's step. -/
def Train.buf (t : Train) (b : Nat) : Option Step := if b % 2 = 0 then t.buf0 else t.buf1

/-- Replaces a buffer's step. -/
def Train.setBuf (t : Train) (b : Nat) (st : Step) : Train := if b % 2 = 0 then { t with buf0 := some st } else { t with buf1 := some st }

/-- A context's step by buffer. -/
def State.stepOf (s : State) (c b : Nat) : Option Step := (s.ctx? c).bind (fun cx => cx.train.buf b)

/-- Replaces a context's step. -/
def State.setStep (s : State) (c b : Nat) (st : Step) : State := s.modCtx c (fun x => { x with train := x.train.setBuf b st })

/-- A tile's entry; one that no addition has reached is blank. -/
def Step.tile (st : Step) (t : Nat) : TileRec := FMap.getD st.ledger t TileRec.blank

/-- Replaces a tile's entry. -/
def Step.setTile (st : Step) (t : Nat) (r : TileRec) : Step := { st with ledger := FMap.set st.ledger t r }

/-- R372: tears a tile: the first reason found stays. -/
def Step.tear (st : Step) (t reason slot : Nat) : Step :=
  let r := st.tile t
  if r.torn.isSome then st else st.setTile t { r with torn := some (reason, slot) }

/-- R372: reasons. -/
def tearDropped : Nat := 1
def tearPartial : Nat := 2
def tearNotice : Nat := 3
def tearDup : Nat := 4
def tearResidue : Nat := 5
def tearChecksum : Nat := 6
def tearPoison : Nat := 7
def tearLost : Nat := 8
def whyMissing : Nat := 9
def whyAbort : Nat := 10

/-- R367: tiles of a buffer. -/
def Step.width (st : Step) : Nat := st.tiles * (if st.mode.fixed then 1 + st.contrib else 1)

/-- R367: the tile of RED_SEG that an area of a buffer holds: 0 SUM, 1 + k slot k. -/
def Step.areaTile (st : Step) (b area t : Nat) : Nat := b * st.width + st.tiles * area + t

-- ---------------------------------------------------------------- STEP_BEGIN (R359, R360, R485)

/-- R360: whether a segment of a context can be the reduction segment or the divisor array's. -/
def Context.ordinary (cx : Context) (seg : Nat) (r : Bool) (chunks : Nat) : Bool :=
  match FMap.get? cx.segs seg with
  | some d => d.valid && d.kind = 0 && d.w && (!r || d.r) && decide (chunks ≤ d.length)
  | none => false

/-- R360: whether STEP and ATTEMPT follow the last step. -/
def Train.follows (t : Train) (step attempt : Nat) : Bool :=
  match t.last with
  | none => attempt = 0
  | some (n, a, rep) => (step = (n + 1) % 2 ^ 32 && attempt = 0) || (rep && step = n && attempt = a + 1)

/-- R360, R485: the step that a STEP_BEGIN would open. -/
def readStep (r : CmdReq) (tick n garmentOptList : Nat) (mode : StepMode) : Step :=
  let o := tick
  { step := r.w 0x08, attempt := r.f 0x0C 0 4, state := .open_, redSeg := r.f 0x0C 4 6, tiles := r.w 0x10, contrib := r.f 0x14 0 8, openedAt := o,
    deadline := o + r.f 0x14 16 16, divSeg := r.f 0x0C 10 6, divOff := r.d 0x18, divUnit := r.w 0x20, optList := garmentOptList,
    optCount := r.w 0x28, optDone := 0, garment := bit (r.w 0x0C) 16, mode := mode, n := n, tag := r.tag, ledger := [], rejected := 0,
    why := (0, 0, 0, 0), omitting := false, completeAt := 0, sealedAt := 0, completeFrom := [], sealedFrom := [], abortFrom := none,
    lostAt := none, notices := [], divWritten := false, replay := false }

/-- R360: the ranges of the values and the segments' shapes. -/
def Step.wellFormed (st : Step) (cx : Context) (r : CmdReq) : Bool :=
  1 ≤ st.tiles && st.tiles ≤ 4194304 && 1 ≤ st.contrib && st.contrib ≤ 128 && 1 ≤ r.f 0x14 16 16 && st.divOff % 4 = 0 &&
  0 < st.divUnit && st.divUnit < 0x7F800000 && 1 ≤ st.optCount && (!st.garment || cx.garment.isSome) &&
  cx.ordinary st.redSeg true (2 * st.width) && cx.ordinary st.divSeg false ((st.divOff + 4 * st.tiles + 65535) / 65536)

/-- R359, R360: STEP_BEGIN. -/
def actStepBegin (r : CmdReq) (s : State) : CmdResult :=
  let all := fld 0 32
  s.ctxCmd r .plain [(0x08, all), (0x0C, fld 0 17), (0x10, fld 0 23), (0x14, fld 0 8 + fld 16 16), (0x18, all), (0x1C, fld 0 10), (0x20, all),
      (0x24, fld 0 28), (0x28, fld 0 24)] (fun c cx =>
    match s.cmdSpool c (r.w 0x24) with
    | .error e => s.fail e
    | .ok (list, sp) =>
      let t := cx.train
      let st := readStep r s.tick.number t.accEvery list t.mode
      if sp.kind != 4 || !st.wellFormed cx r || !t.follows st.step st.attempt then s.fail stBadParam
      else
        let opened := fun (x : Train) => { x with last := some (st.step, st.attempt, false), totals := [], openedAt := s.tick.number }
        if !t.reduces st.attempt then
          (s.modCtx c (fun x => { x with train := { opened x.train with localSteps := x.train.localSteps + 1 } })).done [0, 0]
        else
          let again := st.attempt != 0
          let b := if again then (t.bufCount + 1) % 2 else t.bufCount % 2
          let prev := t.buf b
          let busy : Bool := match prev with | some p => decide (p.state ≠ .done ∧ p.state ≠ .repeat_) | none => false
          if busy || cx.risk.stepBusy || s.turns.any (fun t => t.srcCtx = c && t.quiesces) then s.fail stBusy
          else
            let n := if again then (match prev with | some p => p.n | none => t.accEvery) else t.accEvery
            let s1 := s.modCtx c (fun x => { x with
              owed := x.owed + 1
              risk := { x.risk with replay := false }
              train := { (opened x.train).setBuf b { st with n := n, replay := x.risk.replay } with
                localSteps := 0, bufCount := x.train.bufCount + (if again then 0 else 1) } })
            s1.done [1 + 2 * b, st.deadline % 2 ^ 32])

/-- Command 0x60. -/
def rowStepBegin : CmdRow := { op := 0x60, mgmt := false, stages := false, act := actStepBegin }

/-- STEP_BEGIN, R485. -/
def execStepBegin (r : CmdReq) (s : State) : Host.Outcome State Fault Refusal := .next (s.perform rowStepBegin r)

/-- R362, R486: STEP_MODE stages the modes. -/
def rowStepMode : CmdRow :=
  { op := 0x61, mgmt := false, stages := true,
    act := fun r s => s.ctxCmd r .plain [(0x08, fld 0 3)] (fun c _ =>
      (s.stage (.stepMode c { lenient := bit (r.w 0x08) 0, fixed := bit (r.w 0x08) 1, always := bit (r.w 0x08) 2 })).done []) }

/-- STEP_MODE, R486. -/
def execStepMode (r : CmdReq) (s : State) : Host.Outcome State Fault Refusal := .next (s.perform rowStepMode r)

/-- R359, R486: ACC_EVERY stages N; BUSY while a LOCAL step has been opened since the last REDUCE step. -/
def rowAccEvery : CmdRow :=
  { op := 0x62, mgmt := false, stages := true,
    act := fun r s => s.ctxCmd r .plain [(0x08, fld 0 7)] (fun c cx =>
      if r.w 0x08 = 0 || 64 < r.w 0x08 then s.fail stBadParam
      else if cx.train.localSteps != 0 then s.fail stBusy
      else (s.stage (.accEvery c (r.w 0x08))).done []) }

/-- ACC_EVERY, R486. -/
def execAccEvery (r : CmdReq) (s : State) : Host.Outcome State Fault Refusal := .next (s.perform rowAccEvery r)

-- ---------------------------------------------------------------- ledger entries (R370, R374, R376, R389)

/-- R371: whether a slot is APPLIED or has LANDED. -/
def SlotRec.isApplied (x : SlotRec) : Bool := x.appliedAt.isSome

/-- Slots that have landed on a tile. -/
def TileRec.landed (r : TileRec) : Nat := (r.slots.filter (fun p => p.2.landed)).length

/-- R375: slots omitted from a tile. -/
def Step.nOmit (st : Step) (r : TileRec) : Nat := if st.omitting then st.contrib - r.slots.length else 0

/-- R374: whether every expected slot has landed or been omitted. -/
def Step.slotsSettled (st : Step) (r : TileRec) : Bool := r.landed + st.nOmit r = st.contrib && r.slots.all (fun p => p.2.landed)

/-- R362, R381: whether the checksum comparison applies to a step of a context. -/
def State.checks (s : State) (cx : Context) (st : Step) : Bool :=
  st.mode.always ||
  (match cx.garment.bind (fun g => FMap.get? s.garments g) with
   | some ga => ga.members.any (fun m => m / 16 != s.board.boardId)
   | none => false)

/-- R370, R374: whether a settled tile still waits for a summation or a comparison. -/
def Step.pendingWork (st : Step) (check : Bool) (r : TileRec) : Bool :=
  r.landed != 0 && ((st.mode.fixed && !r.summed) || (check && !r.checked))

/-- R376: a tile's divisor: DIV_UNIT times N times the landed contributions, rounded once to FP32. -/
def Step.divisor (st : Step) (r : TileRec) : Nat :=
  if r.landed = 0 then 0 else Fmt.fp32.encode (Fmt.fp32.round (FVal.mul (Fmt.fp32.decode st.divUnit) (.fin false (st.n * r.landed) 0))).1

/-- A mask of the slots that `p` selects, as four words. -/
def slotMask (r : TileRec) (p : SlotRec → Bool) : List Nat :=
  (List.range 4).map (fun i => (r.slots.filter (fun q => p q.2 && q.1 / 32 = i)).foldl (fun (a : Nat) q => a ||| 2 ^ (q.1 % 32)) 0)

/-- R374, R375: whether a tile is done: one that no addition has reached is, once the deadline has omitted its slots. -/
def Step.tileDone (st : Step) (t : Nat) : Bool := (st.tile t).done || (st.omitting && !FMap.has st.ledger t)

/-- R370: the entry of a tile that no step has used. -/
def emptyEntry : List Byte := List.replicate 80 0

/-- R370: a tile's entry. One that nothing of this attempt has reached reads with the step's STEP and ATTEMPT and
nothing else set (assumption 83). -/
def Step.entry (st : Step) (check : Bool) (t : Nat) : List Byte :=
  let r := st.tile t
  let past := st.state = .complete || st.state = .sealed || st.state = .done
  let isDone := st.tileDone t
  let empty := isDone && r.landed = 0
  wordsLE (slotMask r (fun x => x.landed) ++ slotMask r SlotRec.isApplied ++ slotMask r (fun _ => true) ++
    [r.cksum % 2 ^ 32, r.cksum / 2 ^ 32, r.abssum % 2 ^ 32, r.abssum / 2 ^ 32,
     st.step % 2 ^ 16 + st.attempt * 2 ^ 16 + (match r.torn with | some (k, _) => 2 ^ 20 + k * 2 ^ 21 | none => 0) + (if isDone then 2 ^ 25 else 0) +
       (if r.nonfinite then 2 ^ 26 else 0) + (if empty then 2 ^ 27 else 0) + (if st.slotsSettled r && st.pendingWork check r then 2 ^ 28 else 0),
     (if past then st.divisor r else 0),
     r.landed + st.nOmit r * 2 ^ 8 + (match r.torn with | some (_, k) => k * 2 ^ 16 | none => 0), 0])

/-- R389: LEDGER_READ. A buffer that no step has used reads as empty (R370). -/
def rowLedgerRead : CmdRow :=
  { op := 0x63, mgmt := false, stages := false,
    act := fun r s => s.ctxCmd r .out [(0x08, fld 0 1), (0x0C, fld 0 22), (0x10, fld 0 23)] (fun _ cx =>
      match cx.train.buf (r.w 0x08) with
      | none => s.outRecords r (List.replicate (r.w 0x10) emptyEntry)
      | some st =>
        if st.tiles < r.w 0x0C + r.w 0x10 then s.fail stBadParam
        else s.outRecords r ((List.range (r.w 0x10)).map (fun i => st.entry (s.checks cx st) (r.w 0x0C + i)))) }

/-- LEDGER_READ, R486. -/
def execLedgerRead (r : CmdReq) (s : State) : Host.Outcome State Fault Refusal := .next (s.perform rowLedgerRead r)

-- ---------------------------------------------------------------- the adders (R281 to R283, R366 to R369, R378 to R380, R544)

/-- The open context of a garment on this device that holds a segment (R474). -/
def State.garmentCtx (s : State) (g seg : Nat) : Option Nat :=
  (s.contexts.find? (fun p => p.2.garment = some g && (match FMap.get? p.2.segs seg with | some d => d.valid | none => false))).map Prod.fst

/-- What an addition to one word met. -/
inductive AddEnd where
  | ok | poison | noAdder | nowhere
  deriving DecidableEq, Repr

/-- R281 to R283, R544: adds an FP32 value to the word at an offset of a segment; the line is allocated KEEP. -/
def State.addWord (s : State) (c : Nat) (d : Seg) (seg off v : Nat) : State × AddEnd :=
  match s.place c d seg off s.adm.nextId false with
  | .stack ch a =>
    let k := s.controller (ch / 32)
    let b := ch % 32 / 2
    let pair := if b % 2 = 0 then b + 1 else b - 1
    if k.bankFenced.contains b && k.bankFenced.contains pair then (s, .noAdder)
    else if (s.channel ch).isBad (a / 64) then (s, .poison)
    else
      let at_ := ch * 2 ^ 32 + a
      let w := Fmt.fp32.encode (fl32 (f32w (Mem.readLE s.stack at_ 4)) (f32w v)).1
      let ws := (natLE 4 w).mapIdx (fun i x => (at_ + i, x))
      ((s.writeStack ws 2 (some c)).1, .ok)
  | _ => (s, .nowhere)
where
  /-- The value of an FP32 code. -/
  f32w (x : Nat) : FVal := Fmt.fp32.read x

/-- R367: writes a whole 64 KiB tile of a segment: full lines, which removes its poison marks; a fenced channel discards them. -/
def State.putTile (s : State) (c : Nat) (d : Seg) (seg tile : Nat) (bs : List Byte) : State :=
  match s.place c d seg (65536 * tile) s.adm.nextId false with
  | .stack ch a =>
    let ch_ := s.channel ch
    if ch_.state = .fenced then s
    else
      let s1 := { s.setChannel ch { ch_ with poison := ch_.poison.filter (fun b => b / 1024 != a / 65536) } with
        stack := Mem.writeN (Mem.clearRange s.stack (ch * 2 ^ 32 + a) 65536) (ch * 2 ^ 32 + a) bs }
      ((List.range 1024).foldl (fun (x : State) i => x.touchLine ch (a / 64 + i) 2 (some c) true true) s1).mirrorBursts ch
        ((List.range 1024).map (fun i => a / 64 + i))
  | .host a e => s.putHostRun a e bs
  | _ => s

/-- The words of a tile, none where a burst of it cannot be used. -/
def State.tileWords (s : State) (c : Nat) (d : Seg) (seg tile : Nat) : Option (List Nat) :=
  match s.place c d seg (65536 * tile) s.adm.nextId false with
  | .stack ch a =>
    if (List.range 1024).any (fun i => (s.channel ch).isBad (a / 64 + i)) then none
    else some ((List.range 16384).map (fun i => Mem.readLE s.stack (ch * 2 ^ 32 + a + 4 * i) 4))
  | .host a none => some ((List.range 16384).map (fun i => Mem.readLE s.host (a + 4 * i) 4))
  | .host a e => let bs := s.hostRun a e 65536; some ((List.range 16384).map (fun i => leNat (slice bs (4 * i) 4)))
  | _ => none

/-- What the additions of a message met, in order. -/
structure AddRun where
  st : State
  applied : Nat
  residue : Bool
  poison : Bool
  noAdder : Bool
  nowhere : Bool
  deriving DecidableEq, Repr

/-- R380, R542: a residue error of the adders of the bank at an offset of a segment counts toward its fence, over 1,000 ticks. -/
def State.countResidue (s : State) (c : Nat) (d : Seg) (seg off : Nat) : State :=
  match s.place c d seg off s.adm.nextId false with
  | .stack ch _ =>
    let k := s.controller (ch / 32)
    let b := ch % 32 / 2
    let ticks := (s.now :: FMap.getD k.bankResidue b []).filter (fun t => decide (s.now < t + 1000))
    s.setController (ch / 32) { k with bankResidue := FMap.set k.bankResidue b ticks }
  | _ => s

/-- R281, R380, R542: applies a message's additions from a byte offset of a segment on; one whose residue is wrong is not applied and counts
toward the fence of its Pincushion bank. -/
def State.addVals (s : State) (c : Nat) (d : Seg) (seg off : Nat) (vals : List (Nat × Nat)) (adderBad : Option Nat) : AddRun :=
  vals.zipIdx.foldl (fun (a : AddRun) (p : (Nat × Nat) × Nat) =>
    let o := off + 4 * p.2
    if residue15 p.1.1 != p.1.2 || adderBad = some p.2 then
      { a with st := a.st.countResidue c d seg o, residue := true }
    else
      match a.st.addWord c d seg o p.1.1 with
      | (st, .ok) => { a with st := st, applied := a.applied + 1 }
      | (st, .poison) => { a with st := st, poison := true }
      | (st, .noAdder) => { a with st := st, noAdder := true }
      | (st, .nowhere) => { a with st := st, nowhere := true }) { st := s, applied := 0, residue := false, poison := false, noAdder := false, nowhere := false }

/-- R373: the buffer of the open step that a keyed contribution to a tile of a segment belongs to. -/
def Context.stepFor (cx : Context) (key : RedKey) (seg off : Nat) : Option (Nat × Step) :=
  [0, 1].findSome? (fun b => match cx.train.buf b with
    | some st =>
      let r := st.tile (off / 65536)
      if st.state = .open_ && st.step % 2 ^ 16 = key.step && st.attempt = key.attempt && st.redSeg = seg && off % 65536 = 0 &&
          off / 65536 < st.tiles && key.slot < st.contrib && !(st.omitting && !FMap.has r.slots key.slot) then some (b, st) else none
    | none => none)

/-- R373: a rejected addition counts for the context's open step, or for its last one. -/
def Context.countRejected (cx : Context) : Context :=
  let t := cx.train
  let openBuf := [0, 1].find? (fun b => match t.buf b with | some st => st.state = .open_ | none => false)
  let b := openBuf.getD ((t.bufCount + 1) % 2)
  match t.buf b with
  | some st => { cx with train := t.setBuf b { st with rejected := st.rejected + 1 } }
  | none => cx

/-- Acknowledges a message to its sender. -/
def State.ackTo (s : State) (member msg status : Nat) (torn : Bool) : State := s.notify member .ack [msg, status, if torn then 1 else 0]

/-- R371: a slot with all its additions applied and its end notice recorded is APPLIED; its checksums enter the tile's sums, where the
check applies (R381). -/
def Step.settleApplied (st : Step) (check : Bool) (t slot tick : Nat) : Step :=
  let r := st.tile t
  match FMap.get? r.slots slot with
  | none => st
  | some x =>
    match x.ended with
    | some (k, a) =>
      if x.count = 16384 && x.appliedAt.isNone then
        let add := fun (u v : Nat) => f64Encode (f64Add false (f64Read u) (f64Read v))
        st.setTile t { r with
          slots := FMap.set r.slots slot { x with appliedAt := some tick }
          cksum := if check then add r.cksum k else r.cksum
          abssum := if check then add r.abssum a else r.abssum }
      else st
    | none => st

/-- R366, R367, R371: the additions of a message that its slot takes. -/
def State.addInto (s : State) (c : Nat) (cx : Context) (d : Seg) (m : AccMsg) (key : RedKey) (b : Nat) (st : Step) (x : SlotRec) : State :=
  let t := m.off / 65536
  let r := st.tile t
  let area := if st.mode.fixed then 1 + key.slot else 0
  let at_ := st.areaTile b area t
  let s1 := if r.zeroed.contains area then s else s.putTile c d m.seg at_ []
  let run := s1.addVals c d m.seg (65536 * at_ + 4 * m.first) m.vals m.adderBad
  let r1 : TileRec :=
    { r with
      zeroed := if r.zeroed.contains area then r.zeroed else area :: r.zeroed
      slots := FMap.set r.slots key.slot { x with count := x.count + run.applied } }
  let st1 := st.setTile t r1
  let st2 := if run.residue then st1.tear t tearResidue key.slot
    else if run.poison || run.noAdder || run.nowhere then st1.tear t tearPoison key.slot else st1
  let st3 := st2.settleApplied (s.checks cx st) t key.slot s.tick.number
  let torn := run.residue || run.poison || run.noAdder || run.nowhere
  (run.st.setStep c b st3).ackTo m.sender m.msg
    (if run.residue then stFenced else if torn then stPoisoned else stOk) torn

/-- R366 to R373, R619: a keyed message at its owner. -/
def State.addKeyed (s : State) (c : Nat) (d : Seg) (m : AccMsg) (key : RedKey) : State :=
  match s.ctx? c with
  | none => s
  | some cx =>
    match cx.stepFor key m.seg m.off with
    | none => (((s.modCtx c Context.countRejected).noteStale true msgAdd s.tick.number)).ackTo m.sender m.msg stStale false
    | some (b, st) =>
      let t := m.off / 65536
      let r := st.tile t
      match FMap.get? r.slots key.slot with
      | some x =>
        if x.sender = m.sender && x.sendId = m.send then s.addInto c cx d m key b st x
        else (s.setStep c b (st.tear t tearDup key.slot)).ackTo m.sender m.msg stStale true
      | none =>
        s.addInto c cx d m key b st
          { startedAt := s.tick.number, sender := m.sender, appliedAt := none, landed := false, count := 0, sendId := m.send, ended := none }
/-- R281, R283, R380, R544: an untracked message at its target: it is checked again by the target's own descriptor (R149). -/
def State.addUntracked (s : State) (c : Nat) (cx : Context) (d : Seg) (m : AccMsg) : State :=
  if !s.ctxSegOk cx m.seg (m.off + 4 * m.first) (4 * m.vals.length) .write then s.ackTo m.sender m.msg stSegFault false
  else
    let run := s.addVals c d m.seg (m.off + 4 * m.first) m.vals m.adderBad
    run.st.ackTo m.sender m.msg (if run.residue || run.noAdder then stFenced else if run.poison || run.nowhere then stPoisoned else stOk) false

/-- R149, R378: the context here that an accumulation or its notice names; a garment or context that is not here is a generation failure
(R256). -/
def State.accTarget (s : State) (peer : Bool) (garment seg : Nat) : Option Nat :=
  if peer then s.garmentCtx garment seg else (if FMap.has s.contexts garment then some garment else none)

/-- R177: an addition of a message lies in a Pattern of the Hem tier, where there are no adders. -/
def State.addsInHem (s : State) (c : Nat) (d : Seg) (m : AccMsg) : Bool :=
  (List.range (Nat.max 1 m.vals.length)).any (fun i => match s.place c d m.seg (m.off + 4 * (m.first + i)) s.adm.nextId false with
    | .host _ _ => true
    | _ => false)

/-- R177, R281, R366, R373, R619: an accumulation of this epoch at its target. One into the Hem tier applies nothing and is acknowledged
FENCED. -/
def State.accumulate (s : State) (m : AccMsg) : State :=
  match s.accTarget m.peer m.garment m.seg, RedKey.ofNat m.key with
  | some c, some key =>
    match s.ctx? c with
    | none => s
    | some cx =>
      match FMap.get? cx.segs m.seg with
      | none => s.ackTo m.sender m.msg stSegFault false
      | some d =>
        if s.addsInHem c d m then s.ackTo m.sender m.msg stFenced false
        else if key.keyed then s.addKeyed c d m key else s.addUntracked c cx d m
  | none, _ => (s.noteStale true msgAdd s.tick.number).ackTo m.sender m.msg stStale false
  | _, none => s

/-- REMOTE_ACCUMULATION, R281, R366, R373, R619. -/
def execRemoteAccumulation (m : AccMsg) (s : State) : Host.Outcome State Fault Refusal :=
  .next (s.receive msgAdd m.epoch (fun a => a.accumulate m))

/-- R371, R373: a notice of this epoch; one for a step that is no longer OPEN is ignored. COMMIT and TEAR wait for this tick's commit. -/
def State.contribution (s : State) (m : ContribMsg) : State :=
  match s.accTarget m.peer m.garment m.seg, RedKey.ofNat m.key with
  | none, _ => s.noteStale true msgControl s.tick.number
  | _, none => s
  | some c, some key =>
    match s.ctx? c with
    | none => s
    | some cx =>
      match cx.stepFor key m.seg m.off with
      | none => s
      | some (b, st) =>
        let t := m.off / 65536
        match m.kind with
        | .commit => s.setStep c b { st with notices := st.notices ++ [(t, key.slot, true)] }
        | .tear => s.setStep c b { st with notices := st.notices ++ [(t, key.slot, false)] }
        | .ended k a =>
          let r := st.tile t
          match FMap.get? r.slots key.slot with
          | none => s
          | some x =>
            if x.sender = m.sender && x.sendId = m.send && x.ended.isNone then
              let st1 := st.setTile t { r with slots := FMap.set r.slots key.slot { x with ended := some (k, a) } }
              (s.setStep c b (st1.settleApplied (s.checks cx st) t key.slot s.tick.number)).ackTo m.sender m.msg stOk false
            else s

/-- CONTRIBUTION_NOTICE, R371. -/
def execContributionNotice (m : ContribMsg) (s : State) : Host.Outcome State Fault Refusal :=
  .next (s.receive msgControl m.epoch (fun a => a.contribution m))

/-- R371: at a commit a sender tells the owners of its keyed contributions whether its stitch committed. -/
def State.sendContribNotices (s : State) (r : RunStitch) (committed : Bool) : State :=
  r.keyed.foldl (fun (a : State) k =>
    a.notify k.dest (if committed then .commit else .tear) [if k.peer then 1 else 0, k.garment, k.seg, k.off, k.key, k.msg]) s

-- ---------------------------------------------------------------- summation and checks (R369, R381 to R383)

/-- R369: the FIXED sum of one element over slots in ascending order. -/
def fixedSum (xs : List Nat) : Nat :=
  Fmt.fp32.encode (xs.foldl (fun (a : FVal) x => (fl32 a (Fmt.fp32.read x)).1) (.fin false 0 0))

/-- FIXED_SUMMATION_DONE, R369: every SUM element of a settled tile is formed from its slots in ascending order. A check of an adder that
fails (R379) at an addition of a slot tears the tile with RESIDUE and counts toward the bank's fence (R380). -/
def execFixedSummationDone (ctx buf : Nat) (done : SummedTile) (s : State) : Host.Outcome State Fault Refusal :=
  let tile := done.tile
  match s.stepOf ctx buf with
  | none => .next s
  | some st =>
    match (s.ctx? ctx).bind (fun cx => FMap.get? cx.segs st.redSeg) with
    | none => .next s
    | some d =>
      let r := st.tile tile
      if st.state != .open_ || !st.mode.fixed || !st.slotsSettled r || r.summed || r.torn.isSome then .next s
      else
        let slots := (r.slots.filter (fun p => p.2.landed)).map Prod.fst
        let words := slots.map (fun k => (k, s.tileWords ctx d st.redSeg (st.areaTile buf (1 + k) tile)))
        match words.find? (fun p => p.2.isNone), done.adderBad.filter slots.contains with
        | some (k, _), _ => .next (s.setStep ctx buf (st.tear tile tearPoison k))
        | none, some k =>
          .next ((s.countResidue ctx d st.redSeg (65536 * st.areaTile buf 0 tile)).setStep ctx buf (st.tear tile tearResidue k))
        | none, none =>
          let cols := words.map (fun p => p.2.getD [])
          let sums := (List.range 16384).map (fun i => fixedSum (cols.map (fun w => w.getD i 0)))
          let s1 := s.putTile ctx d st.redSeg (st.areaTile buf 0 tile) ((sums.map (natLE 4)).flatten)
          .next (s1.setStep ctx buf (st.setTile tile { r with summed := true }))

/-- A rational as an FP64 value rounded upward; it is not negative. -/
def f64Up (v : FVal) : FVal := f64Round true v

/-- R382: the bound B, every operation rounded upward. -/
def checksumBound (abssum : FVal) (c : Nat) : FVal :=
  let n := 16384
  let mul := f64Mul true
  let add := f64Add true
  let gamma := add (mul (.fin false (c - 1) 0) (.fin false 1 (-24))) (mul (.fin false (2 * n + c) 0) (.fin false 1 (-53)))
  let flush := mul (mul (.fin false n 0) (.fin false c 0)) (.fin false 1 (-126))
  mul (add (.fin false 1 0) (.fin false 1 (-10))) (add (mul gamma abssum) flush)

/-- R382: whether a finite sum passes. -/
def checksumPasses (rsum cksum abssum : FVal) (c : Nat) : Bool :=
  let diff := (f64Exact rsum cksum.neg).abs
  !FVal.lt (checksumBound abssum c) (f64Up diff)

/-- CHECKSUM_COMPARE, R381 to R383: the finished SUM tile is compared with its ledger sums. -/
def execChecksumCompare (ctx buf tile : Nat) (s : State) : Host.Outcome State Fault Refusal :=
  match s.ctx? ctx, s.stepOf ctx buf with
  | some cx, some st =>
    match FMap.get? cx.segs st.redSeg with
    | none => .next s
    | some d =>
      let r := st.tile tile
      if st.state != .open_ || !s.checks cx st || !st.slotsSettled r || r.checked || r.torn.isSome || (st.mode.fixed && !r.summed) ||
          r.landed = 0 then .next s
      else match s.tileWords ctx d st.redSeg (st.areaTile buf 0 tile) with
        | none => .next (s.setStep ctx buf (st.tear tile tearPoison 0))
        | some ws =>
          let rs := f64Sum false ws
          let k := f64Read r.cksum
          let a := f64Read r.abssum
          if !(rs.isFin && k.isFin && a.isFin) then .next (s.setStep ctx buf (st.setTile tile { r with checked := true, nonfinite := true }))
          else if checksumPasses rs k a r.landed then .next (s.setStep ctx buf (st.setTile tile { r with checked := true }))
          else .next (s.setStep ctx buf (st.tear tile tearChecksum 0))
  | _, _ => .next s

/-- DIVISOR_WRITE, R376: in the tick after COMPLETE the divisor array is written. -/
def execDivisorWrite (ctx buf : Nat) (s : State) : Host.Outcome State Fault Refusal :=
  match s.stepOf ctx buf with
  | none => .next s
  | some st =>
    if st.divWritten || !(st.state = .complete || st.state = .sealed) then .next s
    else
      let bs := ((List.range st.tiles).map (fun t => natLE 4 (st.divisor (st.tile t)))).flatten
      .next ((s.writeCtx ctx (ctxAddr st.divSeg st.divOff) bs).setStep ctx buf { st with divWritten := true })

-- ---------------------------------------------------------------- step 1 of a commit (R374, R375, R384 to R388)

/-- R374: applies this tick's notices. -/
def Step.applyNotices (st : Step) : Step :=
  let st1 := st.notices.foldl (fun (a : Step) n =>
    if n.2.2 then
      let r := a.tile n.1
      { a with ledger := FMap.set a.ledger n.1 { r with slots := FMap.modify r.slots n.2.1 (fun x => { x with landed := x.appliedAt.isSome }) } }
    else a.tear n.1 tearDropped n.2.1) st
  { st1 with notices := [] }

/-- R372: tears by PARTIAL and NOTICE at commit `tick`. -/
def Step.tearStale (st : Step) (tick : Nat) : Step :=
  st.ledger.foldl (fun (a : Step) p =>
    p.2.slots.foldl (fun (b : Step) q =>
      match q.2.appliedAt with
      | none => if q.2.startedAt ≤ tick then b.tear p.1 tearPartial q.1 else b
      | some t => if !q.2.landed && t < tick then b.tear p.1 tearNotice q.1 else b) a) st

/-- The lowest torn tile: its index, reason and slot. -/
def Step.lowestTorn (st : Step) : Option (Nat × Nat × Nat) := st.ledger.findSome? (fun p => p.2.torn.map (fun x => (p.1, x.1, x.2)))

/-- The lowest tile, and its lowest slot, that lacks a slot which `have_` accepts. -/
def Step.lowestMissing (st : Step) (have_ : SlotRec → Bool) : Option (Nat × Nat) :=
  (List.range st.tiles).findSome? (fun t =>
    let r := st.tile t
    ((List.range st.contrib).find? (fun k => match FMap.get? r.slots k with | some x => !have_ x | none => true)).map (fun k => (t, k)))

/-- How many contributions are omitted (R375). -/
def Step.omitted (st : Step) : Nat :=
  if st.omitting then st.tiles * st.contrib - (st.ledger.map (fun p => p.2.slots.length)).foldl (· + ·) 0 else 0

/-- R384, R385: the notice of a step's state to the garment's other members, sent in the next tick. -/
def State.tellStep (s : State) (c : Nat) (st : Step) (n : Notice) : State :=
  match (s.ctx? c).bind (fun cx => cx.garment) with
  | some g => if st.garment then s.notifyAll g n [g, st.step, st.attempt] else s
  | none => s

/-- R388, R454: the step's end completion. -/
def State.putStepEnd (s : State) (c b : Nat) (st : Step) : State :=
  match s.ctx? c with
  | none => s
  | some cx =>
    let done := st.state = .done
    let (code, tile, slot, origin) := if done then (0, 0, 0, 0) else st.why
    let sat := fun (n : Nat) => Nat.min n 65535
    let tag := code + (if done then 0 else 16) + b * 32 + st.attempt * 64
    let torn := (st.ledger.filter (fun p => p.2.torn.isSome)).length
    let nonfin := (st.ledger.filter (fun p => p.2.nonfinite)).length
    let bs := completionWords s stOk 3 tag (slot % 128 + origin % 256 * 2 ^ 8)
      [st.step, tile, sat torn + sat st.omitted * 2 ^ 16, sat nonfin + sat st.rejected * 2 ^ 16, st.sealedAt % 2 ^ 32]
    (s.modCtx c (fun x => { x with owed := x.owed - 1 })).emit
      { spool := cx.cplSpool, gen := s.spoolGen cx.cplSpool, kind := .stepEnd, ctx := c + 1, key := b, bytes := bs }

/-- R388: a step ends in REPEAT: the host may reopen it. -/
def State.repeatStep (s : State) (c b : Nat) (st : Step) (why : Nat × Nat × Nat × Nat) : State :=
  let st1 := { st with state := .repeat_, why := why }
  let s1 := (s.setStep c b st1).modCtx c (fun x => { x with train := { x.train with
    last := x.train.last.map (fun l => if l.1 = st.step && l.2.1 = st.attempt then (l.1, l.2.1, true) else l) } })
  (s1.putStepEnd c b st1).tellStep c st1 .stepAbort

/-- R375: the deadline commit: STRICT repeats a step with a missing slot, LENIENT omits the slots that have not started. -/
def State.stepDeadline (s : State) (c b : Nat) : State :=
  match s.stepOf c b with
  | none => s
  | some st =>
    if st.state != .open_ || s.tick.number != st.deadline then s
    else if st.mode.lenient then
      if st.omitting then s
      else
        let st1 := { st with omitting := true }
        let s1 := s.setStep c b st1
        match st.lowestMissing (fun _ => true) with
        | none => s1
        | some (t, k) =>
          let tiles := st.tiles - (st.ledger.filter (fun p => p.2.slots.length = st.contrib)).length
          s1.ctxEvent c 0x1A 0 [st.step % 2 ^ 16 + st.attempt * 2 ^ 16, st1.omitted % 2 ^ 32, tiles, t + k * 2 ^ 22]
    else match st.lowestMissing SlotRec.isApplied with
      | none => s
      | some (t, k) => s.repeatStep c b st (whyMissing, t, k, 0)

/-- R374: marks the tiles that are done. -/
def Step.markDone (st : Step) (check : Bool) : Step :=
  { st with ledger := st.ledger.map (fun p =>
      (p.1, if st.slotsSettled p.2 && !st.pendingWork check p.2 then { p.2 with done := true } else p.2)) }

/-- R374: whether every tile is done: one that no addition reached is, where its slots were all omitted. -/
def Step.allDone (st : Step) : Bool := st.ledger.all (fun p => p.2.done) && (st.ledger.length = st.tiles || st.omitting)

/-- R374: the ledger of an OPEN step at a commit. -/
def State.openStep1 (s : State) (c b : Nat) : State :=
  match s.ctx? c, s.stepOf c b with
  | some cx, some st0 =>
    if st0.state != .open_ then s
    else
      let st := st0.applyNotices.tearStale s.tick.number
      let s1 := s.setStep c b st
      match st.lowestTorn with
      | some (t, k, sl) => s1.repeatStep c b st (k, t, sl, 0)
      | none =>
        let s2 := s1.stepDeadline c b
        match s2.stepOf c b with
        | none => s2
        | some st2 =>
          if st2.state != .open_ then s2
          else
            let st3 := st2.markDone (s.checks cx st2)
            if st3.allDone then
              let st4 := { st3 with state := .complete, completeAt := s.tick.number }
              (s2.setStep c b st4).tellStep c st4 .stepComplete
            else s2.setStep c b st3
  | _, _ => s

/-- R384: whether a step may seal: COMPLETE from every member, itself included, or SEALED from any; a step of one device seals at the
commit after COMPLETE. -/
def State.maySeal (s : State) (cx : Context) (st : Step) : Bool :=
  if !st.garment then true
  else !st.sealedFrom.isEmpty || (match cx.garment with
    | some g => (s.otherMembers g).all (fun m => st.completeFrom.contains m)
    | none => true)

/-- R384 to R386: a commit seals a COMPLETE step, repeats it for an ABORT, or decides it after a loss. -/
def State.garmentStep1 (s : State) (c b : Nat) : State :=
  match s.ctx? c, s.stepOf c b with
  | some cx, some st =>
    if st.state != .open_ && st.state != .complete then s
    else
      let ready := st.state = .complete && st.completeAt < s.tick.number && s.maySeal cx st
      let torn := match st.lowestTorn with | some (t, _, k) => (t, k) | none => (0, 0)
      match ready, st.abortFrom, st.lostAt with
      | true, _, _ =>
        let st1 := { st with state := .sealed, sealedAt := s.tick.number }
        let s1 := (s.setStep c b st1).tellStep c st1 .stepSealed
        if st.replay then s1.repeatStep c b st1 (0, 0, 0, 0) else s1
      | false, some m, _ => s.repeatStep c b st (whyAbort, 0, 0, m % 16 + m / 16 * 16)
      | false, none, some l => if l < s.tick.number then s.repeatStep c b st (tearLost, torn.1, torn.2, 0) else s
      | false, none, none => s
  | _, _ => s

/-- R374, R384 to R386: a context's steps at a commit, before its other completions. -/
def State.stepsStep1 (s : State) (c : Nat) : State :=
  [0, 1].foldl (fun (a : State) b =>
    (a.openStep1 c b).garmentStep1 c b) s

/-- R388: an optimiser entry of a list has committed: the sealed step it belongs to counts it, and is DONE with the last. -/
def State.optCommitted (s : State) (c list n : Nat) : State :=
  let sealed_ := [0, 1].filterMap (fun b => match s.stepOf c b with
    | some st => if st.state = .sealed && st.optList = list then some (b, st) else none
    | none => none)
  let first := match sealed_ with
    | [] => none
    | [p] => some p
    | p :: q :: _ => if p.2.sealedAt ≤ q.2.sealedAt then some p else some q
  match first with
  | none => s
  | some (b, st) => s.setStep c b { st with optDone := st.optDone + n }

/-- R388: sealed steps whose optimiser entries have all committed are DONE. -/
def State.finishSteps (s : State) (c : Nat) : State :=
  [0, 1].foldl (fun (a : State) b =>
    match a.stepOf c b with
    | none => a
    | some st =>
      if st.state = .sealed && st.optCount ≤ st.optDone then
        let st1 := { st with state := .done }
        let a1 := (a.setStep c b st1).modCtx c (fun x => { x with train := { x.train with lastDone := some st.step } })
        a1.putStepEnd c b st1
      else a) s

/-- R387: whether a list's head is held because it belongs to a step that has not sealed. -/
def Context.optHeld (cx : Context) (list : Nat) : Bool :=
  let mine := [cx.train.buf0, cx.train.buf1].filterMap (fun b => match b with
    | some st => if st.optList = list then some st else none
    | none => none)
  !mine.isEmpty && !mine.any (fun st => st.state = .sealed && st.optDone < st.optCount && !st.replay)

/-- R386, R429: a lost member's contributions that have not landed tear their tiles, and its garment steps are to be decided. -/
def State.loseStepMember (s : State) (c member : Nat) : State × Nat :=
  [0, 1].foldl (fun (a : State × Nat) b =>
    match a.1.stepOf c b with
    | none => a
    | some st =>
      if st.state = .open_ || st.state = .complete then
        let st1 := if st.state = .open_ then
            st.ledger.foldl (fun (x : Step) p =>
              match p.2.slots.find? (fun q => q.2.sender = member && !q.2.landed) with
              | some (k, _) => x.tear p.1 tearLost k
              | none => x) st
          else st
        let torn := (st1.ledger.filter (fun p => p.2.torn.isSome)).length - (st.ledger.filter (fun p => p.2.torn.isSome)).length
        let st2 := if st1.garment then { st1 with lostAt := st1.lostAt.orElse (fun _ => some a.1.tick.number) } else st1
        (a.1.setStep c b st2, a.2 + torn)
      else a) (s, 0)

/-- LEDGER_DEADLINE, R375. -/
def execLedgerDeadline (ctx buf : Nat) (s : State) : Host.Outcome State Fault Refusal := .next (s.stepDeadline ctx buf)

/-- The buffer of a context's unfinished garment step of a number and attempt. -/
def State.noticeStep (s : State) (c step attempt : Nat) : Option (Nat × Step) :=
  [0, 1].findSome? (fun b => match s.stepOf c b with
    | some st => if st.garment && st.step = step && st.attempt = attempt && (st.state = .open_ || st.state = .complete) then some (b, st) else none
    | none => none)

/-- STEP_COMPLETE_NOTICE, R384: COMPLETE or SEALED from a member. -/
def execStepCompleteNotice (ctx step attempt member : Nat) (sealed_ : Bool) (s : State) : Host.Outcome State Fault Refusal :=
  match s.noticeStep ctx step attempt with
  | none => .next s
  | some (b, st) =>
    .next (s.setStep ctx b (if sealed_ then { st with sealedFrom := member :: st.sealedFrom.filter (· != member) }
      else { st with completeFrom := member :: st.completeFrom.filter (· != member) }))

/-- STEP_ABORT_NOTICE, R385. -/
def execStepAbortNotice (ctx step attempt member : Nat) (s : State) : Host.Outcome State Fault Refusal :=
  match s.noticeStep ctx step attempt with
  | none => .next s
  | some (b, st) => .next (s.setStep ctx b { st with abortFrom := st.abortFrom.orElse (fun _ => some member) })

end Sys2Proof.Machine
end

