-- ==== Sys2Proof/Machine/Bolt.lean ====
section
/-! DEFINITION. The Bolt (R312 to R320, R334, R481, R573): blocks, manifests, installs, repairs, reads that fail and blocks that retire. -/

namespace Sys2Proof.Machine

/-- R312: bytes of a block, and granules of a block. -/
def blockBytesBolt : Nat := 67108864
def blockGranules : Nat := 32
/-- R312: pages of a granule. -/
def granulePages : Nat := 512
/-- R312: user, spare and service blocks of a stack. -/
def userBlockCount : Nat := 29802
def spareBlockCount : Nat := 1792
def serviceBlockCount : Nat := 64

/-- R318: the length of a manifest. -/
def manifestLen (granules sig : Nat) : Nat := 64 + 32 * granules + sig

/-- R318: blocks of the manifest, which lie ahead of those of the granules. -/
def manifestBlocks (granules sig : Nat) : Nat := (manifestLen granules sig + blockBytesBolt - 1) / blockBytesBolt

/-- R318, R319: blocks of one copy of an image. -/
def copyBlocks (granules sig : Nat) : Nat := manifestBlocks granules sig + (granules + blockGranules - 1) / blockGranules

/-- R313: how many of a copy's blocks lie in a stack: with one copy they alternate, with two each stack holds a whole copy. -/
def stackBlocks (copies n k : Nat) : Nat := if copies = 2 then n else if k = 0 then (n + 1) / 2 else n / 2

/-- The blocks of one copy of an image. -/
def BoltImage.blocks (b : BoltImage) : Nat := copyBlocks b.granules (word32 b.manifest 0x14 % 2 ^ 16)

/-- R313: the stack that block `i` of a copy is laid in: block i of a single copy in stack i mod 2. -/
def layoutStack (copies copy i : Nat) : Nat := if copies = 2 then copy % 2 else i % 2

/-- R313, R315: the stack and the number of the block that holds block `i` of a copy. -/
def BoltImage.placeOf (b : BoltImage) (copy i : Nat) : Nat × Nat := ((b.places.getD copy [])[i]?).getD (layoutStack b.copies copy i, 0)

/-- R313: the stack that holds block `i` of a copy. -/
def BoltImage.stackOf (b : BoltImage) (copy i : Nat) : Nat := (b.placeOf copy i).1

/-- The block of a copy that holds a granule. -/
def BoltImage.blockOf (b : BoltImage) (g : Nat) : Nat :=
  manifestBlocks b.granules (word32 b.manifest 0x14 % 2 ^ 16) + g / blockGranules

/-- The granules of a block of a copy. -/
def BoltImage.granulesOf (b : BoltImage) (block : Nat) : List Nat := (List.range b.granules).filter (fun g => b.blockOf g = block)

/-- R318: the digest of a granule in a manifest. -/
def manifestDigest (m : List Byte) (g : Nat) : Nat := leNat (slice m (64 + 32 * g) 32)

/-- A granule's bytes in an image. -/
def BoltImage.granule (b : BoltImage) (g : Nat) : List Byte := Mem.readN b.content (granuleBytes * g) granuleBytes

/-- A stack of the Bolt. -/
def State.bolt (s : State) (k : Nat) : BoltStack := if k = 0 then s.bolt0 else s.bolt1

/-- Applies `f` to a stack of the Bolt. -/
def State.modBolt (s : State) (k : Nat) (f : BoltStack → BoltStack) : State :=
  if k = 0 then { s with bolt0 := f s.bolt0 } else { s with bolt1 := f s.bolt1 }

/-- An installed image version. -/
def State.image? (s : State) (image version : Nat) : Option BoltImage :=
  s.images.find? (fun b => b.image = image && b.version = version && b.state != .installing)

/-- The version installed under a number, apart from one that is pinned. -/
def State.installed? (s : State) (image : Nat) : Option BoltImage :=
  s.images.find? (fun b => b.image = image && b.state != .installing && !b.pinned)

/-- An install under way. -/
def State.installing? (s : State) (image : Nat) : Option BoltImage :=
  s.images.find? (fun b => b.image = image && b.state = .installing)

/-- Whether two records are of the same image version, both installed or both an install under way. -/
def BoltImage.same (b x : BoltImage) : Bool :=
  x.image = b.image && x.version = b.version && (x.state = .installing) = (b.state = .installing)

/-- Applies `f` to the images that `p` selects. -/
def State.modImages (s : State) (p : BoltImage → Bool) (f : BoltImage → BoltImage) : State :=
  { s with images := s.images.map (fun b => if p b then f b else b) }

/-- R317: user blocks that hold no image. -/
def BoltStack.freeBlocks (b : BoltStack) : Nat := (userBlockCount - b.fresh) + b.free.length

/-- R315: a block's erase count. -/
def BoltStack.erasesOf (b : BoltStack) (n : Nat) : Nat := FMap.getD b.erases n 0

/-- R315: takes the free user block with the fewest erase cycles; one never used has none (assumption 80 on ties). -/
def BoltStack.pick (b : BoltStack) : Option (Nat × BoltStack) :=
  if b.fresh < userBlockCount then some (b.fresh, { b with fresh := b.fresh + 1 })
  else match b.free with
    | [] => none
    | x :: t =>
      let v := t.foldl (fun m y => if b.erasesOf y < b.erasesOf m then y else m) x
      some (v, { b with free := b.free.filter (fun y => y != v) })

/-- Takes a free user block of a stack. -/
def State.pickBlock (s : State) (k : Nat) : Option ((Nat × Nat) × State) :=
  match (s.bolt k).pick with
  | some (v, b) => some ((k, v), s.modBolt k (fun _ => b))
  | none => none

/-- R313, R315: takes the blocks of every copy of an image of `n` blocks, copy by copy in order, where they fit. -/
def State.takeBlocks (s : State) (copies n : Nat) : State × List (List (Nat × Nat)) :=
  (List.range copies).foldl (fun (p : State × List (List (Nat × Nat))) c =>
    let q := (List.range n).foldl (fun (q : State × List (Nat × Nat)) i =>
      match q.1.pickBlock (layoutStack copies c i) with
      | some (at_, s1) => (s1, q.2 ++ [at_])
      | none => q) (p.1, [])
    (q.1, p.2 ++ [q.2])) (s, [])

/-- Gives a block back to the free user blocks of its stack. -/
def State.freeBlock (s : State) (p : Nat × Nat) : State := s.modBolt p.1 (fun b => { b with free := b.free ++ [p.2] })

/-- R313, R319: whether the free user blocks hold every copy. -/
def State.blocksFit (s : State) (copies n : Nat) : Bool :=
  [0, 1].all (fun k => decide (stackBlocks copies n k ≤ (s.bolt k).freeBlocks))

/-- Frees an image's blocks and forgets it; a repair has only the blocks not switched yet (R573). -/
def State.dropImage (s : State) (b : BoltImage) : State :=
  let s1 := { s with images := s.images.filter (fun x => !b.same x) }
  (b.places.flatten ++ (b.taken ++ b.rewritten).map (fun e => (e.2.2.1, e.2.2.2))).foldl (fun (a : State) p => a.freeBlock p) s1

-- ---------------------------------------------------------------- BOLT_INSTALL (R318, R319, R481)

/-- R318: the manifest staged at a host address: its header tells its length. -/
def State.readManifest (s : State) (a : Nat) : List Byte :=
  let g := Mem.readLE s.host (a + 0x0C) 4
  let sig := Mem.readLE s.host (a + 0x14) 2
  Mem.readN s.host a (manifestLen g sig)

/-- R318: whether a manifest's fields are valid. -/
def manifestOk (m : List Byte) : Bool :=
  let w := word32 m
  w 0 = 1 && w 4 < 2 ^ 10 && w 8 != 0 && w 0x0C != 0 && w 0x10 < 2 ^ 12 && bits (w 0x10) 8 4 ≤ 1 && w 0x14 = sigLen (bits (w 0x10) 8 4) &&
  w 0x18 = 0 && w 0x1C = 0

/-- R584: the signature of a manifest. -/
def State.checkManifest (s : State) (m : List Byte) : Nat :=
  let w := word32 m 0x10
  s.thimble.check .image (bits w 0 8) (bits w 8 4) m

/-- R319, R481: the install that a command starts. -/
def installOf (m : List Byte) (copies num a : Nat) (mode : InstallMode) : BoltImage :=
  { image := word32 m 4, version := word32 m 8, granules := word32 m 0x0C, manifest := m, copies := copies, state := .installing, damaged := [],
    bad := [], pinned := false, content := [], cmd := some num, mode := mode, stagedAt := a, verified := false, taken := [], rewritten := [], places := [] }

/-- R319, R481, R568, R573: BOLT_INSTALL. -/
def actBoltInstall (r : CmdReq) (s : State) : CmdResult :=
  s.devCmd r .plain [(0x08, fld 0 32), (0x0C, fld 0 32), (0x10, fld 0 5)] (
    let a := r.d 0x08
    let m := s.readManifest a
    let copies := if bit (r.w 0x10) 2 then 2 else 1
    let replace := bit (r.w 0x10) 3
    let repair := bit (r.w 0x10) 4
    let image := word32 m 4
    if a % 4096 != 0 || r.f 0x10 0 2 = 3 || !manifestOk m then s.fail stBadParam
    else if s.thimbleBusy || (s.installing? image).isSome then s.fail stBusy
    else
      let sig := s.checkManifest m
      if repair then
        match s.installed? image with
        | none => s.fail stBadParam
        | some b =>
          if b.manifest != m then s.fail stBadParam
          else if sig != stOk then (s, some (sig, [image, word32 m 8]))
          else if !([0, 1].any (fun k => decide (0 < (s.bolt k).freeBlocks))) then s.fail stNoRoom
          else { s with images := s.images ++ [installOf m b.copies r.num a .repair] }.startedCmd
      else
        let old := s.installed? image
        let newer := match old with | some b => decide (b.version < word32 m 8) | none => true
        if old.isSome && !replace then s.fail stBusy
        else if !newer then s.fail stBadParam
        else if sig != stOk then (s, some (sig, [image, word32 m 8]))
        else
          let b := installOf m copies r.num a (if replace then .replace else .new)
          if !s.blocksFit copies b.blocks then s.fail stNoRoom
          else
            let (s1, at_) := s.takeBlocks copies b.blocks
            { s1 with images := s.images ++ [{ b with places := at_ }] }.startedCmd)

/-- Command 0x43. -/
def rowBoltInstall : CmdRow := { op := 0x43, mgmt := true, stages := false, act := actBoltInstall }

/-- BOLT_INSTALL, R481. -/
def execBoltInstall (r : CmdReq) (s : State) : Host.Outcome State Fault Refusal := .next (s.perform rowBoltInstall r)

/-- The bytes of a staged image's granule. -/
def State.stagedGranule (s : State) (b : BoltImage) (g : Nat) : List Byte :=
  Mem.readN s.host (b.stagedAt + b.manifest.length + granuleBytes * g) granuleBytes

/-- R319 step 4: every granule of a staged image has been streamed, checked against its digest, written and read back: the first mismatch
abandons the install. -/
def State.verifyInstall (s : State) (image : Nat) : State :=
  match s.installing? image with
  | none => s
  | some b =>
    match b.cmd, b.verified with
    | some n, false =>
      match (List.range b.granules).find? (fun g => sha256 (s.stagedGranule b g) != manifestDigest b.manifest g) with
      | some g => (s.dropImage b).dueCmd n stBadDigest [b.image, b.version, g]
      | none =>
        let bytes := Mem.readN s.host (b.stagedAt + b.manifest.length) (granuleBytes * b.granules)
        (s.modImages (fun x => x.image = image && x.state = .installing) (fun x =>
          { x with verified := true, content := Mem.writeN [] 0 bytes })).dueCmd n stOk [b.image, b.version]
    | _, _ => s

/-- BOLT_INSTALL_VERIFIED, R319: after the last block is verified the install completes at the next commit. -/
def execBoltInstallVerified (image : Nat) (s : State) : Host.Outcome State Fault Refusal :=
  if 1024 ≤ image then .fault .noSuchUnit else .next (s.verifyInstall image)

/-- Whether the shared stock holds a copy of an image version. -/
def State.mapped (s : State) (image version : Nat) : Bool :=
  match FMap.get? s.stock image with | some k => k.version = version | none => false

/-- R320: a replaced version stays pinned while it is mapped here, and is freed otherwise. -/
def State.retireVersion (s : State) (b : BoltImage) : State :=
  if s.mapped b.image b.version then
    s.modImages (fun x => x.image = b.image && x.version = b.version && x.state != .installing) (fun x => { x with pinned := true })
  else s.dropImage b

/-- An image's block, its place replaced. -/
def BoltImage.moved (b : BoltImage) (copy block : Nat) (p : Nat × Nat) : BoltImage :=
  { b with places := b.places.mapIdx (fun c l => if c = copy then l.mapIdx (fun i q => if i = block then p else q) else l) }

/-- R573: step 3 of a commit switches the blocks that a repair has rewritten: their granules are no longer damaged, and the old blocks are free. -/
def State.switchBlocks (s : State) (b : BoltImage) : State :=
  let s1 := b.rewritten.foldl (fun (a : State) e =>
    let gs := b.granulesOf e.2.1
    let old := match a.image? b.image b.version with | some x => (x.places.getD e.1 [])[e.2.1]? | none => none
    let a1 := match old with | some p => a.freeBlock p | none => a
    a1.modImages (fun x => x.image = b.image && x.version = b.version && x.state != .installing) (fun x =>
      let left := x.damaged.filter (fun g => !gs.contains g)
      { x.moved e.1 e.2.1 e.2.2 with
        damaged := left
        bad := x.bad.filter (fun p => !(p.1 = e.1 && gs.contains p.2))
        state := if left.isEmpty then .valid else .damaged })) s
  s1.modImages (fun x => x.image = b.image && x.version = b.version && x.state = .installing) (fun x => { x with rewritten := [] })

/-- R319 step 5, R481: step 3 of a commit: installs whose blocks are all verified become VALID. -/
def State.commitInstalls (s : State) : State :=
  s.images.foldl (fun (a : State) b =>
    if b.state != .installing then a
    else if !b.verified then a.switchBlocks b
    else match b.mode with
      | .repair =>
        let a1 := (a.switchBlocks b).dropImage { b with rewritten := [] }
        a1.modImages (fun x => x.image = b.image && x.version = b.version) (fun x =>
          { x with state := .valid, damaged := [], bad := [], content := b.content })
      | _ =>
        let a1 := match a.installed? b.image with | some o => a.retireVersion o | none => a
        a1.modImages (fun x => x.image = b.image && x.version = b.version && x.state = .installing) (fun x =>
          { x with state := .valid, cmd := none, verified := false })) s

/-- R320: BOLT_REMOVE. -/
def actBoltRemove (r : CmdReq) (s : State) : CmdResult :=
  s.devCmd r .plain [(0x08, fld 0 10), (0x0C, fld 0 32)] (
    let image := r.w 0x08
    let version := r.w 0x0C
    match s.image? image version with
    | none => s.fail stBadParam
    | some b =>
      let filling := match FMap.get? s.stock image with | some k => k.version = version && k.cmd.isSome | none => false
      if s.mapped image version || filling || (s.installing? image).any (fun x => x.mode = .repair && x.version = version) then s.fail stBusy
      else (s.dropImage b).done [])

/-- Command 0x44. -/
def rowBoltRemove : CmdRow := { op := 0x44, mgmt := true, stages := false, act := actBoltRemove }

/-- BOLT_REMOVE, R320, R481. -/
def execBoltRemove (r : CmdReq) (s : State) : Host.Outcome State Fault Refusal := .next (s.perform rowBoltRemove r)

-- ---------------------------------------------------------------- BOLT_STATUS (R317, R481)

/-- R317: erase counts as thousandths of 3,000, saturating; the mean is over the user blocks (assumption 80). -/
def wearMean (b : BoltStack) : Nat := Nat.min 65535 ((b.erases.map Prod.snd).foldl (· + ·) 0 * 1000 / (3000 * userBlockCount))
def wearMax (b : BoltStack) : Nat := Nat.min 65535 ((b.erases.map Prod.snd).foldl Nat.max 0 * 1000 / 3000)

/-- R317, R573: the installed images and the installs; a repair is part of the image it rewrites. -/
def State.listed (s : State) : List BoltImage := s.images.filter (fun b => !(b.state = .installing && b.mode = .repair))

/-- R317: whether an image has a block in a stack, and its damaged granules there. -/
def BoltImage.inStack (b : BoltImage) (k : Nat) : Bool := b.places.any (fun l => l.any (fun p => p.1 = k))
def BoltImage.damagedIn (b : BoltImage) (k : Nat) : Nat :=
  (b.damaged.filter (fun g => b.copies = 2 || b.stackOf 0 (b.blockOf g) = k)).length

/-- R317: the record of a stack. -/
def State.boltRecord (s : State) (k : Nat) : List Byte :=
  let b := s.bolt k
  recordOf [k, b.userBlocks + b.freeBlocks * 2 ^ 16, b.spare + b.retired % 2 ^ 16 * 2 ^ 16, wearMean b + wearMax b * 2 ^ 16,
    Nat.min (2 ^ 32 - 1) b.corrected, Nat.min (2 ^ 32 - 1) b.unreadable,
    (s.listed.filter (fun x => x.inStack k)).length + Nat.min 65535 ((s.listed.map (fun x => x.damagedIn k)).foldl (· + ·) 0) * 2 ^ 16, 0] 32

/-- R481: the code of an image's state. -/
def ImageState.code : ImageState → Nat
  | .valid => 0 | .installing => 1 | .damaged => 2

/-- R481: the record of an installed version: manifest header, state block, damaged granules. -/
def BoltImage.record (b : BoltImage) : List Byte :=
  let n := b.damaged.length
  (b.manifest.take 64 ++ List.replicate 64 0#8).take 64 ++
  recordOf [b.state.code + (if b.copies = 2 then 4 else 0) + (if b.pinned then 8 else 0), n] 32 ++
  recordOf b.damaged (32 * ((n + 7) / 8))

/-- R481: BOLT_STATUS. -/
def rowBoltStatus : CmdRow :=
  { op := 0x45, mgmt := false, stages := false,
    act := fun r s => s.devCmd r .out [] (s.outRecords r ([s.boltRecord 0, s.boltRecord 1] ++ s.listed.map BoltImage.record)) }

/-- BOLT_STATUS, R317, R481. -/
def execBoltStatus (r : CmdReq) (s : State) : Host.Outcome State Fault Refusal := .next (s.perform rowBoltStatus r)

-- ---------------------------------------------------------------- reads and programs (R314 to R316, R334)

/-- R315, R316: what replaces a retired block of a stack: a spare block, of its own stack first, then a free user block, which is taken from
USER_BLOCKS; none where nothing is left. -/
def State.replacement (s : State) (k : Nat) : Option ((Nat × Nat) × State) :=
  let spare := fun (j : Nat) =>
    if 0 < (s.bolt j).spare then
      some ((j, userBlockCount + spareBlockCount - (s.bolt j).spare), s.modBolt j (fun x => { x with spare := x.spare - 1 }))
    else none
  let user := fun (j : Nat) => (s.pickBlock j).map (fun p => (p.1, p.2.modBolt j (fun x => { x with userBlocks := x.userBlocks - 1 })))
  (spare k).orElse (fun _ => (spare (1 - k)).orElse (fun _ => (user k).orElse (fun _ => user (1 - k))))

/-- R315, R541: a block of a stack is retired, and reported. -/
def State.countRetired (s : State) (k block : Nat) : State :=
  let s1 := s.modBolt k (fun x => { x with retired := x.retired + 1 })
  s1.evFence 6 1 false (k + 2 * block) [] ((s1.bolt 0).retired + (s1.bolt 1).retired)

/-- R315, R316: a block of an image retires. Where nothing can replace it, its data is lost to that copy and its granules are damaged; an
install that no longer fits ends with NO_ROOM. -/
def State.retireBlock (s : State) (b : BoltImage) (copy block : Nat) : State :=
  let k := b.stackOf copy block
  let s1 := s.countRetired k (b.placeOf copy block).2
  let this := b.same
  match s1.replacement k with
  | some (p, s2) => s2.modImages this (fun x => x.moved copy block p)
  | none =>
    match b.state, b.cmd with
    | .installing, some n =>
      (s1.dropImage { b with places := b.places.mapIdx (fun c l => if c = copy then l.eraseIdx block else l) }).dueCmd n stNoRoom [b.image, b.version]
    | _, _ => s1.modImages this (fun x => { x with damaged := dedup (x.damaged ++ b.granulesOf block), state := .damaged })

/-- R314, R334: a granule is unreadable from one copy: its block retires; where no local copy is left that can supply it, it is DAMAGED. -/
def State.unreadable (s : State) (b : BoltImage) (copy g : Nat) : State :=
  let k := b.stackOf copy (b.blockOf g)
  let bad := if b.bad.contains (copy, g) then b.bad else b.bad ++ [(copy, g)]
  let gone := (List.range b.copies).all (fun c => bad.contains (c, g))
  let s1 := (s.modBolt k (fun x => { x with unreadable := satAdd (2 ^ 32 - 1) x.unreadable 1 })).modImages
    b.same (fun x =>
      { x with
        bad := bad
        damaged := if gone && !x.damaged.contains g then x.damaged ++ [g] else x.damaged
        state := if gone && x.state = .valid then .damaged else x.state })
  s1.retireBlock b copy (b.blockOf g)

/-- R314, R315: one read of a page with its bit errors, and whether its granule's digest matched, and the second read where the first
failed. -/
def State.boltRead (s : State) (b : BoltImage) (copy page errs1 errs2 : Nat) (digest1 digest2 : Bool) : State :=
  let g := page / granulePages
  let k := b.stackOf copy (b.blockOf g)
  let key := (b.image, b.version, copy, page)
  let bad1 := 72 < errs1 || !digest1
  let bad2 := 72 < errs2 || !digest2
  let fixed := fun (e : Nat) (x : BoltStack) => if 0 < e && e ≤ 72 then { x with corrected := satAdd (2 ^ 32 - 1) x.corrected 1 } else x
  let s1 := s.modBolt k (fixed errs1)
  let was := (s1.bolt k).heavy.contains key
  let seq := if bad1 then [was, 48 < errs1, 48 < errs2] else [was, 48 < errs1]
  let twice := match seq with
    | [x, y, z] => (x && y) || (y && z)
    | [x, y] => x && y
    | _ => false
  let last := if bad1 then 48 < errs2 else 48 < errs1
  let s2 := (if bad1 then s1.modBolt k (fixed errs2) else s1).modBolt k (fun x =>
    { x with heavy := if last then (if was then x.heavy else x.heavy ++ [key]) else x.heavy.filter (· != key) })
  if bad1 && bad2 then s2.unreadable b copy g
  else if twice then s2.retireBlock b copy (b.blockOf g)
  else s2

/-- BOLT_PAGE_READ, R313, R314, R315: a page of a copy of an image version is read: the bit errors met and whether the granule's digest matched, at
the first read and at the second. The message that asks competes with the DL of Olukor's background traffic (R219). -/
def execBoltPageRead (image version copy : Nat) (page : PageRead) (errs1 errs2 : Nat) (digest1 digest2 : Bool) (s : State) :
    Host.Outcome State Fault Refusal :=
  if 1024 ≤ image || 2 ≤ copy then .fault .noSuchUnit
  else
    let s1 := s.bid? (page.bid.map (fun b => { b with sender := .background }))
    match s1.image? image version with
    | none => .next s1
    | some b => if b.copies ≤ copy || granulePages * b.granules ≤ page.page then .next s1
        else .next (s1.boltRead b copy page.page errs1 errs2 digest1 digest2)

/-- R573: the block that a repair writes for a block of a copy: the one it has taken, or a free user block, of the layout's stack first. -/
def State.repairBlock (s : State) (b : BoltImage) (copy block : Nat) : Option ((Nat × Nat) × State) :=
  match b.taken.find? (fun e => e.1 = copy && e.2.1 = block) with
  | some e => some (e.2.2, s)
  | none =>
    let k := layoutStack b.copies copy block
    ((s.pickBlock k).orElse (fun _ => s.pickBlock (1 - k))).map (fun p =>
      (p.1, p.2.modImages (fun x => x.image = b.image && x.version = b.version && x.state = .installing) (fun x =>
        { x with taken := x.taken ++ [(copy, block, p.1.1, p.1.2)] })))

/-- R315: an erase of a block adds to its count. -/
def State.countErase (s : State) (p : Nat × Nat) (erase : Bool) : State :=
  if erase then s.modBolt p.1 (fun x => { x with erases := FMap.modifyD x.erases p.2 0 (· + 1) }) else s

/-- R315, R573: a block that a repair writes has been erased or programmed: written, it waits for the next commit's switch. A failure retires
it: the block that replaces it joins the free ones; a repair without a free block ends with NO_ROOM. -/
def State.repairProgram (s : State) (b : BoltImage) (copy block : Nat) (erase failed : Bool) : State :=
  let this := fun (x : BoltImage) => x.image = b.image && x.version = b.version && x.state = .installing
  let drop := fun (x : BoltImage) => { x with taken := x.taken.filter (fun e => !(e.1 = copy && e.2.1 = block)) }
  match s.repairBlock b copy block with
  | none => (match b.cmd with | some n => (s.dropImage b).dueCmd n stNoRoom [b.image, b.version] | none => s)
  | some (p, s1) =>
    let s2 := s1.countErase p erase
    if failed then
      let s3 := (s2.modImages this drop).countRetired p.1 p.2
      match s3.replacement p.1 with | some (q, s4) => s4.freeBlock q | none => s3
    else if erase then s2
    else s2.modImages this (fun x => { drop x with
      rewritten := if x.rewritten.any (fun e => e.1 = copy && e.2.1 = block) then x.rewritten else x.rewritten ++ [(copy, block, p.1, p.2)] })

/-- R315: a block of an image has been erased or programmed. A failure retires it; a success gives the copy back its granules. -/
def State.boltProgram (s : State) (b : BoltImage) (copy block : Nat) (erase failed : Bool) : State :=
  let s1 := s.countErase (b.placeOf copy block) erase
  if failed then s1.retireBlock b copy block
  else if erase then s1
  else s1.modImages b.same (fun x =>
    { x with bad := x.bad.filter (fun p => !(p.1 = copy && (x.granulesOf block).contains p.2 && !x.damaged.contains p.2)) })

/-- BOLT_PAGE_PROGRAM, R315: of an installed version, or with `installing` of the install or repair that runs. -/
def execBoltPageProgram (image version copy block : Nat) (erase failed installing : Bool) (s : State) : Host.Outcome State Fault Refusal :=
  if 1024 ≤ image || 2 ≤ copy then .fault .noSuchUnit
  else match (if installing then s.installing? image else s.image? image version) with
    | none => .next s
    | some b =>
      if b.copies ≤ copy || b.blocks ≤ block then .next s
      else if installing && b.mode = .repair then .next (s.repairProgram b copy block erase failed)
      else .next (s.boltProgram b copy block erase failed)

-- ---------------------------------------------------------------- the service area (R312, R320)

/-- R312: what the service blocks of a stack hold: the directory of images, the install journal, and the repair record. -/
structure ServiceArea where
  directory : List (Nat × Nat × List (List (Nat × Nat)))
  journal : List (Nat × Nat)
  record : RepairRecord
  deriving DecidableEq, Repr

/-- R312: the service area, which is mirrored: every stack's holds the same. -/
def State.serviceArea (s : State) : ServiceArea :=
  { directory := (s.images.filter (fun b => b.state != .installing)).map (fun b => (b.image, b.version, b.places))
    journal := (s.images.filter (fun b => b.state = .installing)).map (fun b => (b.image, b.version))
    record := s.repair }

end Sys2Proof.Machine
end

