-- ==== Sys2Proof/Machine/Lists.lean ====
section
/-! DEFINITION. Stitch lists (R38, R57, R58, R60, R251, R449, R452, R478): the head entry, holds, refusals, the stitch completion, and the
commands LIST_HOLD and LIST_RELEASE. -/

namespace Sys2Proof.Machine

/-- Applies `f` to a list. -/
def State.modList (s : State) (l : Nat) (f : ListState → ListState) : State := { s with lists := FMap.modify s.lists l f }

/-- Takes the pending entry of a list out of admission. -/
def State.unpend (s : State) (l : Nat) : State :=
  { s with adm := { s.adm with pending := s.adm.pending.filter (fun t => t.list != some l) } }

/-- R38: holds a list at its head and raises EV_LIST_HELD with the status of the last run. A list that is held already stays so. -/
def State.holdList (s : State) (l status : Nat) : State :=
  match FMap.get? s.lists l, FMap.get? s.spools l with
  | some ls, some sp =>
    if ls.held then s
    else
      let s1 := (s.modList l (fun x => { x with held := true, headTaken := false })).unpend l
      match sp.owner with
      | some c => s1.ctxEvent c 0x10 0 [spoolHandle sp.gen l, sp.cidx, status + Nat.min 255 ls.drops * 2 ^ 8]
      | none => s1
  | _, _ => s

/-- R452: the words of a stitch completion after its header: those at 0x0C to 0x1C. -/
def stitchWords (user cls : Nat) (wroteOut remote noncanon hold : Bool) (sh acc splits fault pc needle : Nat) (list entry : Nat) : List Nat :=
  let f := fun (b : Bool) (i : Nat) => if b then 2 ^ i else 0
  [user % 2 ^ 16 + cls % 8 * 2 ^ 16 + f wroteOut 19 + f remote 20 + f noncanon 21 + f hold 22 + sh % 32 * 2 ^ 23 + acc % 16 * 2 ^ 28,
   Nat.min 65535 splits + fault % 16 * 2 ^ 16, pc % 2 ^ 13 + needle % 48 * 2 ^ 13 + needle / 48 % 8 * 2 ^ 19, list % 2 ^ 28, entry % 2 ^ 32]

/-- R449, R452: writes the completion of a list's head into the slot it reserved. -/
def State.putStitchEnd (s : State) (c l status program tag : Nat) (words : List Nat) : State :=
  match s.ctx? c with
  | none => s
  | some cx =>
    let s1 := s.emit { spool := cx.cplSpool, gen := s.spoolGen cx.cplSpool, kind := .stitchEnd, ctx := c + 1, key := l,
                       bytes := completionWords s status 1 tag program words }
    (s1.modCtx c (fun x => { x with owed := x.owed - 1 })).modList l (fun x => { x with slot := false })

/-- R58, R251: refuses a list's head: its completion waits for the next commit and the list is held. -/
def State.refuseHead (s : State) (l status : Nat) : State :=
  (s.holdList l status).modList l (fun x => { x with refused := some status })

/-- R452: the class that a descriptor uses under a ceiling (R59). -/
def usedClass (cls ceiling : Nat) : Nat := Nat.min cls ceiling

/-- R57: a stitch descriptor at a host address as a stitch of context `c`; none where a reserved bit is set or the program's number is
reserved (R58). -/
def State.readStitch (s : State) (c : Nat) (cx : Context) (l entry age a : Nat) : Option Stitch :=
  let w := fun off => Mem.readLE s.host (a + off) 4
  let w0 := w 0
  if bits w0 26 6 != 0 || bits (w 4) 16 16 != 0 || 0xF000 ≤ bits w0 0 16 then none
  else some
    { id := s.adm.nextId, ctx := c, program := bits w0 0 16, cls := usedClass (bits w0 16 3) cx.ceiling, want := bits w0 16 3, age := age, tag := bits (w 4) 0 16,
      arg0 := BitVec.ofNat 64 (Mem.readLE s.host (a + 8) 8), arg1 := BitVec.ofNat 64 (Mem.readLE s.host (a + 16) 8),
      arg2 := BitVec.ofNat 64 (Mem.readLE s.host (a + 24) 8), panelMask := bits w0 20 6, repeatable := bit w0 19, list := some l, entry := entry,
      requests := [], skips := 0, heldFor := none }

/-- The descriptor of a list's head, for the fields a refused entry's completion carries. -/
def State.headWord (s : State) (l off : Nat) : Nat :=
  match FMap.get? s.spools l with
  | some sp => Mem.readLE s.host (sp.slotAddr sp.cidx + off) 4
  | none => 0

/-- R58, R251, R452: step 1 of a commit writes the completion of an entry refused at the last one. -/
def State.settleRefused (s : State) (l : Nat) : State :=
  match FMap.get? s.lists l, FMap.get? s.spools l with
  | some ls, some sp =>
    match ls.refused, sp.owner with
    | some st, some c =>
      match s.ctx? c with
      | none => s
      | some cx =>
        let w0 := if st = stHostFault then 0 else s.headWord l 0
        let tag := if st = stHostFault then 0 else bits (s.headWord l 4) 0 16
        let words := stitchWords 0 (usedClass (bits w0 16 3) cx.ceiling) false false false false 0 0 0 0 0 0 (spoolHandle sp.gen l) sp.cidx
        (s.putStitchEnd c l st (bits w0 0 16) tag words).modList l (fun x => { x with refused := none })
    | _, _ => s
  | _, _ => s

/-- R60, R251, R449: step 4 of a commit: the head entry of a list becomes pending, once a completion slot is reserved for it; `failed` says
that the host port reported its read as failed. An entry offered again after a drop is read anew and created anew (R61; assumption 55). -/
def State.readHead (s : State) (l : Nat) (failed : Bool) : State :=
  match FMap.get? s.lists l, FMap.get? s.spools l with
  | some ls, some sp =>
    match sp.owner with
    | none => s
    | some c =>
      match s.ctx? c with
      | none => s
      | some cx =>
        match FMap.get? s.spools cx.cplSpool with
        | none => s
        | some cpl =>
          let room := ls.slot || decide (s.owedTo (.context c) cx.cplSpool + 1 ≤ cpl.free)
          if ls.held || ls.headTaken || sp.count = 0 || !room then s
          else
            let age := ls.age.getD s.tick.number
            let s1 := (if ls.slot then s else s.modCtx c (fun x => { x with owed := x.owed + 1 })).modList l (fun x =>
              { x with slot := true, age := some age })
            if failed then s1.refuseHead l stHostFault
            else match s1.readStitch c cx l sp.cidx age (sp.slotAddr sp.cidx) with
              | none => s1.refuseHead l stBadParam
              | some st =>
                { (s1.useSpool l).modList l (fun x => { x with headTaken := true }) with
                  adm := { s1.adm with pending := s1.adm.pending ++ [st], nextId := s1.adm.nextId + 1 } }
  | _, _ => s

/-- R251, R478: a list's CIDX advances by `n`, its mirror follows, and what was kept of the head is forgotten. -/
def State.advanceList (s : State) (l n : Nat) : State :=
  match FMap.get? s.spools l with
  | none => s
  | some sp =>
    let sp1 := { sp with cidx := (sp.cidx + n) % 2 ^ 32 }
    let s1 := ((s.setSpool l sp1).writeMirror sp1).modList l (fun x => { x with headTaken := false, age := none, drops := 0 })
    if sp1.irq && !s1.msixSent.contains (s1.vecKey sp1) then s1.raise (s1.vecKey sp1) else s1

/-- The list that a handle names for context `c`. -/
def State.cmdList (s : State) (c h : Nat) : Except Nat (Nat × Spool × ListState) :=
  match s.cmdSpool c h with
  | .error e => .error e
  | .ok (i, sp) => match FMap.get? s.lists i with | some ls => .ok (i, sp, ls) | none => .error stBadParam

/-- R478: LIST_HOLD. -/
def actListHold (r : CmdReq) (s : State) : CmdResult :=
  s.ctxCmd r .plain [(0x08, fld 0 28)] (fun c _ =>
    match s.cmdList c (r.w 0x08) with
    | .error e => s.fail e
    | .ok (i, _, _) =>
      let pend := s.adm.pending.any (fun t => t.list = some i)
      ((s.modList i (fun x => { x with held := true, headTaken := x.headTaken && !pend })).unpend i).done [])

/-- Command 0x30. -/
def rowListHold : CmdRow := { op := 0x30, mgmt := false, stages := false, act := actListHold }

/-- LIST_HOLD, R478. -/
def execListHold (r : CmdReq) (s : State) : Host.Outcome State Fault Refusal := .next (s.perform rowListHold r)

/-- R478: LIST_RELEASE discards SKIP entries and lets the list run again. -/
def actListRelease (r : CmdReq) (s : State) : CmdResult :=
  s.ctxCmd r .plain [(0x08, fld 0 28), (0x0C, fld 0 16)] (fun c _ =>
    match s.cmdList c (r.w 0x08) with
    | .error e => s.fail e
    | .ok (i, sp, ls) =>
      let skip := r.w 0x0C
      if sp.count < skip then s.fail stBadParam
      else if !ls.held then s.fail stBusy
      else
        let s1 := if skip != 0 && ls.slot then
            (s.modCtx c (fun x => { x with owed := x.owed - 1 })).modList i (fun x => { x with slot := false, refused := none })
          else s
        let s2 := if skip = 0 then s1 else s1.advanceList i skip
        (s2.modList i (fun x => { x with held := false, headTaken := false, drops := 0, age := none })).done [])

/-- Command 0x31. -/
def rowListRelease : CmdRow := { op := 0x31, mgmt := false, stages := false, act := actListRelease }

/-- LIST_RELEASE, R478. -/
def execListRelease (r : CmdReq) (s : State) : Host.Outcome State Fault Refusal := .next (s.perform rowListRelease r)

/-- R38: holds a list whose head has been dropped 8 times in a row. -/
def State.limitDrops (s : State) (l : Nat) : State :=
  match FMap.get? s.lists l with
  | some ls => if 8 ≤ ls.drops then s.holdList l stLateDropped else s
  | none => s

/-- LIST_DROP_LIMIT, R38. -/
def execListDropLimit (spl : Nat) (s : State) : Host.Outcome State Fault Refusal :=
  if Config.spools ≤ spl then .fault .noSuchUnit else .next (s.limitDrops spl)

end Sys2Proof.Machine
end

