-- ==== Sys2Proof/Machine/Stock.lean ====
section
/-! DEFINITION. The shared stock (R321 to R324, R329 to R334, R480) and loads of a context's weights (R325 to R328, R479). -/

namespace Sys2Proof.Machine

-- ---------------------------------------------------------------- where a copy lies, reading and writing its granules

/-- R321, R333: the channel and channel chunk of a region chunk of a copy. -/
def StockCopy.chunkAt (k : StockCopy) (j : Nat) : Option (Nat × Nat) :=
  match FMap.get? k.rebuilt j with
  | some p => some p
  | none =>
    let m := k.slots.length
    if m = 0 then none else (k.slots[j % m]?).map (fun sl => (sl.1, sl.2 + j / m))

/-- R333: the channel and channel chunk that a write of a region chunk goes to: the one that a running recopy has taken, or where the chunk lies. -/
def StockCopy.writeAt (k : StockCopy) (j : Nat) : Option (Nat × Nat) := (FMap.get? k.switching j).orElse (fun _ => k.chunkAt j)

/-- Applies `f` to a copy. -/
def State.modStock (s : State) (image : Nat) (f : StockCopy → StockCopy) : State := { s with stock := FMap.modify s.stock image f }

/-- Writes the bytes of a channel chunk as full bursts, which removes their poison marks (R267, R331). -/
def State.putChunk (s : State) (ch chunk : Nat) (bs : List Byte) : State :=
  (List.range 1024).foldl (fun (a : State) i =>
    (a.writeBurst ch (1024 * chunk + i) ((slice bs (64 * i) 64).mapIdx (fun o x => (o, x)))).1) s

/-- Writes a granule of a copy: 32 region chunks. -/
def State.putGranule (s : State) (image g : Nat) (bs : List Byte) : State :=
  match FMap.get? s.stock image with
  | none => s
  | some k => (List.range 32).foldl (fun (a : State) i =>
      match k.writeAt (32 * g + i) with
      | some (ch, ck) => a.putChunk ch ck (slice bs (65536 * i) 65536)
      | none => a) s

/-- `n` bytes of a copy from a byte of it on, as they stand. -/
def State.stockBytes (s : State) (k : StockCopy) (off n : Nat) : List Byte :=
  (List.range n).map (fun i =>
    match k.chunkAt ((off + i) / 65536) with
    | some (ch, ck) => Mem.read s.stack (ch * 2 ^ 32 + ck * 65536 + (off + i) % 65536)
    | none => 0)

/-- The granules that `n` bytes from an offset reach. -/
def granulesIn (off n : Nat) : List Nat :=
  if n = 0 then [] else (List.range ((off + n - 1) / granuleBytes + 1 - off / granuleBytes)).map (fun i => off / granuleBytes + i)

/-- R313, R334: the copy that a read of a granule takes: of two copies, alternate blocks from the two stacks; the other one where it cannot be
read there. -/
def BoltImage.readCopy (b : BoltImage) (g : Nat) : Option Nat :=
  let first := if b.copies = 2 then b.blockOf g % 2 else 0
  [first, 1 - first].find? (fun c => decide (c < b.copies) && !b.bad.contains (c, g))

/-- R314, R334: a granule's bytes from the local Bolt: none where no copy can supply it. -/
def State.boltGranule (s : State) (image version g : Nat) : Option (List Byte) :=
  match s.image? image version with
  | some b => if b.damaged.contains g || b.granules ≤ g || (b.readCopy g).isNone then none else some (b.granule g)
  | none => none

/-- R331, R334: the first source, in their order, that yields a granule whose digest matches the manifest: the local Bolt, the Bolt of the
reader that filled the copy, the shared stock of board members (assumption 81 on their order). -/
def State.sourceGranule (s : State) (image version : Nat) (manifest : List Byte) (reader : Option Nat) (fetched : List Supplied) (g : Nat) :
    Option (List Byte) :=
  let of := fun (p : Supplied → Bool) => (fetched.filter (fun x => x.granule = g && p x)).map Supplied.bytes
  ((s.boltGranule image version g).toList ++ of (fun x => x.bolt && some x.pos = reader) ++ of (fun x => !x.bolt)).find?
    (fun bs => sha256 bs = manifestDigest manifest g)

/-- R331: asks board members for a granule: the Bolt of the copy's reader, or the shared stock of every other live member. -/
def State.askGranule (s : State) (image version g : Nat) (reader : Option Nat) (bolt : Bool) : State :=
  let self := s.board.logical s.board.posId
  let to_ := if bolt then reader.toList else (s.board.live.map s.board.logical).filter (fun p => p != self)
  to_.foldl (fun (a : State) p =>
    a.notify (memberOf a.board.boardId p) .granuleRequest [image, version, g, if bolt then 1 else 0]) s

/-- R334: asks members for the granules that the local Bolt cannot supply. -/
def State.askDamaged (s : State) (image version : Nat) (reader : Option Nat) (gs : List Nat) : State :=
  gs.foldl (fun (a : State) g =>
    if (a.boltGranule image version g).isSome then a else (a.askGranule image version g reader true).askGranule image version g reader false) s

-- ---------------------------------------------------------------- STOCK_MAP and STOCK_UNMAP (R321 to R323, R480)

/-- R321: the slots of a FULL Pattern for a copy of `granules` granules, where there is room. -/
def State.stockSlots (s : State) (granules : Nat) : Option (List (Nat × Nat)) :=
  let chans := s.spreadChannels 1 0
  if chans.isEmpty then none else s.findSlots (perSlot (32 * granules) chans.length false) chans

/-- Takes a copy's chunks. -/
def State.takeStock (s : State) (slots : List (Nat × Nat)) (granules : Nat) : State :=
  slots.foldl (fun (a : State) sl => a.takeRun (perSlot (32 * granules) slots.length false) sl) s

/-- Frees a copy's chunks and forgets it; the version it pinned goes with it (R320, R322). -/
def State.dropStock (s : State) (image : Nat) : State :=
  match FMap.get? s.stock image with
  | none => s
  | some k =>
    let s1 := (k.rebuilt ++ k.switching).foldl (fun (a : State) p => a.freeRun p.2) (k.slots.foldl (fun (a : State) sl => a.freeRun sl) s)
    let s2 := { s1 with stock := FMap.del s1.stock image }
    match s2.image? image k.version with
    | some b => if b.pinned then s2.dropImage b else s2
    | none => s2

/-- The positions of a mask, rising. -/
def maskPositions (m : Nat) : List Nat := (List.range 9).filter (fun p => bit m p)

/-- The member at a position of this board. -/
def State.boardMember (s : State) (pos : Nat) : Nat := memberOf s.board.boardId pos

/-- This device's logical position. -/
def State.selfPos (s : State) : Nat := s.board.logical s.board.posId

/-- R323: tells the other sides of a board fill that this one has staged. -/
def State.tellFill (s : State) (k : StockCopy) : State :=
  let to_ := if k.role = 1 then k.peers else if k.role = 2 then [k.reader] else []
  to_.foldl (fun (a : State) p => a.notify (a.boardMember p) .fillStage [k.image, k.version, k.fillId, a.selfPos]) s

/-- R323: the sides of a board fill that told this one so far that they have staged it. -/
def State.fillsHeard (s : State) (k : StockCopy) : List Nat :=
  (s.board.fillHeard.filter (fun x => x.1 = k.image && x.2.1 = k.version && x.2.2.1 = k.fillId)).map (fun x => x.2.2.2.1)

/-- R480: the granules that a fill has to write: all of a new copy, those missing, HELD or LOST of a refreshed one. -/
def StockCopy.wanted (k : StockCopy) : List Nat :=
  (List.range k.granules).filter (fun g => !k.filled.contains g || (FMap.has k.states g && !k.recopied.contains g))

/-- R323: the reader sends the manifest, with the receivers, to each of them. -/
def State.beginFill (s : State) (image : Nat) : State :=
  match FMap.get? s.stock image with
  | none => s
  | some k =>
    let s1 := s.modStock image (fun x => { x with begun := true })
    k.peers.foldl (fun (a : State) p => a.notify (a.boardMember p) .fillData
      ([image, k.version, k.fillId, 0, k.peers.foldl (fun v q => v ||| 2 ^ q) 0] ++ k.manifest.map BitVec.toNat)) s1

/-- R323: the side at a position has staged the fill: the reader begins once every receiver that is not lost has, a receiver with its reader. -/
def State.sideStaged (s : State) (image pos : Nat) : State :=
  match FMap.get? s.stock image with
  | none => s
  | some k =>
    if k.cmd.isNone || k.begun || k.staged.contains pos then s
    else if k.role = 1 && k.peers.contains pos then
      let s1 := s.modStock image (fun x => { x with staged := x.staged ++ [pos] })
      if k.peers.all (fun p => (pos :: k.staged).contains p) then s1.beginFill image else s1
    else if k.role = 2 && k.reader = pos then s.modStock image (fun x => { x with staged := [pos], begun := true })
    else s

/-- R323: the sides that staged before this one are heard when it stages. -/
def State.hearFills (s : State) (image : Nat) : State :=
  match FMap.get? s.stock image with
  | none => s
  | some k => (s.fillsHeard k).foldl (fun (a : State) p => a.sideStaged image p) s

/-- R321, R323, R480: STOCK_MAP. -/
def actStockMap (r : CmdReq) (s : State) : CmdResult :=
  s.devCmd r .plain [(0x08, fld 0 13 + fld 16 16), (0x0C, fld 0 32), (0x10, fld 0 13), (0x14, fld 0 9 + fld 16 4)] (
    let image := r.f 0x08 0 10
    let role := r.f 0x08 10 2
    let refresh := bit (r.w 0x08) 12
    let fillId := r.f 0x08 16 16
    let version := r.w 0x0C
    let hold := if r.w 0x10 = 0 then 64 else r.w 0x10
    let peers := if role = 1 then maskPositions (r.f 0x14 0 9) else []
    let start := fun (k : StockCopy) =>
      { k with holdLimit := hold, cmd := some r.num, refresh := refresh, role := role, fillId := fillId, peers := peers,
               reader := r.f 0x14 16 4, staged := [], stagedAt := s.tick.number, begun := role = 0, leftOut := [], ended := none }
    if role = 3 || 4096 < hold || (role = 0 && fillId != 0) || (role = 2 && 8 < r.f 0x14 16 4) then s.fail stBadParam
    else if s.thimbleBusy then s.fail stBusy
    else match FMap.get? s.stock image with
      | some k =>
        if !refresh then s.fail stBusy
        else if k.version != version then s.fail stBadParam
        else if k.cmd.isSome then s.fail stBusy
        else
          let k1 := start k
          ((({ s with stock := FMap.set s.stock image k1 }.tellFill k1).hearFills image).askDamaged image version k.source
            (if role = 2 then [] else k1.wanted)).startedCmd
      | none =>
        let new : StockCopy :=
          { image := image, version := version, granules := 0, holdLimit := hold, slots := [], rebuilt := [], states := [], readable := none,
            filled := [], recopied := [], fillId := 0, role := 0, peers := [], reader := 0, staged := [], stagedAt := 0, begun := false,
            cmd := none, refresh := false, manifest := [], leftOut := [], ended := none, failedAt := [], recopying := [], switching := [], source := none }
        if refresh then s.fail stBadParam
        else if role = 2 then
          let k1 := start new
          (({ s with stock := FMap.set s.stock image k1 }.tellFill k1).hearFills image).startedCmd
        else match s.image? image version with
          | none => s.fail stBadParam
          | some b =>
            if b.pinned then s.fail stBadParam
            else match s.stockSlots b.granules with
              | none => s.fail stNoRoom
              | some slots =>
                let k1 := start { new with granules := b.granules, slots := slots, manifest := b.manifest }
                ((({ (s.takeStock slots b.granules) with stock := FMap.set s.stock image k1 }.tellFill k1).hearFills image).askDamaged image version none
                  k1.wanted).startedCmd)

/-- Command 0x41. -/
def rowStockMap : CmdRow := { op := 0x41, mgmt := true, stages := false, act := actStockMap }

/-- STOCK_MAP, R480. -/
def execStockMap (r : CmdReq) (s : State) : Host.Outcome State Fault Refusal := .next (s.perform rowStockMap r)

/-- R322: STOCK_UNMAP: BUSY while a current or staged segment names the image, or while it is being filled. -/
def actStockUnmap (r : CmdReq) (s : State) : CmdResult :=
  s.devCmd r .plain [(0x08, fld 0 10)] (
    let image := r.w 0x08
    match FMap.get? s.stock image with
    | none => s.fail stBadParam
    | some k =>
      if k.cmd.isSome || s.contexts.any (fun p => (s.segsOf p.1 p.2).any (fun q => q.2.valid && q.2.kind = 3 && q.2.region = image)) then
        s.fail stBusy
      else (s.dropStock image).done [])

/-- Command 0x42. -/
def rowStockUnmap : CmdRow := { op := 0x42, mgmt := true, stages := false, act := actStockUnmap }

/-- STOCK_UNMAP, R322. -/
def execStockUnmap (r : CmdReq) (s : State) : Host.Outcome State Fault Refusal := .next (s.perform rowStockUnmap r)

/-- R304, R333: whether a channel chunk has lost its data: its channel is fenced, or it is a chunk that a move's destination never got. -/
def State.chunkLost (s : State) (p : Nat × Nat) : Bool := (s.channel p.1).state = .fenced || (s.channel p.1).lost.contains p.2

/-- R333: a chunk of a copy that is lost is given a free chunk elsewhere, which the granule's release switches to; none where there is none. -/
def State.rebuildChunk (s : State) (image j : Nat) : Option State :=
  match FMap.get? s.stock image with
  | none => none
  | some k =>
    match k.writeAt j with
    | none => none
    | some at_ =>
      if !s.chunkLost at_ then some s
      else
        let cands := (s.spreadChannels 1 0).filterMap (fun c => (lowestFree (s.channel c).runs 1 channelChunks).map (fun b => (c, b)))
        match cands with
        | [] => none
        | p :: _ => some ((s.takeRun 1 p).modStock image (fun x => { x with switching := FMap.set x.switching j p }))

/-- R333: rebuilds the lost chunks of a granule. -/
def State.rebuildGranule (s : State) (image g : Nat) : Option State :=
  (List.range 32).foldl (fun (o : Option State) i => o.bind (fun a => a.rebuildChunk image (32 * g + i))) (some s)

-- ---------------------------------------------------------------- how a fill runs (R321, R323, R324)

/-- R480: a fill fails: a copy that was never readable is dropped, unless it keeps what it has verified (R324). -/
def State.failFill (s : State) (image status : Nat) (granule : Nat) (keep : Bool) : State :=
  match FMap.get? s.stock image with
  | none => s
  | some k =>
    let res := [k.filled.length, 0, granule]
    let s1 := match k.cmd with | some n => s.dueCmd n status res | none => s
    if k.readable.isSome || keep then s1.modStock image (fun x => { x with cmd := none, ended := none, begun := false })
    else s1.dropStock image

/-- R321, R331, R332, R333: writes a granule of a fill. One that is HELD or LOST is written as a recopy is, on other chunks where its own are lost,
and is released at the next commit. -/
def State.fillGranule (s : State) (image g : Nat) (bs : List Byte) : State :=
  let s1 := (s.rebuildGranule image g).getD s
  (s1.putGranule image g bs).modStock image (fun x =>
    { x with
      filled := if x.filled.contains g then x.filled else x.filled ++ [g]
      recopied := if FMap.has x.states g && !x.recopied.contains g then x.recopied ++ [g] else x.recopied
      recopying := FMap.del x.recopying g
      failedAt := FMap.del x.failedAt g })

/-- R323: granule `g` goes to the r-th receiver, r the granule modulo their number. -/
def StockCopy.relayOf (k : StockCopy) (g : Nat) : Option Nat := k.peers[g % Nat.max 1 k.peers.length]?

/-- R323: sends a granule to a position of this board. -/
def State.sendGranule (s : State) (image version fillId pos g : Nat) (bs : List Byte) : State :=
  s.notify (s.boardMember pos) .fillData ([image, version, fillId, 1 + g] ++ wordsOf bs (granuleBytes / 4))

/-- R323, R324: the receivers of a board fill that are not lost. -/
def StockCopy.takers (k : StockCopy) : List Nat := k.peers.filter (fun p => !k.leftOut.contains p)

/-- R323, R324: the reader sends a granule to its relay, or, where that is lost, directly to every other receiver. -/
def State.sendShare (s : State) (k : StockCopy) (g : Nat) (bs : List Byte) : State :=
  match k.relayOf g with
  | none => s
  | some p =>
    (if k.leftOut.contains p then k.takers else [p]).foldl (fun (a : State) q => a.sendGranule k.image k.version k.fillId q g bs) s

/-- R321, R323: every granule has been read, verified and written; the first that no source supplies fails the fill. The reader of a board
fill sends each granule on to its relay. -/
def State.fillAll (s : State) (image : Nat) (fetched : List Supplied) : State :=
  match FMap.get? s.stock image with
  | none => s
  | some k =>
    if k.cmd.isNone || !k.begun || k.ended.isSome then s
    else if k.role = 2 then
      (if k.manifest.isEmpty || !k.wanted.isEmpty then s
       else s.modStock image (fun x => { x with ended := some x.filled.length }))
    else
      let need := k.wanted
      let source := fun g => s.sourceGranule image k.version k.manifest k.source fetched g
      match need.find? (fun g => (source g).isNone) with
      | some g => s.failFill image stBadDigest g false
      | none =>
        let s1 := need.foldl (fun (a : State) g => match source g with | some bs => a.fillGranule image g bs | none => a) s
        let s2 := if k.role = 1 then
            (List.range k.granules).foldl (fun (a : State) g => match source g with | some bs => a.sendShare k g bs | none => a) s1
          else s1
        s2.modStock image (fun x => { x with ended := some need.length })

/-- STOCK_MAP_FILLED, R321: every granule of a fill is written and verified; `fetched` are the granules that members supplied (R331,
R334). -/
def execStockMapFilled (image : Nat) (fetched : List Supplied) (s : State) : Host.Outcome State Fault Refusal :=
  if 1024 ≤ image then .fault .noSuchUnit else .next (s.fillAll image fetched)

/-- R321: step 3 of a commit completes the fills whose granules are all written; the copy is readable from the next tick. -/
def State.commitFills (s : State) : State :=
  s.stock.foldl (fun (a : State) p =>
    match p.2.cmd, p.2.ended with
    | some n, some w =>
      (a.modStock p.1 (fun x => { x with
        readable := some (x.readable.getD (a.tick.number + 1)), cmd := none, ended := none
        source := if x.source.isNone && x.role = 2 then some x.reader else x.source })).finishCmd n stOk
          [w, p.2.leftOut.foldl (fun v q => v ||| 2 ^ q) 0]
    | _, _ => a) s

/-- FILL_STAGE_NOTICE, R323: the side at a position has staged the same image, version and FILL_ID; a notice that comes before this side stages
is kept for the 256 ticks that the other waits. -/
def execFillStageNotice (image version fillId pos : Nat) (s : State) : Host.Outcome State Fault Refusal :=
  if 1024 ≤ image || 9 ≤ pos then .fault .noSuchUnit
  else
    let mine := match FMap.get? s.stock image with
      | some k => k.cmd.isSome && k.version = version && k.fillId = fillId && k.role != 0
      | none => false
    if mine then .next (s.sideStaged image pos)
    else .next { s with board := { s.board with fillHeard := s.board.fillHeard ++ [(image, version, fillId, pos, s.tick.number)] } }

/-- R323: at 256 ticks after its own commit a reader leaves out the receivers that have not staged, and a receiver without a reader completes
with BUSY. -/
def State.fillTimeouts (s : State) : State :=
  let s0 := { s with board := { s.board with fillHeard := s.board.fillHeard.filter (fun x => decide (s.tick.number < x.2.2.2.2 + 256)) } }
  s0.stock.foldl (fun (a : State) p =>
    let k := p.2
    if k.cmd.isNone || k.begun || a.tick.number < k.stagedAt + 256 then a
    else if k.role = 1 then
      (a.modStock p.1 (fun x => { x with
        leftOut := x.peers.filter (fun q => !x.staged.contains q)
        peers := x.peers.filter (fun q => x.staged.contains q) })).beginFill p.1
    else match k.cmd with
      | some n =>
        let a1 := a.finishCmd n stBusy []
        if k.readable.isSome then a1.modStock p.1 (fun x => { x with cmd := none }) else a1.dropStock p.1
      | none => a) s0

/-- STOCK_FILL_STAGE_TIMEOUT, R323. -/
def execStockFillStageTimeout (s : State) : Host.Outcome State Fault Refusal := .next s.fillTimeouts

/-- R323, R584: a receiver takes the manifest: its own Thimble verifies it, and the copy is placed. -/
def State.takeManifest (s : State) (image : Nat) (manifest : List Byte) (receivers : List Nat) : State :=
  match FMap.get? s.stock image with
  | none => s
  | some k =>
    let w := word32 manifest
    let sig := s.checkManifest manifest
    if !manifestOk manifest || w 4 != image || w 8 != k.version then s.failFill image stBadDigest 0 false
    else if sig != stOk then s.failFill image sig 0 false
    else if k.readable.isSome || !k.slots.isEmpty then s.modStock image (fun x => { x with peers := receivers })
    else match s.stockSlots (w 0x0C) with
      | none => s.failFill image stNoRoom 0 false
      | some slots =>
        (s.takeStock slots (w 0x0C)).modStock image (fun x =>
          { x with granules := w 0x0C, slots := slots, manifest := manifest, peers := receivers })

/-- R323: a receiver takes a granule; where it is the granule's relay it sends it on to every other receiver. -/
def State.takeGranule (s : State) (image g : Nat) (bs : List Byte) : State :=
  match FMap.get? s.stock image with
  | none => s
  | some k =>
    if k.granules ≤ g then s
    else if sha256 bs != manifestDigest k.manifest g then s.failFill image stBadDigest g false
    else
      let s1 := s.fillGranule image g bs
      if k.relayOf g = some s.selfPos then
        (k.peers.filter (· != s.selfPos)).foldl (fun (a : State) p => a.sendGranule image k.version k.fillId p g bs) s1
      else s1

/-- FILL_MESSAGE_RECEIVE, R323: the manifest with the list of receivers, or a granule. -/
def execFillMessageReceive (image fillId : Nat) (receivers : List Nat) (granule : Option Nat) (bytes : List (BitVec 8)) (s : State) :
    Host.Outcome State Fault Refusal :=
  if 1024 ≤ image then .fault .noSuchUnit
  else match FMap.get? s.stock image with
    | none => .next s
    | some k =>
      if k.cmd.isNone || k.role != 2 || k.fillId != fillId || !k.begun then .next s
      else match granule with
        | none => .next (s.takeManifest image bytes receivers)
        | some g => .next (s.takeGranule image g bytes)

/-- R324: a position is lost during board fills: a reader serves its share directly and lists it; a receiver that loses its reader completes
with PEER_LOST and keeps what it has verified. -/
def State.loseFillPeer (s : State) (pos : Nat) : State :=
  s.stock.foldl (fun (a : State) p =>
    let k := p.2
    if k.cmd.isNone then a
    else if k.role = 1 && k.takers.contains pos then
      let k1 := { k with leftOut := k.leftOut ++ [pos] }
      let a1 := a.modStock p.1 (fun x => { x with leftOut := x.leftOut ++ [pos] })
      -- a receiver lost before the fill has begun is left out; later the relays keep their shares, and the lost one's goes directly
      if !k.begun then
        let a2 := a1.modStock p.1 (fun x => { x with peers := x.peers.filter (· != pos) })
        let rest := k.peers.filter (· != pos)
        if rest.all (fun q => k.staged.contains q) then a2.beginFill p.1 else a2
      else if k.ended.isSome then
        ((List.range k.granules).filter (fun g => k.relayOf g = some pos)).foldl (fun (b : State) g =>
          match b.sourceGranule p.1 k.version k.manifest k.source [] g with
          | some bs => b.sendShare k1 g bs
          | none => b) a1
      else a1
    else if k.role = 2 && k.reader = pos then a.failFill p.1 stPeerLost 0 true
    else a) s

-- ---------------------------------------------------------------- recopies (R329 to R333)

/-- R331: the first source, from number `from_` on, that may be asked for a granule: 1 the local Bolt, 2 the Bolt of the copy's reader, 3 the shared
stock of board members. Asking another member sends the request. -/
def State.askSource (s : State) (image g : Nat) (k : StockCopy) (from_ : Nat) : State × Nat :=
  if from_ ≤ 1 && (s.boltGranule image k.version g).isSome then (s, 1)
  else if from_ ≤ 2 && k.source.isSome then (s.askGranule image k.version g k.source true, 2)
  else (s.askGranule image k.version g k.source false, 3)

/-- R331: recopies that run on the device. -/
def State.recopies (s : State) : Nat := (s.stock.map (fun p => p.2.recopying.length)).foldl (· + ·) 0

/-- R331: starts the recopy of a HELD granule, while fewer than 16 run. -/
def State.startRecopy (s : State) (image g : Nat) : State :=
  match FMap.get? s.stock image with
  | none => s
  | some k =>
    match FMap.getD k.states g .resident with
    | .held _ =>
      if 16 ≤ s.recopies || FMap.has k.recopying g || k.recopied.contains g then s
      else
        let (s1, n) := s.askSource image g k 1
        s1.modStock image (fun x => { x with recopying := FMap.set x.recopying g n, failedAt := FMap.del x.failedAt g })
    | _ => s

/-- R331: starts the recopies that may run: of the HELD granules for which no try has failed. -/
def State.startRecopies (s : State) : State :=
  s.stock.foldl (fun (a : State) p => p.2.states.foldl (fun (b : State) q =>
    if FMap.has p.2.failedAt q.1 then b else b.startRecopy p.1 q.1) a) s

/-- R331: a running recopy has an answer from the source it asked: it is written where a source yields the granule; else the next source is asked,
and where every source failed the try is noted. -/
def State.recopy (s : State) (image g : Nat) (fetched : List Supplied) : State :=
  match FMap.get? s.stock image with
  | none => s
  | some k =>
    match FMap.get? k.recopying g with
    | none => s
    | some n =>
      match s.sourceGranule image k.version k.manifest k.source fetched g, s.rebuildGranule image g with
      | some bs, some s1 =>
        (s1.putGranule image g bs).modStock image (fun x =>
          { x with recopied := if x.recopied.contains g then x.recopied else x.recopied ++ [g], recopying := FMap.del x.recopying g })
      | _, _ =>
        if n < 3 then
          let (s1, m) := s.askSource image g k (n + 1)
          s1.modStock image (fun x => { x with recopying := FMap.set x.recopying g m })
        else s.modStock image (fun x => { x with recopying := FMap.del x.recopying g, failedAt := FMap.set x.failedAt g s.tick.number })

/-- GRANULE_RECOPY_DONE, R331: the answer to a recopy that runs; `fetched` is what members supplied. A HELD granule whose recopy has not begun begins
it first. -/
def execGranuleRecopyDone (image g : Nat) (fetched : List Supplied) (s : State) : Host.Outcome State Fault Refusal :=
  if 1024 ≤ image then .fault .noSuchUnit
  else match FMap.get? s.stock image with
    | none => .next s
    | some k => .next ((if FMap.has k.failedAt g then s else s.startRecopy image g).recopy image g fetched)

/-- GRANULE_RECOPY_RETRY, R331: 16 ticks after every source failed the list is tried again. `fetched` is what members have supplied by
then: with it the try has its answer. -/
def execGranuleRecopyRetry (image g : Nat) (fetched : List Supplied) (s : State) : Host.Outcome State Fault Refusal :=
  if 1024 ≤ image then .fault .noSuchUnit
  else match FMap.get? s.stock image with
    | none => .next s
    | some k =>
      match FMap.get? k.failedAt g with
      | some t =>
        if t + 16 ≤ s.tick.number then
          let s1 := s.startRecopy image g
          .next (if fetched.isEmpty then s1 else s1.recopy image g fetched)
        else .next s
      | none => .next s

/-- R330, R331, R333: step 1 of a commit releases the granules recopied and verified, switching the copy's chunks that were rebuilt; the entries held for them are offered again. -/
def State.releaseGranules (s : State) : State :=
  s.stock.foldl (fun (a : State) p =>
    let gs := p.2.recopied
    let a1 := a.modStock p.1 (fun x => { x with
      states := x.states.filter (fun q => !gs.contains q.1)
      recopied := []
      rebuilt := (x.switching.filter (fun q => gs.contains (q.1 / 32))).foldl (fun (m : FMap (Nat × Nat)) q => FMap.set m q.1 q.2) x.rebuilt
      switching := x.switching.filter (fun q => !gs.contains (q.1 / 32)) })
    { a1 with adm := { a1.adm with pending := a1.adm.pending.map (fun t =>
        match t.heldFor with
        | some (im, g) => if im = p.1 && gs.contains g then { t with heldFor := none } else t
        | none => t) } }) s

/-- R332: the current STOCK segments of a context that map a granule. -/
def Context.granuleSegs (cx : Context) (image g : Nat) : List Nat :=
  (cx.segs.filter (fun p => p.2.valid && p.2.kind = 3 && p.2.region = image && decide (p.2.base < 32 * (g + 1)) &&
    decide (32 * g < p.2.base + p.2.length))).map Prod.fst

/-- R328: the bytes that a load has written after `rows` rows, low word first. -/
def WeightLoad.written (ld : WeightLoad) (rows : Nat) : List Nat :=
  let bytes := rows * (ld.desc.totalBytes / Nat.max 1 ld.desc.rows)
  [bytes % 2 ^ 32, bytes / 2 ^ 32 % 2 ^ 32]

/-- R325: the granules of a stock copy that a load reads. -/
def WeightLoad.granules (ld : WeightLoad) : List Nat :=
  (List.range ld.desc.rows).flatMap (fun r =>
    granulesIn (rowAddr ld.desc.src ld.desc.srcPitch r) ld.desc.srcBytes ++ granulesIn (rowAddr ld.desc.sscale ld.desc.sscalePitch r) ld.desc.ssBytes)

/-- R325: whether a load is served from the local copy of its image. -/
def State.fromStock (s : State) (ld : WeightLoad) : Bool :=
  ld.source = 0 || (ld.source = 1 && (match FMap.get? s.stock ld.image with | some k => k.readable.isSome && k.version = ld.version | none => false))

/-- R332: one granule becomes LOST. -/
def State.loseGranule (s : State) (image version g : Nat) : State :=
  let s1 := s.modStock image (fun x => { x with states := FMap.set x.states g .lost, failedAt := FMap.del x.failedAt g, recopying := FMap.del x.recopying g })
  let s2 := s1.contexts.foldl (fun (a : State) p =>
    match p.2.granuleSegs image g with
    | [] => a
    | sg :: t =>
      a.bothEvent p.1 0x18 2 [image, version, g, t.foldl Nat.min sg + (if t.isEmpty then 0 else 2 ^ 6)]) s1
  let waiting := s2.adm.pending.filter (fun t => t.heldFor = some (image, g))
  let s3 := waiting.foldl (fun (a : State) t => match t.list with | some l => a.holdList l stWithdrawn | none => a) s2
  let gone := s3.loads.filter (fun ld => ld.image = image && s3.fromStock ld && ld.granules.contains g)
  gone.foldl (fun (a : State) ld =>
    { a with loads := a.loads.filter (fun x => x.cmd != ld.cmd) }.finishCmd ld.cmd stFenced (ld.written ld.moved)) s3

/-- R332: step 3 of a commit: granules HELD past the copy's hold limit become LOST. -/
def State.limitHolds (s : State) : State :=
  s.stock.foldl (fun (a : State) p =>
    p.2.states.foldl (fun (b : State) q =>
      match q.2 with
      | .held since => if since + p.2.holdLimit ≤ b.tick.number then b.loseGranule p.1 p.2.version q.1 else b
      | _ => b) a) s

/-- GRANULE_HOLD_LIMIT, R332: what is released first is not lost. -/
def execGranuleHoldLimit (s : State) : Host.Outcome State Fault Refusal := .next s.releaseGranules.limitHolds

/-- PEER_GRANULE_REQUEST, R331: a member asks for a granule, of this Bolt or of this shared stock: the answer carries the bytes, or nothing
where this device cannot supply it. -/
def execPeerGranuleRequest (member image version g : Nat) (bolt : Bool) (s : State) : Host.Outcome State Fault Refusal :=
  if 1024 ≤ image then .fault .noSuchUnit
  else
    let bs : Option (List Byte) :=
      if bolt then s.boltGranule image version g
      else match FMap.get? s.stock image with
        | some k =>
          if k.version = version && k.filled.contains g && FMap.getD k.states g .resident = .resident then
            some (s.stockBytes k (granuleBytes * g) granuleBytes)
          else none
        | none => none
    .next (s.notify member .granuleRequest ([image, version, g] ++ (match bs with | some b => 1 :: wordsOf b (granuleBytes / 4) | none => [0])))

-- ---------------------------------------------------------------- WEIGHT_LOAD (R325 to R328, R479)

/-- R325, R326: the checks of a load's source; the version it reads. -/
def State.loadSource (s : State) (cx : Context) (source image version : Nat) (d : DmaDesc) : Except Nat Nat :=
  let inImage := fun (granules : Nat) =>
    decide (extent d.rows d.srcPitch d.srcBytes + d.src ≤ granuleBytes * granules) &&
    decide (extent d.rows d.sscalePitch d.ssBytes + d.sscale ≤ granuleBytes * granules)
  let segKind := match splitAddr d.src with
    | .ctx seg _ => (match FMap.get? cx.segs seg with | some g => if g.valid then some (g.kind, g.garment) else none | none => none)
    | _ => none
  match source with
  | 0 =>
    (match FMap.get? s.stock image with
     | some k => if k.readable.isNone then .error stBadParam else if !inImage k.granules then .error stBadParam else .ok k.version
     | none => .error stBadParam)
  | 1 =>
    (match (if version = 0 then s.installed? image else s.image? image version) with
     | some b => if !inImage b.granules then .error stBadParam else .ok b.version
     | none => .error stBadParam)
  | 2 =>
    (match segKind with
     | some (5, g) => if !cx.peerPriv || cx.garment != some g then .error stBadParam else .ok 0
     | _ => .error stBadParam)
  | _ => (match segKind with | some (4, _) => .ok 0 | _ => .error stBadParam)

/-- R148, R325: whether the context ranges of a load pass the segment unit's checks. -/
def State.loadRanges (s : State) (cx : Context) (source : Nat) (d : DmaDesc) : Bool :=
  let ok := fun (a n : Nat) (need : Need) =>
    n = 0 || (match splitAddr a with | .ctx seg off => s.ctxSegOk cx seg off n need | _ => false)
  ok d.dst (extent d.rows d.dstPitch d.dstBytes) .write &&
  ok d.dscale (extent d.rows d.dscalePitch d.dsBytes) (if d.writesPlane then .write else .read) &&
  (source < 2 || (ok d.src (extent d.rows d.srcPitch d.srcBytes) .read && ok d.sscale (extent d.rows d.sscalePitch d.ssBytes) .read))

/-- R325, R326, R334: what a load asks of other devices as it begins: the rows of a PEER source, as reads that the peer checks against the
peer-privileged flag and its own segment descriptor; and the granules of an image that the local Bolt cannot supply. -/
def State.beginLoad (s : State) (cx : Context) (ld : WeightLoad) : State :=
  let d := ld.desc
  if ld.source = 2 then
    match splitAddr d.src with
    | .ctx seg _ =>
      (match FMap.get? cx.segs seg with
       | some g =>
         (List.range d.rows).foldl (fun (a : State) r =>
           let ask := fun (b : State) (x n : Nat) => if n = 0 then b else
             b.sendMsg (memberOf g.board g.pos) msgRead (b.headFor .background false (b.ctxHandleOf ld.ctx)) [g.garment, g.pseg, x % 2 ^ 42, n, 1]
           ask (ask a (rowAddr d.src d.srcPitch r) d.srcBytes) (rowAddr d.sscale d.sscalePitch r) d.ssBytes) s
       | none => s)
    | _ => s
  else if ld.source = 1 && !s.fromStock ld then s.askDamaged ld.image ld.version none (dedup ld.granules)
  else s

/-- R325, R479: WEIGHT_LOAD. -/
def actWeightLoad (r : CmdReq) (s : State) : CmdResult :=
  s.ctxCmd r .block [] (fun c cx =>
    let source := r.bf 0 0 2
    let new := bit (r.bw 0) 2
    let d := DmaDesc.ofBytes (slice r.block 0x20 128)
    if !blockOk r 0 8 [(0x00, fld 0 3), (0x04, fld 0 10), (0x08, fld 0 32)] || d.bad then s.fail stBadParam
    else if cx.risk.held then s.fail stBusy
    else match s.loadSource cx source (r.bw 4) (r.bw 8) d with
      | .error e => s.fail e
      | .ok version =>
        if 64 ≤ s.loads.length then s.fail stBusy
        else
          let ld : WeightLoad := { cmd := r.num, ctx := c, source := source, image := r.bw 4, version := version, desc := d, pat := none, moved := 0 }
          if !new then
            (if !s.loadRanges cx source d then s.fail stSegFault else ({ s with loads := s.loads ++ [ld] }.beginLoad cx ld).startedCmd)
          else match readPattern r 0xA0 with
            | none => s.fail stBadParam
            | some (num, p, named) =>
              if cx.patternBusy num then s.fail stBusy
              else match s.placePattern c cx p named with
                | .error e => s.fail e
                | .ok p1 => ({ (s.stagePattern c num p1 none) with loads := s.loads ++ [{ ld with pat := some num }] }.beginLoad cx ld).startedCmd)

/-- Command 0x40. -/
def rowWeightLoad : CmdRow := { op := 0x40, mgmt := false, stages := false, act := actWeightLoad }

/-- WEIGHT_LOAD, R479. -/
def execWeightLoad (r : CmdReq) (s : State) : Host.Outcome State Fault Refusal := .next (s.perform rowWeightLoad r)

/-- R325, R334: `n` source bytes of a load, or the status and granule of its failure. -/
def State.loadBytes (s : State) (ld : WeightLoad) (fetched : List Supplied) (a n : Nat) : Except (Nat × Nat) (List Byte) :=
  if n = 0 then .ok []
  else if s.fromStock ld then
    match FMap.get? s.stock ld.image with
    | none => .error (stFenced, 0)
    | some k =>
      match (granulesIn a n).find? (fun g => FMap.getD k.states g .resident != .resident) with
      | some g => .error (stFenced, g)
      | none => .ok (s.stockBytes k a n)
  else if ld.source = 1 then
    match s.image? ld.image ld.version with
    | none => .error (stBadDigest, 0)
    | some b =>
      let parts := (granulesIn a n).map (fun g => (g, s.sourceGranule ld.image ld.version b.manifest none fetched g))
      match parts.find? (fun p => p.2.isNone) with
      | some p => .error (stBadDigest, p.1)
      | none =>
        let all := (parts.map (fun p => p.2.getD [])).flatten
        .ok (slice all (a - a / granuleBytes * granuleBytes) n)
  else match s.readCtx ld.ctx a n s.freeCtr with
    | some bs => .ok bs
    | none => .error (stSegFault, 0)

/-- R325, R548: one row of a load: converted and written. -/
def State.loadRow (s : State) (ld : WeightLoad) (fetched : List Supplied) (r : Nat) : Except (Nat × Nat) State :=
  let d := ld.desc
  match s.loadBytes ld fetched (rowAddr d.src d.srcPitch r) d.srcBytes with
  | .error e => .error e
  | .ok src =>
    let s1 := if ld.source = 2 then { s with freeCtr := s.freeCtr + src.length } else s
    match s1.loadBytes ld fetched (rowAddr d.sscale d.sscalePitch r) d.ssBytes with
    | .error e => .error e
    | .ok ss =>
      let s2 := if ld.source = 2 then { s1 with freeCtr := s1.freeCtr + ss.length } else s1
      let ds := if d.writesPlane then [] else (s2.readCtx ld.ctx (rowAddr d.dscale d.dscalePitch r) d.dsBytes s2.freeCtr).getD []
      let plain := fun (bs : List Byte) => bs.map (fun b => (b, false))
      let row := d.convert r (plain src) (plain ss) (plain ds)
      let s3 := s2.writeCtx ld.ctx (rowAddr d.dst d.dstPitch r) (row.elems.map Prod.fst)
      .ok (if d.writesPlane then s3.writeCtx ld.ctx (rowAddr d.dscale d.dscalePitch r) (row.scales.map Prod.fst) else s3)

/-- Moves rows in order: the state, how many were moved, and the failure that stopped them. -/
def State.loadRows (s : State) (ld : WeightLoad) (fetched : List Supplied) : List Nat → Nat → State × Nat × Option (Nat × Nat)
  | [], n => (s, n, none)
  | r :: t, n =>
    match s.loadRow ld fetched r with
    | .error e => (s, n, some e)
    | .ok s1 => s1.loadRows ld fetched t (n + 1)

/-- R325, R331: whether a load goes on waiting: its Pattern is not current yet, or a granule that it reads is HELD. -/
def State.loadWaits (s : State) (cx : Context) (ld : WeightLoad) : Bool :=
  (s.fromStock ld && (match FMap.get? s.stock ld.image with
    | some k => ld.granules.any (fun g => match FMap.getD k.states g .resident with | .held _ => true | _ => false)
    | none => false)) ||
  (match ld.pat with | some p => FMap.has cx.patternStages p | none => false)

/-- R328: a load moves rows up to `rows`; after the last of them it completes at the next commit. `status` is a failure on the way to a peer or on
the device's own paths (PEER_LOST, FENCED, or BAD_PARAM where the peer refuses it, and then nothing has been moved), after `rows` rows. A load
whose Pattern is not current yet, or that waits for a HELD granule, goes on. -/
def State.endLoad (s : State) (ld : WeightLoad) (rows status : Nat) (fetched : List Supplied) : State :=
  match s.ctx? ld.ctx with
  | none => s
  | some cx =>
    if s.loadWaits cx ld then s
    else
      let drop := fun (a : State) => { a with loads := a.loads.filter (fun x => x.cmd != ld.cmd) }
      let d := ld.desc
      let failed := status = stPeerLost || status = stFenced || status = stBadParam
      if !s.loadRanges cx ld.source d then (drop s).dueCmd ld.cmd stSegFault (ld.written ld.moved)
      else if status = stBadParam then (drop s).dueCmd ld.cmd stBadParam (ld.written ld.moved)
      else
        let n := Nat.min rows d.rows
        let (s1, moved, e) := s.loadRows ld fetched ((List.range n).drop ld.moved) ld.moved
        match e with
        | some (st, g) => (drop s1).dueCmd ld.cmd st (ld.written moved ++ (if st = stBadDigest then [g] else []))
        | none =>
          if failed then (drop s1).dueCmd ld.cmd status (ld.written moved)
          else if n = d.rows then (drop s1).dueCmd ld.cmd stOk (ld.written moved)
          else { s1 with loads := s1.loads.map (fun x => if x.cmd = ld.cmd then { x with moved := moved } else x) }

/-- WEIGHT_LOAD_DONE, R328: writes of the load that a command started are acknowledged, up to `rows` rows, or the load has failed; with the last row
it completes. -/
def execWeightLoadDone (cmd rows status : Nat) (fetched : List Supplied) (s : State) : Host.Outcome State Fault Refusal :=
  match s.loads.find? (fun ld => ld.cmd = cmd) with
  | none => .next s
  | some ld => .next (s.endLoad ld rows status fetched)

end Sys2Proof.Machine
end

