-- ==== Sys2Proof/Machine/Links.lean ====
section
/-! DEFINITION. Thread links and Selvedge ports (R410 to R416, R420 to R425, R435, R572, R588, R589), and losses (R427 to R432). -/

namespace Sys2Proof.Machine

/-- Devices have 20 links: 0 to 15 Thread links, 16 to 19 Selvedge ports (R435). -/
def links : Nat := 20

/-- Every link of the device. -/
def allLinks : List Nat := List.range links

/-- R435: a link's first-record counters saturate where they are read. Applies `f` to a link. -/
def State.modLink (s : State) (l : Nat) (f : Link → Link) : State := s.setLink l (f (s.link l))

/-- The member at the far end of a link. -/
def State.farMember (s : State) (l : Nat) : Nat := memberOf (s.link l).farBoard (s.board.logical (s.link l).farPos)

/-- Sends a notice on every link that carries payload (R428). -/
def State.notifyLinks (s : State) (n : Notice) (ws : List Nat) : State :=
  allLinks.foldl (fun (a : State) l =>
    if (a.link l).carries then a.sendVia (some l) (a.farMember l) msgControl a.sendEpoch 0 (controlHead n.code) (n.code :: ws) else a) s

/-- R420, R427: a heartbeat on every trained link: the tick number, position and board, map version, live mask, and the flags DOWN and
ISOLATED. -/
def State.beats (s : State) (down : Bool) : State :=
  s.notifyLinks .heartbeat [s.tick.number % 2 ^ 32, s.tick.number / 2 ^ 32, s.board.posId, s.board.boardId, s.board.mapVersion, posMask s.board.live,
    (if down then 1 else 0) + (if s.board.isolated then 2 else 0)]

/-- R420: the heartbeats of a tick. -/
def State.sendBeats (s : State) : State := s.beats false

-- ---------------------------------------------------------------- operations that a link or a loss ends (R227, R237, R429, R541)

/-- The numbers of the messages on their way that `p` selects. -/
def State.msgIds (s : State) (p : LinkMsg → Bool) : List Nat := (s.board.outgoing.filter p).map LinkMsg.id

/-- How many operations of a needle's stitch wait for the messages `ids`. -/
def Needle.opsOn (nd : Needle) (ids : List Nat) : Nat :=
  (match nd.run with | some r => (r.unacked.filter (fun m => ids.contains (m / 2))).length | none => 0) +
  ((nd.d0 ++ nd.d1).filter (fun q => !q.2.done && q.2.msgs.any ids.contains)).length

/-- R227, R429: slots that wait for lost messages complete with PEER_LOST. -/
def loseSlots (ids : List Nat) (m : FMap DmaSlot) : FMap DmaSlot :=
  m.map (fun q => (q.1, if !q.2.done && q.2.msgs.any ids.contains then { q.2 with done := true, status := stPeerLost, msgs := [] } else q.2))

/-- R227, R237, R429: the operations of one needle that wait for lost messages complete with PEER_LOST, and its stitch is dropped. -/
def State.loseOps (s : State) (n : Nat) (ids : List Nat) : State :=
  let nd := s.needle n
  if nd.opsOn ids = 0 then s
  else
    let gone := nd.knotOps.filter (fun k => ids.contains k.1)
    let nd1 := gone.foldl (fun (x : Needle) k => x.finishX k.2.2.1 (knotResult 0 stPeerLost true)) nd
    let nd2 := { nd1 with
      knotOps := nd1.knotOps.filter (fun k => !ids.contains k.1)
      d0 := loseSlots ids nd1.d0
      d1 := loseSlots ids nd1.d1 }
    ((s.setNeedle n nd2).modRun n (fun r =>
      { r with unacked := r.unacked.filter (fun m => !ids.contains (m / 2)), withdraw := true })).drain n

/-- R429: outstanding remote operations that `p` selects complete with PEER_LOST; how many there were. -/
def State.failOps (s : State) (p : LinkMsg → Bool) : State × Nat :=
  let ids := s.msgIds p
  let inRun := (s.needles.map (fun q => q.2.opsOn ids)).foldl (· + ·) 0
  let inEnd := (s.finished.map (fun r => (r.unacked.filter (fun m => ids.contains (m / 2))).length)).foldl (· + ·) 0
  let s1 := (s.needles.map Prod.fst).foldl (fun (a : State) n => a.loseOps n ids) s
  let fin := s1.finished.map (fun r =>
    if r.unacked.any (fun m => ids.contains (m / 2)) then
      { r with unacked := r.unacked.filter (fun m => !ids.contains (m / 2)), withdraw := true } else r)
  ({ s1 with finished := fin }, inRun + inEnd)

/-- R542: stitches with remote operations on a link not yet acknowledged. -/
def State.usesLink (s : State) (l : Nat) : Nat → RunStitch → Bool :=
  let ids := s.msgIds (fun m => m.via = some l)
  fun n r => r.unacked.any (fun m => ids.contains (m / 2)) ||
    ((s.needle n).run = some r && ((s.needle n).d0 ++ (s.needle n).d1).any (fun q => !q.2.done && q.2.msgs.any ids.contains))

/-- Links fenced now. -/
def State.fencedLinks (s : State) : Nat := (allLinks.filter (fun l => (s.link l).state = .fenced)).length

/-- R399: whether a message is the Basting engine's. -/
def LinkMsg.basting (m : LinkMsg) : Bool := m.kind = msgWrite && m.words.headD 0 = Notice.basting.code

/-- R412: whether a message's flits still wait in a retry buffer. -/
def State.unheard (s : State) (m : LinkMsg) : Bool := s.links.any (fun p => p.2.retry.any (fun x => x.message = m.id))

/-- R407: the Basting messages of a fenced link move to the other link of the peer. -/
def State.moveBasting (s : State) (l : Nat) : State :=
  (s.board.outgoing.filter (fun m => m.basting && m.via = some l && s.unheard m)).foldl (fun (a : State) m =>
    match a.routeLink m.dest (m.words.getD 5 0) with
    | none => a
    | some k =>
      let a1 := { a with board := { a.board with outgoing := a.board.outgoing.map (fun (x : LinkMsg) => if x.id = m.id then { x with via := some k } else x) } }
      a1.setLink k ((a1.link k).send m.id m.epoch (1 + msgBytes m.kind m.words.length / 400))) s

/-- R541, R542: fences a link: stitches with operations on it are dropped at the commit. A recalibration on it ends (R572). -/
def State.cutLink (s : State) (l cause evCause : Nat) : State :=
  let k := s.link l
  if k.state = .fenced then s
  else
    let users := s.usersOf (s.usesLink l)
    let s1 := (s.withdrawWhere (s.usesLink l)).setLink l { k with state := .fenced, cause := cause, recalLane := none, recalCmd := none }
    let s2 := (match k.recalCmd with | some n => s1.dueCmd n stFenced [] | none => s1).moveBasting l
    s2.evFence 5 evCause false l users s2.fencedLinks

-- ---------------------------------------------------------------- losses (R427 to R431)

/-- R430: the board's master: the lowest live position. -/
def Board.masterPos (b : Board) : Nat := ((List.range 9).find? (fun p => b.live.contains p)).getD 0xF

/-- R51, R55, R430: mastership passes at a commit: the lowest live position sets MASTER and shows itself; every other member clears MASTER, and
shows the new master from its first mark on. -/
def State.electMaster (s : State) : State :=
  if s.board.posId = 0xF || s.board.live.isEmpty then s
  else if s.board.masterPos = s.board.posId then { s with tick := { s.tick with isMaster := true, masterPos := s.board.posId } }
  else { s with tick := { s.tick with isMaster := false } }

/-- The garments that name a member. -/
def State.garmentsOf (s : State) (member : Nat) : List Nat :=
  (s.garments.filter (fun p => p.2.members.contains member)).map Prod.fst

/-- The contexts of garments that name a member. -/
def State.garmentCtxs (s : State) (member : Nat) : List Nat :=
  dedup (s.garments.flatMap (fun p => if p.2.members.contains member then p.2.ctxs else []))

/-- R357, R429: the garment requests of contexts whose garments name a lost member: the home fails them at the commit with a marker, and a
request whose home is lost is given up. -/
def State.loseRequests (s : State) (member : Nat) : State :=
  let cs := s.garmentCtxs member
  { s with requests := s.requests.map (fun p =>
      if p.2.garment && cs.contains p.2.ctx && (p.2.home || p.2.homeAt = member) && p.2.failing.isNone then
        (p.1, { p.2 with failing := some (stPeerLost, true) }) else p) }

/-- R429: stitches of the tick that used a lost member are dropped with WITHDRAWN at its commit. -/
def State.withdrawUsers (s : State) (member : Nat) : State :=
  let g : RunStitch → RunStitch := fun r => if r.peers.contains member then { r with withdraw := true } else r
  { s with needles := s.needles.map (fun p => (p.1, { p.2 with run := p.2.run.map g })), finished := s.finished.map g }

/-- R427 to R429: declares the loss of a physical position of a board, for cause 0 DOWN, 1 HEARTBEAT, 2 LINKS, 3 NOTICE. -/
def State.declareLoss (s : State) (phys board cause : Nat) : State :=
  let own := board = s.board.boardId
  if s.board.named.contains (phys, board) || (own && phys = s.board.posId) || (own && cause != 3 && !s.board.live.contains phys) then s
  else
    let lpos := if own then s.board.logical phys else phys
    let member := memberOf board lpos
    let wasMaster := own && s.board.masterPos = phys
    let s1 := { s with board := { s.board with
      live := if own then s.board.live.filter (· != phys) else s.board.live
      named := s.board.named ++ [(phys, board)]
      lost := s.board.lost ++ [(lpos, board)] } }
    let s2 := if own then (threadLinks s1.board.posId phys).foldl (fun (a : State) l => a.cutLink l 3 4) s1 else s1
    let (s3, ops) := (s2.withdrawUsers member).failOps (fun m => m.dest = member)
    let (s4, torn) := s3.contexts.foldl (fun (a : State × Nat) p =>
      let (b, n) := a.1.loseStepMember p.1 member
      (b, a.2 + n)) (s3, 0)
    let s5 := (s4.loseRequests member).notifyLinks .loss [phys, board]
    let s6 := if own then s5.loseFillPeer lpos else s5
    let rec_ : Loss := { phys := phys, lpos := lpos, board := board, cause := cause, master := wasMaster, ops := ops, torn := torn }
    ({ s6 with board := { s6.board with losses := s6.board.losses ++ [rec_] } })

/-- R427: both links of a peer are fenced: its loss is declared, cause LINKS. -/
def State.bothFenced (s : State) (l : Nat) : State :=
  let phys := (s.link l).farPos
  if l < 16 && s.board.live.contains phys &&
      (threadLinks s.board.posId phys).all (fun k => (s.link k).state = .fenced) then s.declareLoss phys s.board.boardId 2
  else s

/-- R422: the boards of the array that lie at another coordinate of a dimension. -/
def Board.beyond (b : Board) (dim : Nat) : List Nat :=
  (List.range 16).filter (fun k => decide (boardCoord 0 k < b.arraySize 0) && decide (boardCoord 1 k < b.arraySize 1) &&
    boardCoord dim k != boardCoord dim b.boardId)

/-- R424: a ring without a route: messages to positions reached only through it complete with PEER_LOST, and EV_ROUTE_LOST names the plane
and each board. -/
def State.loseRoute (s : State) (dim : Nat) : State :=
  if s.ringOpen dim then s
  else
    let bs := s.board.beyond dim
    let (s1, _) := s.failOps (fun m => bs.contains (m.dest / 16))
    bs.foldl (fun (a : State) b => a.mgmtEvent 0x1F 2 0 [a.board.posId % 16 + b * 2 ^ 4]) s1

/-- R413, R414, R424, R427: fences a link, with what follows from it. -/
def State.fenceLink (s : State) (l cause evCause : Nat) : State :=
  if (s.link l).state = .fenced then s
  else
    let s1 := s.cutLink l cause evCause
    if l < 16 then s1.bothFenced l else s1.loseRoute ((l - 16) / 2)

/-- SELVEDGE_PORT_FENCE, R424. -/
def execSelvedgePortFence (link : Nat) (s : State) : Host.Outcome State Fault Refusal :=
  if links ≤ link || link < 16 then .fault .noSuchUnit
  else if !(s.link link).carries then .next s else .next (s.fenceLink link 1 4)

/-- R428: this device is named lost: it fences every link, pauses every garment context and says so. -/
def State.isolate (s : State) (link sender : Nat) : State :=
  if s.board.isolated then s
  else
    let s1 := { s with board := { s.board with isolated := true } }
    let s2 := allLinks.foldl (fun (a : State) l => if (a.link l).state = .down then a else a.cutLink l 3 4) s1
    let cs := dedup (s2.garments.flatMap (fun p => p.2.ctxs))
    if cs.isEmpty then s2.mgmtEvent 0x21 2 0 [link + sender * 2 ^ 5]
    else cs.foldl (fun (a : State) c => (a.pauseCtx c).bothEvent c 0x21 2 [link + sender * 2 ^ 5]) s2

/-- LOSS_NOTICE_RECEIVE, R428: the notice names a physical position and its board. -/
def execLossNoticeReceive (link pos board sender : Nat) (s : State) : Host.Outcome State Fault Refusal :=
  if links ≤ link then .fault .noSuchUnit
  else if !(s.link link).carries then .next s
  else if pos = s.board.posId && board = s.board.boardId then .next (s.isolate link sender)
  else .next (s.declareLoss pos board 3)

/-- LINK_ELECTRICAL_IDLE, R427: a link from a peer has been idle for 1 us. With both links idle the peer is DOWN; one alone fences that link. -/
def execLinkElectricalIdle (link : Nat) (s : State) : Host.Outcome State Fault Refusal :=
  if links ≤ link then .fault .noSuchUnit
  else
    let k := s.link link
    if k.state = .down || k.state = .training then .next s
    else
      let s1 := s.setLink link { k with idle := true }
      if link < 16 && (threadLinks s.board.posId k.farPos).all (fun l => (s1.link l).idle) then .next (s1.declareLoss k.farPos s.board.boardId 0)
      else if k.carries then .next (s1.fenceLink link 1 4) else .next s1

/-- HEARTBEAT_RECEIVE, R420, R427: a heartbeat of this tick counts; one with DOWN declares the loss. -/
def execHeartbeatReceive (link : Nat) (h : Heartbeat) (s : State) : Host.Outcome State Fault Refusal :=
  if links ≤ link then .fault .noSuchUnit
  else if !(s.link link).carries then .next s
  else
    let s1 := if h.tick = s.tick.number then s.modLink link (fun k => { k with beat := true }) else s
    if h.down && link < 16 then .next (s1.declareLoss (s.link link).farPos s.board.boardId 0) else .next s1

/-- R427: whether no heartbeat has come from a peer in three consecutive ticks. -/
def State.silent (s : State) (phys : Nat) : Bool :=
  let ls := (threadLinks s.board.posId phys).filter (fun l => (s.link l).carries)
  !ls.isEmpty && ls.all (fun l => decide (3 ≤ (s.link l).missed))

/-- R427: declares every silent peer lost. -/
def State.declareSilent (s : State) : State :=
  (List.range 9).foldl (fun (a : State) p =>
    if p != a.board.posId && a.board.live.contains p && a.silent p then a.declareLoss p a.board.boardId 1 else a) s

/-- HEARTBEAT_SILENCE, R427. -/
def execHeartbeatSilence (s : State) : Host.Outcome State Fault Refusal := .next s.declareSilent

/-- R420, R435: at C every trained link's count of ticks without a heartbeat. -/
def State.countBeats (s : State) : State :=
  { s with links := s.links.map (fun p =>
      if p.2.carries then (p.1, { p.2 with missed := if p.2.beat then 0 else Nat.min 3 (p.2.missed + 1), beat := false, tagFailTick := 0 })
      else (p.1, { p.2 with beat := false, tagFailTick := 0 })) }

/-- R429 to R433: step 3 of a commit: EV_PEER_LOST for the losses of the tick, and the contexts paused where the board has no free spare. -/
def State.commitLosses (s : State) : State :=
  let noSpare := s.board.freeSpares.isEmpty
  let s1 := s.board.losses.foldl (fun (a : State) (x : Loss) =>
    let member := memberOf x.board x.lpos
    let cs := a.garmentCtxs member
    let short := noSpare && x.board = a.board.boardId
    let reqs := (a.requests.filter (fun p => cs.contains p.2.ctx && p.2.garment)).length
    let pay := fun (g : Nat) =>
      [x.lpos % 16 + x.phys % 16 * 2 ^ 4 + x.board % 16 * 2 ^ 8 + x.cause * 2 ^ 12 + (if x.master then 2 ^ 15 else 0) +
         (if short && g != 0 then 2 ^ 16 else 0),
       g, Nat.min (2 ^ 32 - 1) x.ops, Nat.min 65535 x.torn + Nat.min 65535 reqs * 2 ^ 16]
    let a1 := if cs.isEmpty then a.mgmtEvent 0x1D 2 0 (pay 0) else a
    let a2 := cs.foldl (fun (b : State) c =>
      let g := ((b.ctx? c).bind (fun cx => cx.garment)).getD 0
      let b1 := if short then b.pauseCtx c else b
      b1.bothEvent c 0x1D 2 (pay g)) a1
    if short then { a2 with garments := a2.garments.map (fun p =>
      if p.2.members.contains member then (p.1, { p.2 with waiting := true }) else p) } else a2) s
  { s1 with board := { s1.board with losses := [] } }

-- ---------------------------------------------------------------- flits (R411 to R413, R419, R423)

/-- R412: what is lost from here on is asked for again. -/
def Link.nakSent (k : Link) : Link := { k with nak := true }

/-- R48, R256, R419, R423: a message that a flit completed: forwarded when it is for another member, discarded and counted where its map
version or its epoch is not this device's, and otherwise delivered, which its own row does. -/
def State.deliver (s : State) (l : Nat) (m : FlitMsg) : State :=
  if m.dest != s.self then
    let s1 := s.sendVia ((s.routeLink m.dest s.board.nextMsg).filter (fun k => decide (16 ≤ l) || decide (16 ≤ k))) m.dest m.kind m.epoch m.vc m.head m.words
    s1
  else if m.lossNotice then s
  else if m.epoch != s.sendEpoch then
    (s.noteStale false m.kind m.epoch).modLink l (fun k => { k with stale := k.stale + 1 })
  else if m.mapVersion != s.board.mapVersion then
    (s.noteStale true m.kind m.epoch).modLink l (fun k => { k with stale := k.stale + 1 })
  else s

/-- R412: how many flits lie from sequence number `a` to `b`, modulo 4,096. -/
def seqDist (a b : Nat) : Nat := (b + 4096 - a) % 4096

/-- R412: an accepted flit: its acknowledgement empties the retry buffer up to ACK, its credits are returned. -/
def Link.accept (k : Link) (f : Flit) : Link :=
  { k with
    expect := (k.expect + 1) % 4096
    nak := false
    fecCorr := k.fecCorr + f.corrected
    credits := FMap.modifyD k.credits (f.vc % 4) 0 (· + f.credits)
    retry := k.retry.filter (fun x => decide (2048 ≤ seqDist x.seq f.ack)) }

/-- R413: more than 16 tag failures in a tick fence the link with cause AUTH. -/
def State.authFence (s : State) (l : Nat) : State := if 16 < (s.link l).tagFailTick then s.fenceLink l 2 5 else s

/-- FLIT_RECEIVE, R412, R413. -/
def execFlitReceive (link : Nat) (f : Flit) (s : State) : Host.Outcome State Fault Refusal :=
  if links ≤ link then .fault .noSuchUnit
  else
    let k := s.link link
    if !k.carries then .next s
    else if f.uncorrectable then .next (s.setLink link { k.nakSent with uncorr := k.uncorr + 1 })
    else if f.tagBad then
      .next ((s.setLink link { k.nakSent with tagFail := k.tagFail + 1, tagFailTick := k.tagFailTick + 1 }).authFence link)
    else if f.seq != k.expect then .next (s.setLink link k.nakSent)
    else .next (f.msgs.foldl (fun (a : State) m => a.deliver link m) (s.setLink link (k.accept f)))

/-- LINK_AUTH_FENCE, R413. -/
def execLinkAuthFence (link : Nat) (s : State) : Host.Outcome State Fault Refusal :=
  if links ≤ link then .fault .noSuchUnit else .next (s.authFence link)

/-- R412, R435: replays from a sequence number: what came before has arrived; the replayed flits are sent, and encrypted, again. -/
def Link.replay (k : Link) (seq tick : Nat) : Link :=
  let again := k.retry.filter (fun x => seqDist seq x.seq < 2048)
  { k with
    retry := again
    replayed := k.replayed + again.length
    flits := k.flits + again.length
    replayTicks := (tick, again.length) :: k.replayTicks }

/-- NAK_RECEIVE, R412. -/
def execNakReceive (link seq : Nat) (s : State) : Host.Outcome State Fault Refusal :=
  if links ≤ link then .fault .noSuchUnit
  else if !(s.link link).carries then .next s
  else .next (s.modLink link (fun k => k.replay (seq % 4096) s.now))

/-- R399: the Basting messages of a running turn that die at a commit are kept for the next tick. -/
def State.keepBasting (s : State) : State :=
  let e := s.sendEpoch
  (s.board.outgoing.filter (fun m => m.basting && m.epoch != e && s.unheard m)).foldl (fun (a : State) m =>
    { a with turns := a.turns.map (fun t => if t.garment = m.words.getD 1 0 && t.id = m.words.getD 2 0 then
        { t with again := t.again ++ [(m.dest, m.words)] } else t) }) s

/-- R50, R412: at a commit the retry buffers drop the flits of dead messages, and what was sent before this tick is forgotten. -/
def State.dropDead (s : State) : State :=
  let e := s.sendEpoch
  { s with
    links := s.links.map (fun p => (p.1, { p.2 with retry := p.2.retry.filter (fun x => x.epoch = e) }))
    board := { s.board with outgoing := s.board.outgoing.filter (fun m => m.epoch = e) } }

-- ---------------------------------------------------------------- lanes (R414, R415, R572)

/-- R414: the half that a lane belongs to, the spare counting in place of the lane it serves. -/
def Link.halfOf (k : Link) (lane : Nat) : Nat := (if lane = 8 then k.spareFor.getD 0 else lane) / 4

/-- R414: whether a lane carries traffic. -/
def Link.usesLane (k : Link) (lane : Nat) : Bool :=
  let on := if lane = 8 then k.spareFor.isSome else k.spareFor != some lane
  on && (k.state != .half || k.halfOf lane = k.half)

/-- Lanes fenced now, over all links. -/
def State.fencedLanes (s : State) : Nat := (allLinks.map (fun l => (s.link l).lanesOut.length)).foldl (· + ·) 0

/-- R414: the traffic of a lane moves to the free spare lane. -/
def Link.toSpare (k : Link) (lane tick : Nat) : Link :=
  { k with
    spareFor := some lane
    recals := k.recals + 1
    switchTicks := tick :: k.switchTicks }

/-- R414, R542, R572: a lane of a link fails. A recalibration that runs stops. -/
def State.failLane (s : State) (l lane : Nat) (rate : Bool) : State :=
  let k := s.link l
  if !k.carries || 8 < lane || !k.usesLane lane then s
  else
    let ev := fun (a : State) => a.evFence 4 (if rate then 1 else 4) false (l + lane * 2 ^ 8) [] a.fencedLanes
    let out := { k with lanesOut := if k.lanesOut.contains lane then k.lanesOut else k.lanesOut ++ [lane] }
    if k.state = .half then (ev (s.setLink l out)).fenceLink l 1 4
    else if k.spareFor.isNone then ev (s.setLink l (out.toSpare lane s.now))
    else
      let s1 := match k.recalCmd with | some n => s.dueCmd n stFenced [] | none => s
      ev (s1.setLink l { out with
        state := .half
        half := 1 - k.halfOf lane
        recalLane := none
        recalCmd := none
        lanesOut := out.lanesOut ++ k.recalLane.toList
        recals := k.recals + 1
        switchTicks := s.now :: k.switchTicks })

/-- LANE_FAULT, R414: a lane of 0 to 7, or the spare as 8, has lost lock, or its corrected-symbol rate is past 1 in 10^6 (`rate`). -/
def execLaneFault (link lane : Nat) (rate : Bool) (s : State) : Host.Outcome State Fault Refusal :=
  if links ≤ link || 8 < lane then .fault .noSuchUnit else .next (s.failLane link lane rate)

/-- LANE_FLIT, R414: the far end names the flit from which a lane's traffic moves to the spare lane; both ends move it. -/
def execLaneFlit (link lane boundary : Nat) (s : State) : Host.Outcome State Fault Refusal :=
  if links ≤ link || 8 < lane || 4096 ≤ boundary then .fault .noSuchUnit
  else
    let k := s.link link
    if k.carries && k.spareFor.isNone && lane < 8 then .next (s.setLink link (k.toSpare lane s.now)) else .next s

/-- R415: whether a link's lane may be recalibrated now. -/
def Link.canRecal (k : Link) : Bool := k.state = .up && k.spareFor.isNone && k.recalLane.isNone

/-- R415: the recalibration of a lane starts. -/
def State.startRecal (s : State) (l lane : Nat) (cmd : Option Nat) : State :=
  s.modLink l (fun k => { k.toSpare lane s.now with
    state := .recal
    recalLane := some lane
    recalCmd := cmd })

/-- R415, R498: LANE_RECAL. -/
def actLaneRecal (r : CmdReq) (s : State) : CmdResult :=
  s.devCmd r .plain [(0x08, fld 0 5 + fld 8 3)] (
    let l := r.f 0x08 0 5
    if links ≤ l then s.fail stBadParam
    else if !(s.link l).canRecal then s.fail stBusy
    else (s.startRecal l (r.f 0x08 8 3) (some r.num)).startedCmd)

/-- Command 0xB4. -/
def rowLaneRecal : CmdRow := { op := 0xB4, mgmt := true, stages := false, act := actLaneRecal }

/-- LANE_RECAL, R415. -/
def execLaneRecal (r : CmdReq) (s : State) : Host.Outcome State Fault Refusal := .next (s.perform rowLaneRecal r)

/-- LANE_EYE_MARGIN_LOW, R415. -/
def execLaneEyeMarginLow (link lane : Nat) (s : State) : Host.Outcome State Fault Refusal :=
  if links ≤ link || 8 ≤ lane then .fault .noSuchUnit
  else if (s.link link).canRecal then .next (s.startRecal link lane none) else .next s

/-- LANE_RECAL_DONE, R415, R498: the retrained lane becomes the spare lane; where retraining failed, the spare stays in use. -/
def execLaneRecalDone (link : Nat) (ok : Bool) (s : State) : Host.Outcome State Fault Refusal :=
  if links ≤ link then .fault .noSuchUnit
  else
    let k := s.link link
    match k.recalLane with
    | none => .next s
    | some lane =>
      let k1 : Link := { k with state := .up, recalLane := none, recalCmd := none }
      let k2 := if ok then { k1 with spareFor := none, lanesOut := k1.lanesOut.filter (· != lane) }
        else { k1 with lanesOut := if k1.lanesOut.contains lane then k1.lanesOut else k1.lanesOut ++ [lane] }
      let s1 := s.setLink link k2
      match k.recalCmd with
      | some n => .next (s1.dueCmd n (if ok then stOk else stFenced) [])
      | none => .next s1

-- ---------------------------------------------------------------- training and keys (R416, R417, R422, R432, R588, R589)

/-- R416, R417, R422: whether a link trains at all on this module. -/
def State.mayTrain (s : State) (l : Nat) : Bool :=
  (s.isReady || s.mod.state = .step 6) && !s.board.strapBad && !s.board.isolated && s.board.posId ≤ 8 &&
  (l < 16 || (s.board.boardHi = 1 && !s.board.arrayHeld && 2 ≤ s.board.arraySize ((l - 16) / 2)))

/-- LINK_TRAIN_RETRY, R416: a link that is DOWN, or fenced for another reason than a loss, trains again; one whose far end reports this
position is held DOWN (R417). -/
def execLinkTrainRetry (link : Nat) (s : State) : Host.Outcome State Fault Refusal :=
  if links ≤ link then .fault .noSuchUnit
  else
    let k := s.link link
    if ((k.state = .down && k.cause != 5) || (k.state = .fenced && k.cause != 3)) && s.mayTrain link then .next (s.setLink link { k with state := .training })
    else .next s

/-- EV_STRAP (R417, R557); link 0x1F for none. -/
def State.evStrap (s : State) (l : Nat) : State :=
  s.mgmtEvent 0x1E 0 0 [s.board.strapPos % 16 + (s.board.boardId % 16 + s.board.boardHi % 4 * 16) * 2 ^ 4 + l * 2 ^ 10]

/-- R54, R416: before READY the device takes its tick number from the board's master, or from an array's marks where no board peer is live. -/
def State.takeTick (s : State) (l tick : Nat) : State :=
  if s.isReady || (16 ≤ l && s.board.live.any (· != s.board.posId)) then s
  else { s with tick := { s.tick with number := Nat.max s.tick.number tick, freeRun := false } }

/-- R416, R432, R588: a link comes up: with new keys and a new sequence; its far end on this board is live, and its loss may be named
again. -/
def State.linkUp (s : State) (l : Nat) (t : Training) : State :=
  let k := s.link l
  let key : LinkKey :=
    { secret := t.secret, genOut := 0, genIn := 0, lpos := s.board.logical s.board.posId, farLpos := s.board.logical t.farPos,
      mapVersion := s.board.mapVersion }
  let k1 : Link := { Link.reset with
    state := .up
    farPos := t.farPos
    farBoard := t.farBoard
    farLink := t.farLink
    farId := t.farId
    spareFor := t.spare
    lanesOut := t.spare.toList
    latency := t.latency % 1024
    key := some key
    replayed := k.replayed
    fecCorr := k.fecCorr
    uncorr := k.uncorr
    tagFail := k.tagFail
    recals := k.recals
    stale := k.stale
    replayTicks := k.replayTicks
    switchTicks := k.switchTicks }
  let s1 := s.setLink l k1
  let s2 := if l < 16 then { s1 with board := { s1.board with
      live := (s1.board.live ++ [s1.board.posId, t.farPos]).eraseDups
      named := s1.board.named.filter (· != (t.farPos, s1.board.boardId)) } } else s1
  if t.ready then s2.takeTick l t.tick else s2

/-- LINK_TRAINING_DONE, R54, R416, R417, R588: two devices that are past READY join only with one tick number (assumption 74). -/
def execLinkTrainingDone (link : Nat) (t : Training) (s : State) : Host.Outcome State Fault Refusal :=
  if links ≤ link then .fault .noSuchUnit
  else
    let k := s.link link
    let rejoin := k.state = .fenced && k.cause = 3 && t.reset && s.mayTrain link
    if k.state != .training && !rejoin then .next s
    else if !t.passed then .next (if rejoin then s else s.setLink link { k with state := .down })
    else if link < 16 && t.farPos = s.board.posId && t.farBoard = s.board.boardId then
      .next ((s.setLink link { k with state := .down, cause := 5, farPos := t.farPos, farBoard := t.farBoard }).evStrap link)
    else if link < 16 && s.isReady && t.ready && !s.board.live.contains t.farPos && t.tick != s.tick.number then
      .next (s.setLink link { k with state := .down })
    else if !t.chainOk || (s.thimble.owr.isSome && !t.proofOk) then .next (s.setLink link { k with state := .down, cause := 2 })
    else .next (s.linkUp link t)

/-- LINK_KEY_GENERATION_CHANGE, R589: after 2^30 flits the sender announces a commit; the far end's announcement names one for the other
direction. -/
def execLinkKeyGenerationChange (link commit : Nat) (incoming : Bool) (s : State) : Host.Outcome State Fault Refusal :=
  if links ≤ link then .fault .noSuchUnit
  else
    let k := s.link link
    if !k.carries || commit < s.tick.number then .next s
    else if incoming then .next (s.setLink link { k with switchIn := some commit })
    else if k.flits < 2 ^ 30 || k.switchOut.isSome then .next s
    else .next (s.setLink link { k with switchOut := some commit })

/-- R589: a new generation starts at the start of the tick after the commit named; the nonce count restarts. -/
def Link.switchKeys (k : Link) (tick : Nat) : Link :=
  let past := fun (o : Option Nat) => match o with | some c => decide (c < tick) | none => false
  let k1 := if past k.switchOut then
      { k with switchOut := none, flits := 0, key := k.key.map (fun x => { x with genOut := x.genOut + 1 }) } else k
  if past k1.switchIn then { k1 with switchIn := none, key := k1.key.map (fun x => { x with genIn := x.genIn + 1 }) } else k1

/-- R589: every link's generations at the start of a tick. -/
def State.switchLinkKeys (s : State) : State :=
  { s with links := s.links.map (fun p => (p.1, p.2.switchKeys s.tick.number)) }

-- ---------------------------------------------------------------- tick marks (R51, R53, R55, R421, R425)

/-- A value held between minus `n` and `n`. -/
def clampInt (n v : Int) : Int := max (-n) (min n v)

/-- R53: the PERIOD_CODE a device's own staged settings give tick `n`. -/
def TickState.codeAt (t : TickState) (n : Nat) : Nat :=
  match (t.staged.filter (fun e => e.at_ ≤ n)).getLast? with | some e => e.period | none => t.periodCode

/-- TICK_MARK_RECEIVE, R421: the master's mark for the next tick: `ahead` is the master's C less this device's, in ns, after the link's
latency. The first of the master's two links counts. A tick number is never lowered (R54). -/
def execTickMarkReceive (link tick period : Nat) (ahead : Int) (s : State) : Host.Outcome State Fault Refusal :=
  if links ≤ link || 16 ≤ link then .fault .noSuchUnit
  else
    let k := s.link link
    if !k.carries || s.tick.isMaster || k.farPos != s.board.masterPos || s.tick.markNext.isSome || tick ≤ s.tick.number then .next s
    else
      let own := s.tick.codeAt tick
      let s1 := { s with
        tick := { s.tick with markNext := some (tick, period % 128), freeRun := false, masterPos := k.farPos }
        board := { s.board with steer := clampInt 10 ahead } }
      if period % 128 = own then .next s1
      else .next (s1.mgmtEvent 0x11 0 0 [period % 128 + own * 2 ^ 8 + k.farPos % 16 * 2 ^ 16])

/-- R425: whether this device holds a garment that spans boards. -/
def State.spansBoards (s : State) : Bool := s.garments.any (fun p => p.2.members.any (fun m => m / 16 != s.board.boardId))

/-- R425: the reference: the lowest board of the array with a live position. -/
def Board.reference (b : Board) : Nat :=
  ((List.range 16).find? (fun k => decide (boardCoord 0 k < b.arraySize 0) && decide (boardCoord 1 k < b.arraySize 1) &&
    (List.range 9).any (fun p => !b.named.contains (p, k)))).getD b.boardId

/-- R425: whether one mark is followed before another: fewer hops, then the lower board. -/
def RefMark.before (a b : RefMark) : Bool := a.hops < b.hops || (a.hops = b.hops && a.board ≤ b.board)

/-- EPOCH_MARK_RECEIVE, R425, R416: `ahead` is the marks' instant of C less this device's, in ns. Before READY a device with no live board
peer takes its tick number from the mark. -/
def execEpochMarkReceive (link board hops tick : Nat) (offset ahead : Int) (s : State) : Host.Outcome State Fault Refusal :=
  if links ≤ link || link < 16 then .fault .noSuchUnit
  else if !(s.link link).carries then .next s
  else
    let m : RefMark := { board := board, hops := hops, offset := offset, tick := tick, ahead := ahead }
    let best := match s.board.refMark with | some x => if x.before m then x else m | none => m
    .next (({ s with board := { s.board with refMark := some best } }).takeTick link tick)

/-- R424, R425, R56: at a commit: the routes drop fenced ports; a board that is not the reference follows the best mark; a device whose tick
number cannot join the reference's holds its Selvedge ports. -/
def State.commitArray (s : State) : State :=
  let fenced := [16, 17, 18, 19].filter (fun l => !(s.link l).carries)
  let s1 := { s with board := { s.board with rerouted := fenced, refMark := none } }
  match s.board.refMark with
  | none => if s.board.reference = s.board.boardId then { s1 with board := { s1.board with refBoard := s.board.boardId, refHops := 0, refOffset := 0 } } else s1
  | some m =>
    if s.board.reference = s.board.boardId then
      { s1 with board := { s1.board with refBoard := s.board.boardId, refHops := 0, refOffset := 0 } }
    else if m.tick < s.tick.number || (s.tick.number < m.tick && s.spansBoards) then
      if s.board.arrayHeld then s1
      else
        ({ s1 with board := { s1.board with arrayHeld := true } }).mgmtEvent 0x20 0 0 [s.tick.number % 2 ^ 32, m.tick % 2 ^ 32, s.board.reference]
    else
      let st := if s.tick.isMaster then clampInt 100 (m.ahead + m.offset) else s1.board.steer
      { s1 with
        tick := { s1.tick with number := Nat.max s.tick.number m.tick }
        board := { s1.board with refBoard := m.board, refHops := m.hops + 1, refOffset := m.ahead + m.offset, steer := st } }

end Sys2Proof.Machine
end

