-- ==== Sys2Proof/Machine/Garments.lean ====
section
/-! DEFINITION. Garments (R426, R433, R495, R496), the array setting (R422), the spare mask (R433) and spare substitution (R434, R590, R594,
R595). -/

namespace Sys2Proof.Machine

/-- Applies `f` to a garment. -/
def State.modGarment (s : State) (g : Nat) (f : Garment → Garment) : State := { s with garments := FMap.modify s.garments g f }

/-- R495: the members a GARMENT_OPEN names, board times 16 plus position. -/
def garmentMembers (r : CmdReq) (n : Nat) : List Nat :=
  (List.range n).map (fun i => leNat (slice r.block (2 * i) 2))

/-- R426, R495: whether a list of members may be opened: distinct positions that exist, this device among them, and no spare of this board. -/
def State.membersOk (s : State) (ms : List Nat) : Bool :=
  ms.all (fun m => decide (m < 256) && decide (m % 16 < 9) && !(m / 16 = s.board.boardId && bit s.board.spareMask (m % 16))) &&
  (dedup ms).length = ms.length && ms.contains s.self

/-- R426: a garment whose members have all joined. -/
def Garment.allJoined (g : Garment) : Bool := g.members.all g.joined.contains

/-- R426: sends JOIN to every other member. -/
def State.sendJoins (s : State) (g : Nat) : State := s.notifyAll g .join [g, s.self]

/-- R426, R495: GARMENT_OPEN. -/
def actGarmentOpen (r : CmdReq) (s : State) : CmdResult :=
  s.ctxCmd r .block [(0x08, fld 0 24)] (fun c cx =>
    let g := r.f 0x08 0 16
    let n := r.f 0x08 16 8
    let ms := garmentMembers r n
    if n < 2 || 128 < n || !s.membersOk ms then s.fail stBadParam
    else match FMap.get? s.garments g with
      | some ga =>
        if ga.members != ms then s.fail stBadParam
        else if cx.garment.isSome && cx.garment != some g then s.fail stBusy
        else if !ga.live then s.fail stBusy
        else if ga.ctxs.contains c then s.done []
        else if 4 ≤ ga.ctxs.length then s.fail stNoRoom
        else ((s.modGarment g (fun x => { x with ctxs := x.ctxs ++ [c] })).modCtx c (fun x => { x with garment := some g })).done []
      | none =>
        if cx.garment.isSome then s.fail stBusy
        else if 256 ≤ s.garments.length then s.fail stNoRoom
        else
          let heard := (s.board.joins.filter (fun j => j.1 = g)).map (fun j => j.2.1)
          let ga : Garment :=
            { ctxs := [c], members := ms, joined := dedup (s.self :: heard), live := false, waiting := false, openedAt := s.tick.number,
              cmds := [r.num] }
          let s1 := { s with
            garments := FMap.set s.garments g ga
            board := { s.board with joins := s.board.joins.filter (fun j => j.1 != g) } }
          ((s1.modCtx c (fun x => { x with garment := some g })).sendJoins g).startedCmd)

/-- Command 0xA0. -/
def rowGarmentOpen : CmdRow := { op := 0xA0, mgmt := false, stages := false, act := actGarmentOpen }

/-- GARMENT_OPEN, R426. -/
def execGarmentOpen (r : CmdReq) (s : State) : Host.Outcome State Fault Refusal := .next (s.perform rowGarmentOpen r)

/-- JOIN_RECEIVE, R426: a JOIN for a garment that is not open here yet is kept until it is. -/
def execJoinReceive (gar member : Nat) (s : State) : Host.Outcome State Fault Refusal :=
  if 65536 ≤ gar then .fault .noSuchUnit
  else if FMap.has s.garments gar then
    .next (s.modGarment gar (fun x => if x.joined.contains member then x else { x with joined := x.joined ++ [member] }))
  else .next { s with board := { s.board with joins := s.board.joins ++ [(gar, member, s.tick.number)] } }

/-- R495: the mask of the entries that did not join, as four words. -/
def Garment.missing (g : Garment) : List Nat :=
  let m := g.members.zipIdx.foldl (fun (a : Nat) (p : Nat × Nat) => if g.joined.contains p.1 then a else a ||| 2 ^ p.2) 0
  [bits m 0 32, bits m 32 32, bits m 64 32, bits m 96 32]

/-- Takes contexts out of their garment. -/
def State.leaveGarment (s : State) (cs : List Nat) : State :=
  cs.foldl (fun (a : State) c => a.modCtx c (fun x => { x with garment := none })) s

/-- R426: step 3 of a commit: a garment whose members have all joined is live, and its command completes. -/
def State.garmentsLive (s : State) : State :=
  s.garments.foldl (fun (a : State) p =>
    if p.2.live || !p.2.allJoined then a
    else p.2.cmds.foldl (fun (b : State) n => b.finishCmd n stOk []) (a.modGarment p.1 (fun x => { x with live := true, cmds := [] }))) s

/-- R426, R495: a garment not live within 256 ticks is gone, and its command completes with PEER_LOST and the members that did not join. -/
def State.garmentTimeouts (s : State) : State :=
  let s0 := { s with board := { s.board with joins := s.board.joins.filter (fun j => decide (s.tick.number < j.2.2 + 256)) } }
  s0.garments.foldl (fun (a : State) p =>
    if p.2.live || a.tick.number < p.2.openedAt + 256 then a
    else
      let a1 := p.2.cmds.foldl (fun (b : State) n => b.finishCmd n stPeerLost p.2.missing) a
      { (a1.leaveGarment p.2.ctxs) with garments := FMap.del a1.garments p.1 }) s0

/-- GARMENT_OPEN_TIMEOUT, R426. -/
def execGarmentOpenTimeout (s : State) : Host.Outcome State Fault Refusal := .next s.garmentTimeouts

/-- R496: takes a context out of a garment, which closes here when no context of it remains. -/
def State.dropFromGarment (s : State) (g c : Nat) : State :=
  let s1 := (s.modGarment g (fun x => { x with ctxs := x.ctxs.filter (· != c) })).leaveGarment [c]
  match FMap.get? s1.garments g with
  | some ga =>
    if ga.ctxs.isEmpty then
      -- a command that still waited for it to become live never will
      { (ga.cmds.foldl (fun (b : State) n => b.finishCmd n stFenced []) s1) with garments := FMap.del s1.garments g }
    else s1
  | none => s1

/-- Whether a turn names a context. -/
def State.inTurn (s : State) (c : Nat) : Bool := s.turns.any (fun t => t.srcCtx = c || t.genCtx = c)

/-- Whether a REDUCE step is OPEN, COMPLETE or SEALED. -/
def Step.unsettled (st : Step) : Bool := st.state = .open_ || st.state = .complete || st.state = .sealed

/-- R496: whether a step of the context across its garment is OPEN, COMPLETE or SEALED. -/
def Context.garmentStep (cx : Context) : Bool :=
  [cx.train.buf0, cx.train.buf1].any (fun b => match b with | some st => st.garment && st.unsettled | none => false)

/-- R496: GARMENT_CLOSE. -/
def actGarmentClose (r : CmdReq) (s : State) : CmdResult :=
  s.ctxCmd r .plain [(0x08, fld 0 16)] (fun c cx =>
    let g := r.w 0x08
    if cx.garment != some g then s.fail stBadParam
    else if s.inTurn c || cx.garmentStep then s.fail stBusy
    else (s.dropFromGarment g c).done [])

/-- Command 0xA1. -/
def rowGarmentClose : CmdRow := { op := 0xA1, mgmt := false, stages := false, act := actGarmentClose }

/-- GARMENT_CLOSE, R496. -/
def execGarmentClose (r : CmdReq) (s : State) : Host.Outcome State Fault Refusal := .next (s.perform rowGarmentClose r)

-- ---------------------------------------------------------------- the array and the spares (R422, R433, R497)

/-- R422, R497: ARRAY_SET: the stored setting applies from the next bring-up; 1 by 1 clears it. -/
def actArraySet (r : CmdReq) (s : State) : CmdResult :=
  s.devCmd r .plain [(0x08, fld 0 3 + fld 4 3)] (
    let x := r.f 0x08 0 3
    let y := r.f 0x08 4 3
    if x < 1 || 4 < x || y < 1 || 4 < y then s.fail stBadParam
    else if s.spansBoards then s.fail stBusy
    else { s with board := { s.board with array := if x = 1 && y = 1 then none else some (x, y) } }.done [])

/-- Command 0xA2. -/
def rowArraySet : CmdRow := { op := 0xA2, mgmt := true, stages := false, act := actArraySet }

/-- ARRAY_SET, R422. -/
def execArraySet (r : CmdReq) (s : State) : Host.Outcome State Fault Refusal := .next (s.perform rowArraySet r)

/-- The physical positions of this board that hold a context of a garment this device holds. -/
def State.garmentPositions (s : State) : List Nat :=
  s.garments.flatMap (fun p => (p.2.members.filter (fun m => m / 16 = s.board.boardId)).map (fun m => s.board.physical (m % 16)))

/-- R433, R497: SPARE_SET stages the mask. -/
def rowSpareSet : CmdRow :=
  { op := 0xA3, mgmt := true, stages := true,
    act := fun r s => s.devCmd r .plain [(0x08, fld 0 9)] (
      if s.garmentPositions.any (fun p => bit (r.w 0x08) p) then s.fail stBusy
      else (s.stage (.spareMask (r.w 0x08))).done []) }

/-- SPARE_SET, R433. -/
def execSpareSet (r : CmdReq) (s : State) : Host.Outcome State Fault Refusal := .next (s.perform rowSpareSet r)

/-- R434: whether a logical position of this board is live. -/
def State.positionLive (s : State) (k : Nat) : Bool :=
  !s.board.lost.contains (k, s.board.boardId) && (s.board.live.contains (s.board.physical k) || s.board.physical k = s.board.posId)

/-- R595: the identity digest that this device holds for the module at a physical position. -/
def State.identityOf (s : State) (phys : Nat) : Option Nat :=
  if phys = s.board.posId then some Config.identity
  else ((threadLinks s.board.posId phys).find? (fun l => (s.link l).key.isSome)).map (fun l => (s.link l).farId)

/-- R594: whether the authorisation's block is well formed. -/
def authFormOk (b : List Byte) : Bool :=
  let w := fun off => word32 b off
  w 0x00 = 1 && w 0x04 < 2 ^ 12 && w 0x0C < 2 ^ 16 && w 0x10 < 2 ^ 9 && w 0x14 < 2 ^ 16 && w 0x18 = 0 && w 0x1C = 0 &&
  (slice b 0x50 16).all (· = 0#8) && w 0x14 = sigLen (bits (w 0x10) 8 1) && b.length = 0x60 + w 0x14

/-- R595: whether the Thimble accepts a substitution's authorisation. -/
def State.authorised (s : State) (b : List Byte) (k sp e : Nat) : Bool :=
  let w := fun off => word32 b off
  s.thimble.check .auth (bits (w 0x10) 0 8) (bits (w 0x10) 8 4) b = stOk &&
  w 0x04 = s.board.boardId + k * 2 ^ 4 + sp * 2 ^ 8 && w 0x08 + w 0x0C * 2 ^ 32 = e &&
  s.identityOf sp = some (leNat (slice b 0x20 48))

/-- R434, R497, R568, R595: SPARE_SUBSTITUTE. -/
def actSpareSubstitute (r : CmdReq) (s : State) : CmdResult :=
  s.devCmd r .block [(0x08, fld 0 8), (0x0C, 2 ^ 32 - 1), (0x10, fld 0 16), (0x14, 2 ^ 32 - 1)] (
    let k := r.f 0x08 0 4
    let sp := r.f 0x08 4 4
    let e := r.d 0x0C
    if 9 ≤ k || 9 ≤ sp || s.positionLive k || e < s.tick.number + 16 || !authFormOk r.block then s.fail stBadParam
    else if s.thimbleBusy then s.fail stBusy
    else if !s.board.freeSpares.contains sp || s.board.subs.any (fun x => x.spare = sp) then s.fail stNoSpare
    else if !s.authorised r.block k sp e then s.fail stNotApproved
    else
      let x : Substitution := { pos := k, spare := sp, at_ := e, cmd := r.num }
      { s with board := { s.board with subs := s.board.subs ++ [x] } }.startedCmd)

/-- Command 0xA4. -/
def rowSpareSubstitute : CmdRow := { op := 0xA4, mgmt := true, stages := false, act := actSpareSubstitute }

/-- SPARE_SUBSTITUTE, R434. -/
def execSpareSubstitute (r : CmdReq) (s : State) : Host.Outcome State Fault Refusal := .next (s.perform rowSpareSubstitute r)

/-- R590: the keys of a link after a substitution: under the logical position taken and the new map version. -/
def Link.substituted (l : Link) (own spare : Bool) (k version : Nat) : Link :=
  if !own && !spare then l
  else
    { l with
      flits := 0
      key := l.key.map (fun x => { x with
        lpos := if own then k else x.lpos
        farLpos := if own then x.farLpos else k
        mapVersion := version }) }

/-- R419, R434: the switch of one substitution. -/
def State.substitute (s : State) (x : Substitution) : State :=
  let b := s.board
  let v := (b.mapVersion + 1) % 65536
  let own := x.spare = b.posId
  let b1 := { b with
    posMap := if x.pos = x.spare then FMap.del b.posMap x.pos else FMap.set b.posMap x.pos x.spare
    mapVersion := v
    lost := b.lost.filter (· != (x.pos, b.boardId))
    subs := b.subs.filter (· != x) }
  let s1 := { s with
    board := b1
    links := s.links.map (fun (p : Nat × Link) => (p.1, p.2.substituted own (p.1 < 16 && p.2.farPos = x.spare) x.pos v)) }
  let s2 := { s1 with garments := s1.garments.map (fun (p : Nat × Garment) =>
    (p.1, { p.2 with waiting := p.2.waiting && p.2.members.any (fun m => b1.lost.contains (m % 16, m / 16)) })) }
  s2.finishCmd x.cmd stOk [x.at_ % 2 ^ 32, x.at_ / 2 ^ 32]

/-- R434: step 2 of commit E. -/
def State.commitSubs (s : State) : State :=
  (s.board.subs.filter (fun x => decide (x.at_ ≤ s.tick.number))).foldl (fun (a : State) x => a.substitute x) s

/-- SPARE_SUBSTITUTE_SWITCH, R434. -/
def execSpareSubstituteSwitch (s : State) : Host.Outcome State Fault Refusal := .next s.commitSubs

end Sys2Proof.Machine
end

