-- ==== Sys2Proof/Machine/Checkpoint.lean ====
section
/-! DEFINITION. Taking a checkpoint (R488, R522 to R531, R592): the image and its sections, the stream of its blocks, the manifest, and the
checkpoint's end. -/

namespace Sys2Proof.Machine

-- ---------------------------------------------------------------- the sections of an image (R525, R526, R530)

/-- R147: a segment descriptor's words. -/
def Seg.words (d : Seg) : List Nat :=
  let f := fun (b : Bool) (i : Nat) => if b then 2 ^ i else 0
  [f d.valid 0 + d.kind % 8 * 2 + f d.r 4 + f d.w 5 + f d.x 6 + d.hint % 4 * 2 ^ 7 + d.region % 1024 * 2 ^ 9, d.length, d.base,
   d.garment % 2 ^ 16 + d.pos % 16 * 2 ^ 16 + d.board % 16 * 2 ^ 20 + d.pseg % 64 * 2 ^ 24, 0, 0, 0, 0]

/-- R525: the part of an image whose layout the manual does not give. -/
def State.restOf (s : State) (c : Nat) (cx : Context) : CkptRest :=
  let t := cx.train
  let unsettled := [t.buf0, t.buf1].any (fun b => match b with | some st => st.unsettled | none => false)
  { needles := cx.needles, liveMax := cx.liveMax, quota := cx.quota, reqBase := cx.reqBase, reqCount := cx.reqCount, ceiling := cx.ceiling,
    peerPriv := cx.peerPriv, genCfg := cx.genCfg, mode := t.mode, accEvery := t.accEvery, high := cx.risk.high, low := cx.risk.low,
    hint := cx.risk.hint, grants := cx.grants,
    garment := cx.garment.map (fun g => (g, match FMap.get? s.garments g with | some ga => ga.members | none => [])),
    stock := cx.segs.filterMap (fun q => if q.2.valid && q.2.kind = 3 then
      (FMap.get? s.stock q.2.region).map (fun k => (q.2.region, k.version)) else none),
    progs := cx.progs,
    spools := s.spools.filter (fun p => p.2.owner = some c && !([cx.cmdSpool, cx.cplSpool, cx.evtSpool].contains p.1)),
    requests := s.requests.filter (fun p => p.2.ctx = c),
    last := t.last.map (fun l => (l.1, l.2.1, l.2.2 || unsettled)), bufCount := t.bufCount, localSteps := t.localSteps, lastDone := t.lastDone,
    images := cx.images }

/-- R525: the places of region chunk `j` of a Pattern in the stacks: the committed image, then for SCRATCH the other. -/
def Context.chunkImages (cx : Context) (num : Nat) (p : Pattern) (j : Nat) : List Nat :=
  if p.scratch then [committedImage cx num j, 1 - committedImage cx num j] else [0]

/-- R267: whether the burst at a place reads as poison. -/
def State.placeBad (s : State) : Place → Bool
  | .stack ch a => (s.channel ch).isBad (a / 64)
  | _ => false

/-- R525: the poisoned bursts of a context's stack-placed Patterns: Pattern, region chunk and burst. -/
def State.poisonedBursts (s : State) (cx : Context) : List (Nat × Nat × Nat) :=
  (cx.patterns.filter (fun q => q.2.residence = 1)).flatMap (fun q =>
    (List.range q.2.len).flatMap (fun j =>
      ((List.range 1024).filter (fun b =>
        (cx.chunkImages q.1 q.2 j).any (fun i => s.placeBad (q.2.stackByte i j (64 * b))))).map (fun b => (q.1, j, b))))

/-- R525: the entry of a poisoned burst. -/
def poisonEntry (e : Nat × Nat × Nat) : List Byte := natLE 8 (e.1 + e.2.1 * 2 ^ 10 + e.2.2 * 2 ^ 42)

/-- Bytes of a Pattern's DATA section. -/
def Pattern.dataBytes (p : Pattern) : Nat := 65536 * p.len * (if p.scratch then 2 else 1)

/-- R528: the next 4 KiB boundary. -/
def page4k (n : Nat) : Nat := (n + 4095) / 4096 * 4096

/-- Lays sections out in order, each on a 4 KiB boundary (R528): type, number, length and bytes. -/
def laySections : Nat → List (Nat × Nat × Nat × List Byte) → List CkptSection
  | _, [] => []
  | off, (ty, n, len, bs) :: t => { typ := ty, num := n, off := off, len := len, bytes := bs } :: laySections (page4k (off + len)) t

/-- R525, R530: the sections of a context's image, in the order of their types. -/
def State.ckptSections (s : State) (c : Nat) (cx : Context) : List CkptSection :=
  let rest := s.restOf c cx
  let own := fun (ty : Nat) (bs : List Byte) => (ty, 0, bs.length, bs)
  let enc := fun (ty : Nat) => own ty (Config.encodeSection ty rest)
  let segs := ((List.range 64).map (fun i =>
    match FMap.get? cx.segs i with | some d => wordsLE d.words | none => List.replicate 32 0#8)).flatten
  let pats := (cx.patterns.map (fun q => wordsLE (q.2.words q.1))).flatten
  let knots := ((s.knots.filter (fun p => p.2.owner = c)).map (fun p => s.knotRecord p.1 p.2)).flatten
  let data := (cx.patterns.filter (fun q => q.2.residence = 1)).map (fun q => (0x0A, q.1, q.2.dataBytes, []))
  laySections 0 ([enc 1, enc 2, own 3 segs, own 4 pats, own 5 knots, enc 6, enc 7, enc 8, enc 9] ++ data ++
    [own 0x0B (((s.poisonedBursts cx).map poisonEntry).flatten)])

/-- R529: bytes of image data: to the end of the last section. -/
def imageBytes (l : List CkptSection) : Nat := match l.getLast? with | some x => x.off + x.len | none => 0

/-- Bytes of a block (R527). -/
def ckptBlock : Nat := 67108864

-- ---------------------------------------------------------------- the keys (R592)

/-- R592: GARMENT, BOARD and LPOS as the derivations take them. -/
def keyPlace (garment board lpos : Nat) : Nat × Nat × Nat := if garment = 0 then (0, 0xF, 0xF) else (garment, board, lpos)

/-- R592: the wrapping key of a kind, 1 OWNER under a root, 0 DEVICE under the identity seed. -/
def wrapKey (root : Option Nat) (garment board lpos : Nat) : Nat :=
  match root with
  | some r => let (g, b, l) := keyPlace garment board lpos; Config.kdf [1, r, g, b, l]
  | none => Config.kdf [0, Config.identitySeed]

/-- R592: the context signing key, by serial number. -/
def signKey (root : Option Nat) (garment ctx id : Nat) : Nat :=
  match root with
  | some r => Config.kdf [3, r, garment, ctx, id]
  | none => Config.kdf [2, Config.identitySeed, garment, ctx, id]

/-- R592: the wrapped key. -/
def State.wrapped (s : State) (garment board lpos key : Nat) : List Byte :=
  let body := (Config.wrap (wrapKey s.thimble.owr garment board lpos) key ++ List.replicate 72 0#8).take 72
  natLE 4 (if s.thimble.owr.isSome then 1 else 0) ++ natLE 48 Config.identity ++ natLE 4 0 ++ body

-- ---------------------------------------------------------------- the fix (R522, R523, R527, R529)

/-- CkptKind codes (R522). -/
def CkptKind.code : CkptKind → Nat
  | .host => 0 | .monitor => 1 | .recalling => 2

/-- R527: the slot a checkpoint goes to. -/
def ckptSlot (d : CkptDest) (total : Nat) : Nat :=
  match d.slot with
  | none => 0
  | some k => if total + 1 ≤ d.blocks / 2 then 1 - k else 0

/-- R527: where a slot begins. -/
def slotAddr (addr blocks slot : Nat) : Nat := addr + ckptBlock * (blocks / 2) * slot

/-- R529: the manifest's header. -/
def State.ckptHeader (s : State) (c : Nat) (cx : Context) (kind : CkptKind) (id slot total : Nat) (l : List CkptSection) : List Byte :=
  let open_ := (s.restOf c cx).last.map (fun x => x.2.2)
  let n := imageBytes l
  recordOf ([1 + kind.code * 2 ^ 16 + slot * 2 ^ 20, id % 2 ^ 32, s.ctxHandleOf c,
    cx.garment.getD 0 % 2 ^ 16 + s.board.logical s.board.posId % 16 * 2 ^ 16 + s.board.boardId % 16 * 2 ^ 20,
    s.tick.number % 2 ^ 32, s.tick.number / 2 ^ 32 % 2 ^ 16, cx.train.lastDone.getD 0 % 2 ^ 32,
    (if cx.train.lastDone.isSome then 1 else 0) + (if open_ = some true then 2 else 0), total, l.length % 2 ^ 16, n % 2 ^ 32, n / 2 ^ 32,
    0 + 3 * 2 ^ 4 + (if s.thimble.approved then 2 ^ 8 else 0), 128, 4627, 0] ++ orderingWords) 128

/-- R522 to R524, R592: fixes a context's image and starts its stream; none where the destination has no room. The destination's record keeps
the slot for the next one. -/
def State.fixCkpt (s : State) (c : Nat) (kind : CkptKind) (cmd : Option Nat) (id : Nat) (d : CkptDest) : Option State :=
  match s.ctx? c with
  | none => none
  | some cx =>
    let l := s.ckptSections c cx
    let n := imageBytes l
    let total := (n + ckptBlock - 1) / ckptBlock
    if d.blocks < total + 1 then none
    else
      let slot := ckptSlot d total
      let (key, s1) := s.draw
      let k : Ckpt :=
        { kind := kind, id := id, cmd := cmd, fixedAt := s.tick.number, dest := d.addr, blocks := d.blocks, ports := d.ports, slot := slot,
          sections := l, bytes := n, total := total, header := s.ckptHeader c cx kind id slot total l, key := key, digests := [], acked := [],
          retried := [], released := false, ended := none }
      some (s1.modCtx c (fun x => { x with risk := { x.risk with running := some k, want := kind = .host && x.risk.want, dest := some { d with slot := some slot } } }))

/-- R522, R527: the destination that a command gives: one with the address and length of the last keeps its slot. -/
def RiskCtx.newDest (r : RiskCtx) (addr blocks ports id : Nat) : CkptDest :=
  { addr := addr, blocks := blocks, ports := ports, id := id, taken := 0,
    slot := match r.dest with | some d => if d.addr = addr && d.blocks = blocks then d.slot else none | none => none }

/-- R488: whether a destination's words are valid. -/
def destOk (addr ports : Nat) : Bool := addr % ckptBlock = 0 && ports != 0

/-- R488, R522, R523: CKPT_SAVE. -/
def actCkptSave (r : CmdReq) (s : State) : CmdResult :=
  let all := 2 ^ 32 - 1
  s.ctxCmd r .plain [(0x08, all), (0x0C, all), (0x10, all), (0x14, all), (0x18, fld 0 2)] (fun c cx =>
    if !destOk (r.d 0x0C) (r.w 0x18) then s.fail stBadParam
    else if cx.risk.running.isSome || cx.risk.recalling.isSome || cx.risk.restore.isSome || s.inTurn c || s.thimbleBusy then s.fail stBusy
    else match s.fixCkpt c .host (some r.num) (r.w 0x08) (cx.risk.newDest (r.d 0x0C) (r.w 0x14) (r.w 0x18) (r.w 0x08)) with
      | none => s.fail stNoRoom
      | some s1 => s1.startedCmd)

/-- Command 0x80. -/
def rowCkptSave : CmdRow := { op := 0x80, mgmt := false, stages := false, act := actCkptSave }

/-- CKPT_SAVE, R488. -/
def execCkptSave (r : CmdReq) (s : State) : Host.Outcome State Fault Refusal := .next (s.perform rowCkptSave r)

-- ---------------------------------------------------------------- the stream (R526 to R530)

/-- R525, R526: the byte of image data at an offset: of a copied section, or of a Pattern as the stacks hold it, zero where poisoned. -/
def State.imageByte (s : State) (cx : Context) (l : List CkptSection) (o : Nat) : Byte :=
  match l.find? (fun x => decide (x.off ≤ o) && decide (o < x.off + x.len)) with
  | none => 0
  | some x =>
    if x.typ != 0x0A then x.bytes.getD (o - x.off) 0
    else match FMap.get? cx.patterns x.num with
      | none => 0
      | some p =>
        let t := (o - x.off) / 65536
        let per := if p.scratch then 2 else 1
        let place := p.stackByte ((cx.chunkImages x.num p (t / per)).getD (t % per) 0) (t / per) ((o - x.off) % 65536)
        match place with
        | .stack ch a => if s.placeBad place then 0 else Mem.read s.stack (ch * 2 ^ 32 + a)
        | _ => 0

/-- R528: the bytes of a data block, encrypted in units of 4 KiB under the checkpoint key with each unit's offset. -/
def State.blockBytes (s : State) (cx : Context) (k : Ckpt) (block : Nat) : List Byte :=
  (List.range (ckptBlock / 4096)).flatMap (fun u =>
    let o := ckptBlock * (block - 1) + 4096 * u
    let plain := (List.range 4096).map (fun i => s.imageByte cx k.sections (o + i))
    (Config.cipher k.key o plain ++ List.replicate 4096 0#8).take 4096)

/-- R528: where the writes of a block end: the block is acknowledged, by the first port or by the other one named; none where every named
port failed. `failed` has a bit for each port that reports a failure: 0 H0, 1 H1. The second component says that it was sent again. -/
def blockPorts (ports block failed : Nat) : Option Bool :=
  let first := if ports = 3 then block % 2 else if ports = 1 then 0 else 1
  if !bit failed first then some false
  else if ports = 3 && !bit failed (1 - first) then some true
  else none

/-- R610: the ports that fail a transfer: those reported and those in reset. -/
def State.portsFailed (s : State) (failed : Nat) : Nat :=
  (if bit failed 0 || !s.mod.port0 then 1 else 0) + (if bit failed 1 || !s.mod.port1 then 2 else 0)

/-- Applies `f` to a context's running checkpoint. -/
def State.modCkpt (s : State) (c : Nat) (f : Ckpt → Ckpt) : State :=
  s.modCtx c (fun x => { x with risk := { x.risk with running := x.risk.running.map f } })

/-- A context's checkpoint that still streams. -/
def State.streaming (s : State) (c : Nat) : Option (Context × Ckpt) :=
  (s.ctx? c).bind (fun cx => cx.risk.running.bind (fun k => if k.ended.isNone then some (cx, k) else none))

/-- R528: the lowest data block not acknowledged. -/
def Ckpt.lowest (k : Ckpt) : Nat := ((List.range k.total).find? (fun i => !k.acked.contains (i + 1))).getD k.total + 1

/-- R531: the last complete checkpoint no longer counts once another begins to write its slot. -/
def RiskCtx.overwrite (r : RiskCtx) (k : Ckpt) : RiskCtx :=
  { r with last := match r.last with | some x => if x.addr = slotAddr k.dest k.blocks k.slot then none else some x | none => none }

/-- R528: a data block is read, encrypted and written. -/
def State.writeBlock (s : State) (c block failed : Nat) : State :=
  match s.streaming c with
  | none => s
  | some (cx, k) =>
    if block = 0 || k.total < block || k.acked.contains block || k.lowest + 7 < block then s
    else
      let bs := s.blockBytes cx k block
      let s1 := (s.modCtx c (fun x => { x with risk := x.risk.overwrite k })).modCkpt c (fun x =>
        { x with digests := FMap.set x.digests block (Config.digest bs % 2 ^ 256) })
      match blockPorts k.ports block (s.portsFailed failed) with
      | none => s1.modCkpt c (fun x => { x with ended := some stFenced })
      | some again =>
        { (s1.modCkpt c (fun x =>
            { x with acked := x.acked ++ [block], retried := if again then x.retried ++ [block] else x.retried })) with
          host := Mem.writeN s1.host (slotAddr k.dest k.blocks k.slot + ckptBlock * block) bs }

/-- CKPT_BLOCK_WRITE, R528; `failed` has a bit for each port that reports a failure. -/
def execCkptBlockWrite (ctx block failed : Nat) (s : State) : Host.Outcome State Fault Refusal := .next (s.writeBlock ctx block failed)

/-- R530: a section's entry. -/
def CkptSection.entry (x : CkptSection) : List Byte :=
  natLE 4 (x.typ + x.num * 2 ^ 8) ++ natLE 4 0 ++ natLE 8 x.off ++ natLE 8 x.len

/-- R529, R530, R592: the signed manifest. -/
def State.manifestOf (s : State) (c : Nat) (k : Ckpt) : List Byte :=
  let w := word32 k.header 0x0C
  let g := w % 2 ^ 16
  let body := k.header ++ (k.sections.map CkptSection.entry).flatten ++ s.wrapped g (bits w 20 4) (bits w 16 4) k.key ++
    ((List.range k.total).map (fun i => natLE 32 (FMap.getD k.digests (i + 1) 0))).flatten
  body ++ (Config.sign (signKey s.thimble.owr g c k.id) body ++ List.replicate 4627 0#8).take 4627

/-- R528, R531: with every data block acknowledged the manifest is written to block 0. -/
def State.writeManifest (s : State) (c failed : Nat) : State :=
  match s.streaming c with
  | none => s
  | some (_, k) =>
    if k.acked.length < k.total || s.thimbleBusy then s
    else match blockPorts k.ports 0 (s.portsFailed failed) with
      | none => s.modCkpt c (fun x => { x with ended := some stFenced })
      | some _ =>
        { (s.modCkpt c (fun x => { x with ended := some stOk })) with
          host := Mem.writeN s.host (slotAddr k.dest k.blocks k.slot) (s.manifestOf c k) }

/-- CKPT_STREAM_DONE, R528, R531. -/
def execCkptStreamDone (ctx failed : Nat) (s : State) : Host.Outcome State Fault Refusal := .next (s.writeManifest ctx failed)

/-- R524: step 4 of a commit releases from the hold a context whose last data block has been read. -/
def State.releaseCkpts (s : State) : State :=
  { s with contexts := s.contexts.map (fun p => (p.1, { p.2 with risk := { p.2.risk with
      running := p.2.risk.running.map (fun k => { k with released := k.released || decide (k.total ≤ k.digests.length) }) } })) }

-- ---------------------------------------------------------------- the end (R531)

/-- R531: EV_CKPT_END. -/
def State.evCkptEnd (s : State) (c status : Nat) (kind : CkptKind) (slot id blocks fix : Nat) : State :=
  s.bothEvent c 0x1C 0 [status + kind.code * 2 ^ 8 + slot * 2 ^ 12, id % 2 ^ 32, blocks, fix % 2 ^ 32]

/-- R531: a checkpoint that ends: its command's completion or its event, and the context's record of the last complete one. -/
def State.endCkpt (s : State) (c status : Nat) : State :=
  match (s.ctx? c).bind (fun cx => cx.risk.running) with
  | none => s
  | some k =>
    let addr := slotAddr k.dest k.blocks k.slot
    let s1 := s.modCtx c (fun x => { x with risk := { x.risk with
      running := none
      last := if status = stOk then some { id := k.id, addr := addr, slot := k.slot, at_ := s.tick.number } else x.risk.last } })
    match k.cmd with
    | some n => s1.finishCmd n status (if status = stOk then [k.id, k.acked.length] else [])
    | none => s1.evCkptEnd c status k.kind k.slot k.id k.acked.length k.fixedAt

/-- R464, R531: a close or a deadline stops the stream: a host checkpoint's command completes with the others, another says how it ended. -/
def State.stopCkpt (s : State) (c : Nat) : State := s.endCkpt c stFenced

end Sys2Proof.Machine
end

