-- ==== Sys2Proof/Machine/Sampling.lean ====
section
/-! DEFINITION. Sampling and speculative decoding (R344 to R347) over the logits of a step. -/

namespace Sys2Proof.Machine

/-- The FP32 value of a code. -/
def f32 (c : Nat) : FVal := Fmt.fp32.read c

/-- FP32 multiplication and division of codes. -/
def f32Mul (a b : Nat) : Nat := Fmt.fp32.encode (Fmt.fp32.round (FVal.mul (f32 a) (f32 b))).1
def f32Div (a b : Nat) : Nat := Fmt.fp32.encode (Fmt.fp32.div (f32 a) (f32 b))

/-- FP32 one. -/
def f32One : Nat := 0x3F800000

/-- R344 step 1: a logit after the repetition penalty; `hist` is the penalty history, newest first. -/
def Request.penalise (q : Request) (hist : List Nat) (p : Nat × Nat) : Nat × Nat :=
  if q.repPen = f32One || q.repWin = 0 || !(hist.take q.repWin).contains p.1 then p
  else if FVal.lt (.fin false 0 0) (f32 p.2) then (p.1, f32Div p.2 q.repPen)
  else (p.1, f32Mul p.2 q.repPen)

/-- The order of R344: larger value first, the lower identifier on a tie. -/
def rankBefore (a b : Nat × Nat) : Bool :=
  FVal.lt (f32 b.2) (f32 a.2) || (FVal.eqv (f32 a.2) (f32 b.2) && decide (a.1 < b.1))

/-- Puts a candidate in its place. -/
def insertRank (x : Nat × Nat) : List (Nat × Nat) → List (Nat × Nat)
  | [] => [x]
  | y :: t => if rankBefore x y then x :: y :: t else y :: insertRank x t

/-- Candidates in the order of R344. -/
def rankAll (l : List (Nat × Nat)) : List (Nat × Nat) := l.foldl (fun a x => insertRank x a) []

/-- R344 step 5: how many candidates stay: those before which the mass is below TOP_P, and always the first. `sums` are the running sums. -/
def keptCount (topP : Nat) (sums : List Nat) : Nat :=
  1 + (sums.takeWhile (fun m => FVal.lt (f32 m) (f32 topP))).length

/-- R345: the draw u for a position and purpose, as an FP32 code. -/
def Request.drawAt (q : Request) (pos purpose : Nat) : Nat :=
  let g := genG q.seed (pos * 2 ^ 24 + purpose * 2 ^ 20)
  Fmt.fp32.encode (.fin false (g / 2 ^ 9) (-23))

/-- The probability of a token among candidates and their probabilities. -/
def probOf (tok : Nat) (l : List (Nat × Nat)) (ps : List Nat) : Nat :=
  match l.findIdx? (fun p => p.1 = tok) with
  | some i => ps.getD i 0
  | none => 0

/-- R344: the log-probability of a token under the distribution over all tokens: tempered, or raw. -/
def Request.lnAll (q : Request) (tempered : Bool) (logits : List (Nat × Nat)) (tok : Nat) : Nat :=
  let l := if tempered && FVal.lt (.fin false 0 0) (f32 q.temp) then logits.map (fun p => (p.1, f32Div p.2 q.temp)) else logits
  Config.lnProb (probOf tok l (Config.softmax (l.map Prod.snd)))

/-- R344: samples one position: the token and its LOGPROB. A position whose logits are not given, or hold a NaN, has a free token, the
value of `fresh` below V, and a free LOGPROB. -/
def Request.sample (q : Request) (vocab : Nat) (given : List (Nat × Nat)) (hist : List Nat) (pos purpose fresh : Nat) : Nat × Nat :=
  let logits := given.filter (fun p => decide (p.1 < vocab))
  if logits.isEmpty || logits.any (fun p => decide (f32 p.2 = .nan)) then
    (Config.freeNat fresh % Nat.max 1 vocab, Config.freeNat (fresh + 1) % 2 ^ 32)
  else
    let pen := logits.map (fun p => q.penalise hist p)
    let full := fun tok => if q.lpMode = 1 then q.lnAll true logits tok else q.lnAll false logits tok
    if FVal.eqv (f32 q.temp) (.fin false 0 0) then
      let tok := match rankAll pen with | [] => 0 | p :: _ => p.1
      (tok, if q.lpMode = 0 then 0 else full tok)
    else
      let ranked := rankAll (pen.map (fun p => (p.1, f32Div p.2 q.temp)))
      let top := if q.topK = 0 then ranked else ranked.take q.topK
      let probs := Config.softmax (top.map Prod.snd)
      let cand := rankAll (top.zipIdx.map (fun (p : (Nat × Nat) × Nat) => (p.1.1, probs.getD p.2 0)))
      let sums := Config.runningSums (cand.map Prod.snd)
      let kept := cand.take (keptCount q.topP sums)
      let mass := sums.getD (kept.length - 1) 0
      let bar := f32 (f32Mul (q.drawAt pos purpose) mass)
      let pick := ((List.range kept.length).find? (fun i => FVal.lt bar (f32 (sums.getD i 0)))).getD (kept.length - 1)
      let tok := (kept.getD pick (0, 0)).1
      (tok, if q.lpMode = 0 then Config.lnProb (f32Div (kept.getD pick (0, 0)).2 mass) else full tok)

/-- A token that a step emits. -/
structure Emitted where
  token : Nat
  logprob : Nat
  pos : Nat
  draft : Bool
  deriving DecidableEq, Repr

/-- R346 step 1: the tokens the draft model proposes for `n` positions from `pos` on. -/
def Request.propose (q : Request) (vocab : Nat) (logits : List (List (Nat × Nat))) : Nat → List Nat → Nat → Nat → List Nat
  | 0, _, _, _ => []
  | n + 1, hist, pos, fresh =>
    let d := (q.sample vocab (logits.headD []) hist pos 1 fresh).1
    d :: q.propose vocab logits.tail n (d :: hist) (pos + 1) (fresh + 2)

/-- R346 steps 2 to 5: the tokens emitted, and how many proposals were accepted. -/
def Request.verify (q : Request) (vocab : Nat) : List (List (Nat × Nat)) → List Nat → List Nat → Nat → Nat → List Emitted × Nat
  | logits, [], hist, pos, fresh =>
    let (t, lp) := q.sample vocab (logits.headD []) hist pos 0 fresh
    ([{ token := t, logprob := lp, pos := pos, draft := false }], 0)
  | logits, d :: ds, hist, pos, fresh =>
    let (t, lp) := q.sample vocab (logits.headD []) hist pos 0 fresh
    if t = d then
      let (l, a) := q.verify vocab logits.tail ds (t :: hist) (pos + 1) (fresh + 2)
      ({ token := t, logprob := lp, pos := pos, draft := true } :: l, a + 1)
    else ([{ token := t, logprob := lp, pos := pos, draft := false }], 0)

/-- R347: the depth and off count after a finished step with `accepted` proposals. -/
def Request.nextDepth (q : Request) (accepted : Nat) : Nat × Nat :=
  if 1 ≤ q.depth && accepted = 0 then (q.depth / 2, if q.depth / 2 = 0 then 32 else q.offCount)
  else if 1 ≤ q.depth && accepted = q.depth then (Nat.min (2 * q.depth) q.dMax, q.offCount)
  else if 1 ≤ q.depth then (q.depth, q.offCount)
  else if 1 ≤ q.dMax then (if q.offCount ≤ 1 then (1, 0) else (0, q.offCount - 1))
  else (0, q.offCount)

/-- R352: how a token ends its request: 2 STOP, 1 LENGTH, 0 not. -/
def Request.endOf (q : Request) (e : Emitted) : Nat :=
  if q.stop.contains e.token then 2
  else if e.pos = q.promptLen + q.maxNew - 1 || e.pos = 2 ^ 24 - 1 then 1
  else 0

/-- R352: the tokens up to the one that ends the request, and its END code. -/
def Request.cutAtEnd (q : Request) : List Emitted → List Emitted × Nat
  | [] => ([], 0)
  | e :: t =>
    if q.endOf e != 0 then ([e], q.endOf e)
    else
      let (l, c) := q.cutAtEnd t
      (e :: l, c)

end Sys2Proof.Machine
end

