-- ==== Sys2Proof/Machine/Gen.lean ====
section
/-! DEFINITION. Generation (chapter 14): settings, requests and their states, pleats and their tables, bobbin records, the steps a commit
gathers and finishes, pause and resume, ends, and requests across a garment. -/

namespace Sys2Proof.Machine

-- ---------------------------------------------------------------- pleats (R348 to R350)

/-- R336: the pleats a pool of a context offers. -/
def Context.poolPleats (cx : Context) (pat chunks : Nat) : Nat :=
  match FMap.get? cx.patterns pat with
  | some p => if p.residence = 1 && chunks != 0 then p.len / chunks else 0
  | none => 0

/-- Pleats of a pool in use: the draft pool's, or the other's. -/
def State.pleatsUsed (s : State) (c : Nat) (draft : Bool) : List Nat :=
  (s.requests.filter (fun p => p.2.ctx = c)).flatMap (fun p => if draft then p.2.draftPleats else p.2.pleats)

/-- R349: the `n` lowest free pleats of a pool; none where it cannot give them. -/
def lowestPleats (total : Nat) (used : List Nat) (n : Nat) : Option (List Nat) :=
  let l := ((List.range total).filter (fun q => !used.contains q)).take n
  if l.length = n then some l else none

/-- R348: where entry `j` of a request's table lies; the draft tables stand behind those of all requests of the range. -/
def GenCfg.entryAddr (g : GenCfg) (idx : Nat) (draft : Bool) (j : Nat) : Nat :=
  ctxAddr g.tableSeg (4 * g.maxPleats * (idx - g.reqBase + (if draft then g.maxReq else 0)) + 4 * j)

/-- R348, R349: entries of a request's table from entry `j` on, to be written in the next admission phase. -/
def State.writeTable (s : State) (c idx : Nat) (draft : Bool) (j : Nat) (es : List Nat) : State :=
  match (s.ctx? c).bind (fun cx => cx.genCfg) with
  | none => s
  | some g => { s with tableWrites := s.tableWrites ++ [(c, g.entryAddr idx draft j, (es.map (natLE 4)).flatten)] }

/-- R348: the admission phase writes the tables' entries. -/
def State.writeTables (s : State) : State :=
  s.tableWrites.foldl (fun (a : State) w => a.writeCtx w.1 w.2.1 w.2.2) { s with tableWrites := [] }

/-- R349: brings a request to `n` pleats, and as many draft pleats where a draft is named; none where a pool cannot give them. -/
def State.allocPleats (s : State) (idx n : Nat) : Option State :=
  match FMap.get? s.requests idx with
  | none => none
  | some q =>
    match s.ctx? q.ctx with
    | none => none
    | some cx =>
      match cx.genCfg with
      | none => none
      | some g =>
        let want := fun (have_ : List Nat) => n - have_.length
        let main := lowestPleats (cx.poolPleats g.pleatPool g.pleatChunks) (s.pleatsUsed q.ctx false) (want q.pleats)
        let draft := if g.draftImage.isNone then some []
          else lowestPleats (cx.poolPleats g.draftPool g.draftChunks) (s.pleatsUsed q.ctx true) (want q.draftPleats)
        match main, draft with
        | some a, some b =>
          let s1 := s.modReq idx (fun x => { x with pleats := x.pleats ++ a, draftPleats := x.draftPleats ++ b })
          let s2 := if a.isEmpty then s1 else s1.writeTable q.ctx idx false q.pleats.length a
          some (if b.isEmpty then s2 else s2.writeTable q.ctx idx true q.draftPleats.length b)
        | _, _ => none

/-- An entry of a pleat table that names none. -/
def noPleat : Nat := 0xFFFFFFFF

/-- R350: a request's pleats return to the pools. -/
def State.freePleats (s : State) (idx : Nat) : State :=
  match FMap.get? s.requests idx with
  | none => s
  | some q =>
    let s1 := if q.pleats.isEmpty then s else s.writeTable q.ctx idx false 0 (q.pleats.map (fun _ => noPleat))
    let s2 := if q.draftPleats.isEmpty then s1 else s1.writeTable q.ctx idx true 0 (q.draftPleats.map (fun _ => noPleat))
    s2.modReq idx (fun x => { x with pleats := [], draftPleats := [] })

-- ---------------------------------------------------------------- records and ends (R338, R339, R343, R453, R515)

/-- R343: a bobbin record. -/
def bobbinRec (token lp pos : Nat) (draft last marker : Bool) (end_ : Nat) (resumed : Bool) (tick : Nat) : List Byte :=
  wordsLE [token % 2 ^ 32, lp % 2 ^ 32,
    pos % 2 ^ 24 + (if draft then 2 ^ 24 else 0) + (if last then 2 ^ 25 else 0) + (if marker then 2 ^ 26 else 0) + end_ % 8 * 2 ^ 27 +
      (if resumed then 2 ^ 30 else 0), tick % 2 ^ 32]

/-- R515: the 8-byte records of a window bobbin: one, or an escape and its continuation. -/
def narrowRecs (token lp pos : Nat) (draft last marker : Bool) (end_ : Nat) (resumed : Bool) (tick : Nat) : List (List Byte) :=
  let esc := !marker && decide (65535 < token)
  let w0 := (if marker || esc then 0xFFFF else token % 2 ^ 16) + (if draft then 2 ^ 16 else 0) + (if last then 2 ^ 17 else 0) +
    (if marker then 2 ^ 18 else 0) + end_ % 8 * 2 ^ 19 + (if resumed then 2 ^ 22 else 0) + (if esc then 2 ^ 23 else 0) + pos % 256 * 2 ^ 24
  wordsLE [w0, lp % 2 ^ 32] :: (if esc then [wordsLE [token % 2 ^ 24 + 2 ^ 24, tick % 2 ^ 32]] else [])

/-- Writes a record to a request's bobbin. -/
def State.putBobbin (s : State) (q : Request) (token lp pos : Nat) (draft last marker : Bool) (end_ : Nat) (resumed : Bool) : State :=
  let recs := if q.narrow then narrowRecs token lp pos draft last marker end_ resumed s.tick.number
    else [bobbinRec token lp pos draft last marker end_ resumed s.tick.number]
  recs.foldl (fun (a : State) b =>
    a.emit { spool := q.bobbin, gen := a.spoolGen q.bobbin, kind := .bobbin, ctx := q.ctx + 1, key := 0, bytes := b }) s

/-- R453: the request end, written among the completions of step 1, or behind the completion of the command `by_` that caused it. A request
opened through the Prosor window has none (R514). -/
def State.putReqEnd (s : State) (idx : Nat) (q : Request) (st : ReqState) (end_ status : Nat) (by_ : Option Nat) : State :=
  match q.narrow, s.ctx? q.ctx with
  | false, some cx =>
    let b := completionWords s status 2 q.tag (st.code + end_ * 2 ^ 4) [reqHandle q.gen idx, q.tokens % 2 ^ 24, q.length % 2 ^ 24]
    (s.modCtx q.ctx (fun x => { x with owed := x.owed - 1 })).emit
      { spool := cx.cplSpool, gen := s.spoolGen cx.cplSpool, kind := (match by_ with | none => .requestEnd | some _ => .command),
        ctx := q.ctx + 1, key := (match by_ with | none => idx | some n => 2 * n + 1), bytes := b }
  | _, _ => s

/-- R338, R255: closes a request: its generation advances and its index waits to be used again. -/
def State.closeReq (s : State) (idx : Nat) : State :=
  match FMap.get? s.requests idx with
  | none => s
  | some q =>
    { (s.freePleats idx).retireIndex 1 idx with
      requests := FMap.del s.requests idx
      closedNow := (reqHandle q.gen idx, q.ctx) :: s.closedNow }

/-- R356: a home tells the other members of the garment what a request has become; they apply it two commits later, in the same step of
the commit order. -/
def State.tellShadows (s : State) (idx step : Nat) (st : ReqState) : State :=
  match FMap.get? s.requests idx with
  | none => s
  | some q =>
    if !q.garment || !q.home then s
    else match (s.ctx? q.ctx).bind (fun cx => cx.garment) with
      | none => s
      | some g => s.notifyAll g .reqUpdate
          [g, reqHandle q.gen idx, s.tick.number + 2, step, st.code, q.length, q.prefilled, q.depth, q.promptLen, q.dMax]

/-- R339: a request reaches FINISHED, CANCELLED, FAILED or EXPIRED: a marker where `marker` says so, the end completion, and its pleats and
Hem runs are freed; all but EXPIRED close it. -/
def State.endReq (s : State) (idx : Nat) (st : ReqState) (end_ status step : Nat) (marker : Bool) (by_ : Option Nat) : State :=
  match FMap.get? s.requests idx with
  | none => s
  | some q =>
    let s1 := if marker then s.putBobbin q 0xFFFFFFFF 0x7FC00000 q.length false true true end_ false else s
    let s2 := ((s1.putReqEnd idx q st end_ status by_).tellShadows idx step st).freePleats idx
    let s3 := s2.modReq idx (fun x => { x with state := st, hemRuns := [], copyDone := none, failing := none })
    if st = .expired then s3 else s3.closeReq idx

/-- END codes (R343). -/
def endLength : Nat := 1
def endStop : Nat := 2
def endCancelled : Nat := 3
def endExpired : Nat := 4
def endFailed : Nat := 5
def endClosed : Nat := 6

-- ---------------------------------------------------------------- finishing a step (R341, R342, R346, R347, R352)

/-- The last `n` prompt tokens of a request before its end, newest first, for the penalty history. -/
def State.promptTail (s : State) (q : Request) (n : Nat) : List Nat :=
  let k := Nat.min n q.promptLen
  if k = 0 then []
  else match s.readCtx q.ctx (q.prompt + 4 * (q.promptLen - k)) (4 * k) s.freeCtr with
    | some bs => (wordsOf bs k).reverse
    | none => []

/-- R342: the prompt positions a prefill step covers. -/
def Request.covers (q : Request) (g : GenCfg) : Nat := Nat.min g.prefillMax (q.promptLen - q.prefilled)

/-- R341, R343, R347, R352: commits the tokens of a request's finished step. -/
def State.commitTokens (s : State) (idx : Nat) (q : Request) (all : List Emitted) (depth off : Nat) : State :=
  let (es, code) := q.cutAtEnd all
  let n := es.length
  let s1 := es.zipIdx.foldl (fun (a : State) (e : Emitted × Nat) =>
    let last := decide (code != 0 ∧ e.2 + 1 = n)
    a.putBobbin q e.1.token e.1.logprob e.1.pos e.1.draft last false (if last then code else 0) (q.resumed && decide (e.2 = 0))) s
  let s2 := s1.modReq idx (fun x => { x with
    state := .decode
    prefilled := x.promptLen
    length := x.promptLen + x.tokens + n
    tokens := x.tokens + n
    history := (es.map (fun e => e.token)).reverse ++ x.history
    depth := depth
    offCount := off
    resumed := false
    age := s.tick.number })
  if code = 0 then s2.tellShadows idx 1 .decode else s2.endReq idx .finished code stOk 1 false none

/-- R341, R342, R346: step 1 of a commit takes what a request's finished step produced. A shadow's step produces nothing here (R356). -/
def State.finishStep (s : State) (idx : Nat) (given : List StepLogits) : State :=
  match FMap.get? s.requests idx with
  | none => s
  | some q =>
    match (s.ctx? q.ctx).bind (fun cx => cx.genCfg) with
    | none => s
    | some g =>
      if !q.home then s
      else
        let lg := (given.find? (fun l => l.req = idx)).getD { req := idx, main := [], draft := [] }
        match q.state with
        | .prefill =>
          let n := q.covers g
          if q.prefilled + n < q.promptLen then
            (s.modReq idx (fun x => { x with prefilled := x.prefilled + n, length := x.prefilled + n, age := s.tick.number })).tellShadows idx 1 .prefill
          else
            let hist := s.promptTail q q.repWin
            let (es, _) := q.verify g.vocab lg.main [] hist q.promptLen s.freeCtr
            { s with freeCtr := s.freeCtr + 2 }.commitTokens idx q es q.depth q.offCount
        | .decode =>
          let hist := q.history ++ s.promptTail q (q.repWin - q.history.length)
          let ds := q.propose g.vocab lg.draft q.depth hist q.length s.freeCtr
          let (es, acc) := q.verify g.vocab lg.main ds hist q.length (s.freeCtr + 32)
          let (d, off) := q.nextDepth acc
          { s with freeCtr := s.freeCtr + 64 }.commitTokens idx q es d off
        | _ => s

-- ---------------------------------------------------------------- the other events of step 1 (R339, R351, R353, R355)

/-- R353: the instant C of this tick on the tick timer, in ns. -/
def State.commitInstant (s : State) : Nat := s.tick.startNs + (s.tick.periodNs - 8000)

/-- R339, R350, R351: a PAUSING request whose pleats are all in the Hem tier is PAUSED. -/
def State.becomePaused (s : State) (idx : Nat) : State :=
  (((s.freePleats idx).modReq idx (fun x => { x with
    state := .paused, pausedAt := s.commitInstant, copyDone := none })).tellShadows idx 1 .paused)

/-- R339, R353: a RESUMING request whose pleats are back holds its earlier state again. -/
def State.becomeResumed (s : State) (idx : Nat) : State :=
  match FMap.get? s.requests idx with
  | none => s
  | some q => (s.modReq idx (fun x => { x with
      state := q.prior, hemRuns := [], copyDone := none, resumed := true, age := s.tick.number })).tellShadows idx 1 q.prior

/-- R353: a PAUSED request whose time to live has run out at this commit expires. -/
def State.expireReq (s : State) (idx : Nat) : State :=
  match FMap.get? s.requests idx with
  | none => s
  | some q =>
    if q.home && q.state = .paused && decide (q.pausedAt + q.ttl * 10 ^ 9 ≤ s.commitInstant) then
      s.endReq idx .expired endExpired stExpired 1 true none
    else s

/-- R347: an off count that has reached 0 makes the depth 1. -/
def State.restartDraft (s : State) (idx : Nat) : State :=
  s.modReq idx (fun x => if x.depth = 0 && 1 ≤ x.dMax && x.offCount = 0 then { x with depth := 1 } else x)

/-- Step 1 for a request whose step has been taken: failures, the ends of copies, and expiry. A PEER_LOST or HOST_FAULT failure writes a marker
(R355, R357); an EXPIRED request fails no more. -/
def State.reqStep1 (s : State) (idx : Nat) : State :=
  match FMap.get? s.requests idx with
  | none => s
  | some q =>
    match q.failing with
    | some (st, marker) =>
      if q.state = .expired then s.modReq idx (fun x => { x with failing := none })
      else if q.home then s.endReq idx .failed endFailed st 1 marker none
      else s.closeReq idx
    | none =>
      match q.state, q.copyDone with
      | .pausing, some true => s.becomePaused idx
      | .resuming, some true => s.becomeResumed idx
      | _, _ => s.expireReq idx

/-- REQUEST_EXPIRY, R353. -/
def execRequestExpiry (req : Nat) (s : State) : Host.Outcome State Fault Refusal :=
  if Config.requests ≤ req then .fault .noSuchUnit else .next (s.expireReq req)

/-- DRAFT_OFF_COUNT_EXPIRY, R347. -/
def execDraftOffCountExpiry (req : Nat) (s : State) : Host.Outcome State Fault Refusal :=
  if Config.requests ≤ req then .fault .noSuchUnit else .next (s.restartDraft req)

-- ---------------------------------------------------------------- gathering steps (R340, R349)

/-- R340, R516: whether a request's bobbin has the free entries its step needs, beyond the records due at this commit. -/
def State.bobbinRoom (s : State) (q : Request) : Bool :=
  match FMap.get? s.spools q.bobbin with
  | none => false
  | some sp =>
    let due := (s.out.filter (fun r => r.spool = q.bobbin)).length
    decide (due + (if q.narrow then 2 else 1) * (q.depth + 2) ≤ sp.free)

/-- R349: the last position the request's next step writes. A shadow keeps pleats through L + 32 (R356). -/
def Request.lastPos (q : Request) (g : GenCfg) : Nat :=
  if !q.home then Nat.min (q.length + 32) (q.promptLen + q.maxNew)
  else if q.state = .prefill then
    let n := q.covers g
    if q.prefilled + n = q.promptLen then q.promptLen else q.prefilled + n - 1
  else q.length + q.depth

/-- R349: the pleats the request needs for its next step. -/
def Request.pleatsNeeded (q : Request) (g : GenCfg) : Nat := Nat.min (q.lastPos g / 256 + 1) g.maxPleats

/-- R340: whether a request qualifies for a step, its pleats aside. -/
def State.stepReady (s : State) (q : Request) : Bool :=
  (q.state = .prefill || q.state = .decode) && q.failing.isNone && q.noStepBefore ≤ s.tick.number && (!q.home || s.bobbinRoom q)

/-- R330: whether the request's step waits for a granule of the shared stock. -/
def State.stepHeld (s : State) (idx : Nat) : Bool := s.adm.pending.any (fun t => t.heldFor.isSome && t.requests.contains idx)

/-- Puts a request in its place by its open commit, then its index. -/
def insertOpen (p : Nat × Request) : List (Nat × Request) → List (Nat × Request)
  | [] => [p]
  | x :: t => if x.2.openCommit < p.2.openCommit || (x.2.openCommit = p.2.openCommit && x.1 < p.1) then x :: insertOpen p t else p :: x :: t

/-- R340, R349: the requests of a context that qualify, those of PREFILL and those of DECODE, and how many wait for pleats; the state is a
trial one in which their pleats have been given. -/
def State.gatherSteps (s : State) (c : Nat) (g : GenCfg) : State × List (Nat × Request) × List (Nat × Request) × Nat :=
  let rs := ((s.requests.filter (fun p => p.2.ctx = c && s.stepReady p.2 && !s.stepHeld p.1))).foldl (fun a p => insertOpen p a) []
  rs.foldl (fun (a : State × List (Nat × Request) × List (Nat × Request) × Nat) p =>
    match a.1.allocPleats p.1 (p.2.pleatsNeeded g) with
    | none => (a.1, a.2.1, a.2.2.1, a.2.2.2 + 1)
    | some t =>
      if p.2.state = .prefill then (t, a.2.1 ++ [p], a.2.2.1, a.2.2.2) else (t, a.2.1, a.2.2.1 ++ [p], a.2.2.2)) (s, [], [], 0)

/-- Cuts a list into runs of at most `n`; `fuel` bounds how many. -/
def cutRuns {α : Type} (n : Nat) : Nat → List α → List (List α)
  | 0, _ => []
  | _ + 1, [] => []
  | fuel + 1, x :: t => (x :: t).take (Nat.max 1 n) :: cutRuns n fuel ((x :: t).drop (Nat.max 1 n))

/-- R340: the stitch of a group's step: of the context's ceiling, with the age of its oldest request; its arguments are free values.
A request's age counts on while it does not qualify for a step (R60; assumption 50). -/
def State.stepStitch (s : State) (c : Nat) (cx : Context) (prog : Nat) (grp : List (Nat × Request)) : State × Stitch :=
  let f := s.freeCtr
  let age := grp.foldl (fun (a : Nat) p => Nat.min a p.2.age) s.tick.number
  ({ s with freeCtr := f + 3, adm := { s.adm with nextId := s.adm.nextId + 1 } },
   { id := s.adm.nextId, ctx := c, program := prog, cls := cx.ceiling, want := 7, age := age, tag := 0,
     arg0 := BitVec.ofNat 64 (Config.freeNat f), arg1 := BitVec.ofNat 64 (Config.freeNat (f + 1)),
     arg2 := BitVec.ofNat 64 (Config.freeNat (f + 2)), panelMask := 0, repeatable := false, list := none, entry := 0,
     requests := grp.map Prod.fst, skips := 0, heldFor := none })

/-- R340, R349: the step stitches of a context at this commit, with EV_PLEAT_SHORT where requests wait for pleats. -/
def State.offerSteps (s : State) (c : Nat) : State × List Stitch :=
  match s.ctx? c with
  | none => (s, [])
  | some cx =>
    match cx.genCfg with
    | none => (s, [])
    | some g =>
      if cx.state != .open_ then (s, [])
      else
        let (t, pre, dec, short) := s.gatherSteps c g
        let free := cx.poolPleats g.pleatPool g.pleatChunks - (t.pleatsUsed c false).length
        let s1 := if short = 0 then s else s.ctxEvent c 0x19 0 [short, free]
        let groups := (cutRuns g.batch pre.length pre).map (fun l => (g.prefillProg, l)) ++
          (cutRuns g.batch dec.length dec).map (fun l => (g.stepProg, l))
        groups.foldl (fun (a : State × List Stitch) p =>
          let (b, st) := a.1.stepStitch c cx p.1 p.2
          (b, a.2 ++ [st])) (s1, [])

/-- R349: gives the requests of an admitted step their pleats. -/
def State.giveStepPleats (s : State) (reqs : List Nat) : State :=
  reqs.foldl (fun (a : State) i =>
    match FMap.get? a.requests i with
    | none => a
    | some q =>
      match (a.ctx? q.ctx).bind (fun cx => cx.genCfg) with
      | none => a
      | some g => (a.allocPleats i (q.pleatsNeeded g)).getD a) s

-- ---------------------------------------------------------------- GEN_CFG (R336, R471, R482)

/-- R482: the parameters as the words carry them. -/
def readGenCfg (r : CmdReq) : GenCfg :=
  { reqBase := r.w 0x08, maxReq := r.w 0x0C, vocab := r.w 0x10, pleatPool := r.f 0x14 0 10, pleatChunks := r.f 0x14 10 13,
    maxPleats := r.f 0x18 0 17, tableSeg := r.f 0x18 17 6, prefillProg := r.f 0x1C 0 16, stepProg := r.f 0x1C 16 16,
    prefillMax := r.f 0x20 0 17, batch := r.f 0x20 17 9, draftImage := if bit (r.w 0x24) 10 then some (r.f 0x24 0 10) else none,
    draftPool := r.f 0x28 0 10, draftChunks := r.f 0x28 10 13, pauseGrant := r.w 0x2C }

/-- R336: the ranges of the parameters. -/
def GenCfg.inRange (g : GenCfg) : Bool :=
  let d := g.draftImage.isNone || (1 ≤ g.draftChunks && g.draftChunks ≤ 4096)
  1 ≤ g.maxReq && g.reqBase + g.maxReq ≤ Config.requests && 2 ≤ g.vocab && g.vocab ≤ 2 ^ 24 && 1 ≤ g.pleatChunks && g.pleatChunks ≤ 4096 &&
  1 ≤ g.maxPleats && g.maxPleats ≤ 65536 && 256 ≤ g.prefillMax && g.prefillMax ≤ 65536 && 1 ≤ g.batch && g.batch ≤ 256 && d

/-- R336: the parameters that may not change while a request is open. -/
def GenCfg.fixed (g : GenCfg) : GenCfg := { g with prefillProg := 0, stepProg := 0, prefillMax := 0, batch := 0, pauseGrant := 0, tableSeg := 0 }

/-- The settings of a context as they stand once what is staged becomes current. -/
def State.stagedGen (s : State) (c : Nat) (cx : Context) : Option GenCfg :=
  s.shadow.foldl (fun (a : Option GenCfg) e => match e with
    | .genCfg k g => if k = c then some g else a
    | _ => a) cx.genCfg

/-- R336: GEN_CFG. -/
def actGenCfg (r : CmdReq) (s : State) : CmdResult :=
  s.ctxCmd r .plain
    [(0x08, fld 0 17), (0x0C, fld 0 18), (0x10, fld 0 25), (0x14, fld 0 23), (0x18, fld 0 23), (0x1C, fld 0 32), (0x20, fld 0 26),
     (0x24, fld 0 11), (0x28, fld 0 23), (0x2C, fld 0 10)] (fun c cx =>
    let g := readGenCfg r
    let inQuota := decide (cx.reqBase ≤ g.reqBase ∧ g.reqBase + g.maxReq ≤ cx.reqBase + cx.reqCount)
    let overlaps := s.contexts.any (fun p => p.1 != c && (match s.stagedGen p.1 p.2 with
      | some o => decide (g.reqBase < o.reqBase + o.maxReq ∧ o.reqBase < g.reqBase + g.maxReq)
      | none => false))
    let mapped := match g.draftImage with
      | none => true
      | some im => (s.segsOf c cx).any (fun p => p.2.valid && p.2.kind = 3 && p.2.region = im)
    if !g.inRange || !inQuota || overlaps || !mapped then s.fail stBadParam
    else if (match s.stagedGen c cx with | some o => decide (o.fixed ≠ g.fixed) | none => false) &&
        s.requests.any (fun p => p.2.ctx = c) then s.fail stBusy
    else (s.stage (.genCfg c g)).done [])

/-- Command 0x50. -/
def rowGenCfg : CmdRow := { op := 0x50, mgmt := false, stages := true, act := actGenCfg }

/-- GEN_CFG, R482. -/
def execGenCfg (r : CmdReq) (s : State) : Host.Outcome State Fault Refusal := .next (s.perform rowGenCfg r)

-- ---------------------------------------------------------------- REQ_OPEN (R337, R483)

/-- R337: whether an FP32 code is finite and lies between two codes of positive values; zero is allowed where `zero` says so. -/
def f32Between (zero : Bool) (lo hi c : Nat) : Bool :=
  (zero && (c = 0 || c = 0x80000000)) || (decide (lo ≤ c) && decide (c ≤ hi) && decide (c < 0x7F800000))

/-- R337, R483: the request that a block asks for; none where a value is out of range. -/
def readRequest (s : State) (c : Nat) (g : GenCfg) (narrow : Bool) (r : CmdReq) : Option (Nat × Request) :=
  let idx := r.bf 0 0 17
  let nstop := r.bf 0 17 4
  let promptLen := r.bw 0x14
  let maxNew := r.bw 0x18
  let garment := bit (r.bw 0) 27
  let resv := blockOk r 0 24 ([(0x00, fld 0 28), (0x04, fld 0 28), (0x08, fld 0 27), (0x14, fld 0 24), (0x18, fld 0 24), (0x30, fld 0 16)] ++
    ([0x0C, 0x10, 0x1C, 0x20, 0x24, 0x28, 0x2C] ++ (List.range 8).map (fun i => 0x40 + 4 * i)).map (fun o => (o, fld 0 32)))
  let ok := resv && g.reqBase ≤ idx && idx < g.reqBase + g.maxReq && nstop ≤ 8 && r.bf 0 21 2 ≤ 2 && r.bf 8 16 11 ≤ 1024 &&
    1 ≤ promptLen && 1 ≤ maxNew && promptLen + maxNew ≤ Nat.min (256 * g.maxPleats) (2 ^ 24) &&
    -- 2^-10 to 65,504; above 0 to 1; 1 to 65,504
    f32Between true 0x3A800000 0x477FE000 (r.bw 0x24) && f32Between false 1 0x3F800000 (r.bw 0x28) &&
    f32Between false 0x3F800000 0x477FE000 (r.bw 0x2C) && (r.bf 0 23 4 = 0 || g.draftImage.isSome) && !(garment && narrow)
  if ok then
    some (idx,
      { gen := s.reqGen idx, ctx := c, state := .prefill, bobbin := r.bw 4 % 2 ^ 20, narrow := narrow, tag := r.bf 8 0 16, prompt := r.bd 0x0C,
        promptLen := promptLen, maxNew := maxNew, seed := r.bd 0x1C, temp := r.bw 0x24, topK := r.bf 8 16 11, topP := r.bw 0x28,
        repPen := r.bw 0x2C, repWin := r.bw 0x30, stop := (List.range nstop).map (fun i => r.bw (0x40 + 4 * i)), lpMode := r.bf 0 21 2,
        dMax := r.bf 0 23 4, depth := r.bf 0 23 4, offCount := 0, length := 0, prefilled := 0, tokens := 0, history := [], pleats := [],
        draftPleats := [], grant := 0, hemRuns := [], copyDone := none, ttl := 0, pausedAt := 0, prior := .prefill, resumed := false,
        openCommit := s.tick.number, age := s.tick.number, garment := garment, home := true, homeAt := s.self, acks := [], openCmd := none, noStepBefore := 0,
        failing := none })
  else none

/-- R8, R337: whether a handle names a spool at all: its generation is the spool's current one. -/
def State.spoolNow (s : State) (h : Nat) : Bool :=
  match FMap.get? s.spools (h % 2 ^ 20) with
  | none => false
  | some sp => sp.gen = h / 2 ^ 20

/-- R337: whether a handle is a spool that can be a request's bobbin: KIND 3 of the right entry size, the context's, and serving no other
request. -/
def State.bobbinFree (s : State) (c h : Nat) (narrow : Bool) : Bool :=
  match s.cmdSpool c h with
  | .error _ => false
  | .ok (i, sp) => sp.kind = 3 && sp.esize = (if narrow then 0 else 1) && !s.requests.any (fun p => p.2.bobbin = i)

/-- R8, R337: REQ_OPEN; a bobbin's handle of an old generation is STALE. With GARMENT 1 it completes at commit M + 2 (R356). -/
def actReqOpen (r : CmdReq) (s : State) : CmdResult :=
  s.ctxCmd r .block [] (fun c cx =>
    let narrow := match r.origin with | .window _ _ => true | _ => false
    match cx.genCfg with
    | none => s.fail stBadParam
    | some g =>
      match readRequest s c g narrow r with
      | none => s.fail stBadParam
      | some (idx, q) =>
        if q.garment && cx.garment.isNone then s.fail stBadParam
        else if !s.spoolNow (r.bw 4) then s.fail stStale
        else if FMap.has s.requests idx || !s.indexFree 1 idx || !s.bobbinFree c (r.bw 4) narrow then s.fail stBusy
        else
          let late := s.tick.number + 2
          let q1 := if q.garment then { q with openCmd := some (r.num, late), noStepBefore := late } else q
          let s1 := { s with requests := FMap.set s.requests idx q1 }
          let blank := List.replicate g.maxPleats noPleat
          let s2 := s1.writeTable c idx false 0 blank
          let s3 := if g.draftImage.isSome then s2.writeTable c idx true 0 blank else s2
          let s4 := s3.modCtx c (fun x => { x with owed := x.owed + (if narrow then 0 else 1) })
          if q.garment then (s4.tellShadows idx 3 .prefill).startedCmd else s4.done [reqHandle q.gen idx])

/-- Command 0x51. -/
def rowReqOpen : CmdRow := { op := 0x51, mgmt := false, stages := false, act := actReqOpen }

/-- REQ_OPEN, R483. -/
def execReqOpen (r : CmdReq) (s : State) : Host.Outcome State Fault Refusal := .next (s.perform rowReqOpen r)

/-- R356: at commit M + 2 a garment request's REQ_OPEN completes: OK where every member has acknowledged, or PEER_LOST, and then nothing was
opened. -/
def State.settleOpens (s : State) : State :=
  s.requests.foldl (fun (a : State) p =>
    match p.2.openCmd with
    | none => a
    | some (num, at_) =>
      if s.tick.number < at_ then a
      else
        let others := match (a.ctx? p.2.ctx).bind (fun cx => cx.garment) with | some g => a.otherMembers g | none => []
        if others.all (fun m => p.2.acks.contains m) then
          (a.modReq p.1 (fun x => { x with openCmd := none })).finishCmd num stOk [reqHandle p.2.gen p.1]
        else ((a.modCtx p.2.ctx (fun x => { x with owed := x.owed - 1 })).closeReq p.1).finishCmd num stPeerLost []) s

-- ---------------------------------------------------------------- the other request commands (R351 to R354, R484)

/-- R354, R356, R484: the request a command names at 0x08, or the status that ends the command: ALREADY_DONE for one closed at this commit,
BAD_PARAM on a device that is not its home. -/
def State.namedReq (s : State) (c : Nat) (r : CmdReq) : Except Nat (Nat × Request) :=
  let h := r.w 0x08
  match s.closedNow.find? (fun p => p.1 = h) with
  | some p => .error (if p.2 = c then stAlreadyDone else stBadParam)
  | none =>
    match s.cmdReqOf c h with
    | .error e => .error e
    | .ok (i, q) => if q.home then .ok (i, q) else .error stBadParam

/-- R351: free runs in a grant for several pleats, `n` chunks each, taken in order; none where one has no room. -/
def hemRunsFor (runs : List ChunkRun) (limit : Nat) : List Nat → Option (List (Nat × Nat))
  | [] => some []
  | n :: t =>
    match lowestFree runs n limit with
    | none => none
    | some b => (hemRunsFor ({ start := b, len := n } :: runs) limit t).map (fun l => (b, n) :: l)

/-- R44, R351: REQ_PAUSE; of a request that has EXPIRED it finds the end already made. -/
def actReqPause (r : CmdReq) (s : State) : CmdResult :=
  s.ctxCmd r .plain [(0x08, fld 0 25), (0x0C, fld 0 26)] (fun c cx =>
    let ttl := r.f 0x0C 0 16
    let asked := r.f 0x0C 16 10
    if ttl = 0 then s.fail stBadParam
    else match s.namedReq c r, cx.genCfg with
      | .error e, _ => s.fail e
      | _, none => s.fail stBadParam
      | .ok (i, q), some g =>
        let gr := if asked = 0x3FF then g.pauseGrant else asked
        if q.state = .expired then s.fail stAlreadyDone
        else if cx.risk.held || (q.state != .prefill && q.state != .decode) then s.fail stBusy
        else match FMap.get? cx.grants gr with
          | none => s.fail stBadParam
          | some grant =>
            let want := q.pleats.map (fun _ => g.pleatChunks) ++ q.draftPleats.map (fun _ => g.draftChunks)
            match hemRunsFor (s.grantRuns c cx gr) grant.len want with
            | none => s.fail stNoRoom
            | some runs =>
              ((s.modReq i (fun x => { x with
                state := .pausing, prior := q.state, grant := gr, hemRuns := runs, ttl := ttl, copyDone := none
                noStepBefore := if x.garment then s.tick.number + 2 else x.noStepBefore })).tellShadows i 3 .pausing).done [])

/-- Command 0x52. -/
def rowReqPause : CmdRow := { op := 0x52, mgmt := false, stages := false, act := actReqPause }

/-- REQ_PAUSE, R484. -/
def execReqPause (r : CmdReq) (s : State) : Host.Outcome State Fault Refusal := .next (s.perform rowReqPause r)

/-- The pleats of a request with the Hem runs of its pause: whether draft, pool pleat, chunks of a pleat, run. -/
def Request.copyPairs (q : Request) (g : GenCfg) : List (Nat × Nat × Nat × Nat) :=
  let m := (q.pleats.zip q.hemRuns).map (fun p => (g.pleatPool, p.1, g.pleatChunks, p.2.1))
  let d := (q.draftPleats.zip (q.hemRuns.drop q.pleats.length)).map (fun p => (g.draftPool, p.1, g.draftChunks, p.2.1))
  m ++ d

/-- R351, R353: copies every pleat of a request between its pool and its grant. -/
def State.copyPleats (s : State) (idx : Nat) (toHem : Bool) : State :=
  match FMap.get? s.requests idx with
  | none => s
  | some q =>
    match s.ctx? q.ctx with
    | none => s
    | some cx =>
      match cx.genCfg, FMap.get? cx.grants q.grant with
      | some g, some gr =>
        (q.copyPairs g).foldl (fun (a : State) e =>
          match FMap.get? cx.patterns e.1 with
          | none => a
          | some p =>
            (List.range e.2.2.1).foldl (fun (b : State) k =>
              match patternByte q.ctx cx p (committedImage cx e.1 (e.2.1 * e.2.2.1 + k)) (e.2.1 * e.2.2.1 + k) 0 with
              | .stack ch x =>
                let st := ch * 2 ^ 32 + x
                match gr.byte q.ctx q.grant (e.2.2.2 + k) 0 with
                | .host ho enc =>
                  if toHem then b.putHostRun ho enc (Mem.readN b.stack st 65536)
                  else
                    let c := b.channel ch
                    if c.state = .fenced then b
                    else
                      { b.setChannel ch { c with poison := c.poison.filter (fun y => y / 1024 != x / 65536) } with
                        stack := Mem.writeN b.stack st (b.hostRun ho enc 65536) }.mirrorBursts ch
                          ((List.range 1024).map (fun i => x / 65536 * 1024 + i))
                | _ => b
              | _ => b) a) s
      | _, _ => s

/-- R549, R610: the port, 0 H0 or 1 H1, and the address of the first grant chunk of a request's pause copy whose host port is in reset. -/
def State.copyFails (s : State) (q : Request) : Option (Nat × Nat) :=
  match s.ctx? q.ctx with
  | none => none
  | some cx =>
    match cx.genCfg, FMap.get? cx.grants q.grant with
    | some g, some gr =>
      let chunks := (q.copyPairs g).flatMap (fun e => (List.range e.2.2.1).map (fun k => gr.base + 65536 * (e.2.2.2 + k)))
      (chunks.find? (fun a => !s.hostPortUp (gr.portOf a + 1))).map (fun a => (gr.portOf a, a))
    | _, _ => none

/-- PAUSE_COPY_DONE, R351: every pleat has been written to the Hem tier and acknowledged; where a host port in reset fails the copy it goes on
waiting, and the context is paused at the commit (R549, R610). -/
def execPauseCopyDone (req : Nat) (s : State) : Host.Outcome State Fault Refusal :=
  if Config.requests ≤ req then .fault .noSuchUnit
  else match FMap.get? s.requests req with
    | none => .next s
    | some q =>
      if q.state = .pausing && q.copyDone.isNone then
        match s.copyFails q with
        | some p => .next { s with fences := { s.fences with hostPoison := s.fences.hostPoison ++ [(q.ctx, 0, p.1, p.2)] } }
        | none => .next ((s.copyPleats req true).modReq req (fun x => { x with copyDone := some true }))
      else .next s

/-- RESUME_COPY_DONE, R353, R355: every pleat has been written back and acknowledged, or a Hem read returned an error, as through a host port in
reset (R610), which fails the request. -/
def execResumeCopyDone (req : Nat) (readFailed : Bool) (s : State) : Host.Outcome State Fault Refusal :=
  if Config.requests ≤ req then .fault .noSuchUnit
  else match FMap.get? s.requests req with
    | none => .next s
    | some q =>
      if q.state = .resuming && q.copyDone.isNone then
        if readFailed || (s.copyFails q).isSome then .next (s.modReq req (fun x => { x with copyDone := some false, failing := some (stHostFault, true) }))
        else .next ((s.copyPleats req false).modReq req (fun x => { x with copyDone := some true }))
      else .next s

/-- R353, R354: REQ_RESUME. -/
def actReqResume (r : CmdReq) (s : State) : CmdResult :=
  s.ctxCmd r .plain [(0x08, fld 0 25)] (fun c cx =>
    match s.namedReq c r with
    | .error e => s.fail e
    | .ok (i, q) =>
      if cx.risk.held then s.fail stBusy
      else match q.state with
      | .expired => (s.closeReq i, some (stExpired, []))
      | .paused =>
        -- the runs stand pleats first, then the draft's, which are as many where a draft is named
        let n := match (s.ctx? c).bind (fun cx => cx.genCfg) with
          | some g => if g.draftImage.isSome then q.hemRuns.length / 2 else q.hemRuns.length
          | none => 0
        (match s.allocPleats i n with
         | none => s.fail stNoRoom
         | some s1 => ((s1.modReq i (fun x => { x with state := .resuming, copyDone := none })).tellShadows i 3 .resuming).done [])
      | _ => s.fail stBusy)

/-- Command 0x53. -/
def rowReqResume : CmdRow := { op := 0x53, mgmt := false, stages := false, act := actReqResume }

/-- REQ_RESUME, R484. -/
def execReqResume (r : CmdReq) (s : State) : Host.Outcome State Fault Refusal := .next (s.perform rowReqResume r)

/-- R339, R354: REQ_CANCEL. -/
def actReqCancel (r : CmdReq) (s : State) : CmdResult :=
  s.ctxCmd r .plain [(0x08, fld 0 25)] (fun c _ =>
    match s.namedReq c r with
    | .error e => s.fail e
    | .ok (i, q) =>
      if q.state = .expired then (s.closeReq i, some (stAlreadyDone, []))
      else (s.endReq i .cancelled endCancelled stOk 3 true (some r.num)).done [])

/-- Command 0x54. -/
def rowReqCancel : CmdRow := { op := 0x54, mgmt := false, stages := false, act := actReqCancel }

/-- REQ_CANCEL, R484. -/
def execReqCancel (r : CmdReq) (s : State) : Host.Outcome State Fault Refusal := .next (s.perform rowReqCancel r)

/-- R347: DRAFT_SET stages a request's depth; above 0 the context must name a draft. -/
def actDraftSet (r : CmdReq) (s : State) : CmdResult :=
  s.ctxCmd r .plain [(0x08, fld 0 25), (0x0C, fld 0 4)] (fun c cx =>
    match s.namedReq c r with
    | .error e => s.fail e
    | .ok (i, _) =>
      if r.w 0x0C != 0 && (match cx.genCfg with | some g => g.draftImage.isNone | none => true) then s.fail stBadParam
      else (s.stage (.draft i (r.w 0x0C))).done [])

/-- Command 0x55. -/
def rowDraftSet : CmdRow := { op := 0x55, mgmt := false, stages := true, act := actDraftSet }

/-- DRAFT_SET, R484. -/
def execDraftSet (r : CmdReq) (s : State) : Host.Outcome State Fault Refusal := .next (s.perform rowDraftSet r)

/-- R347: step 2 of a commit sets a request's depth. -/
def State.applyDraft (s : State) (idx d : Nat) : State :=
  (s.modReq idx (fun x => { x with dMax := d, depth := d, offCount := 0 })).tellShadows idx 2
    (match FMap.get? s.requests idx with | some q => q.state | none => .free)

/-- R339: CTX_CLOSE, or RECALL, of the context: its requests are cancelled with END CLOSED; one that is EXPIRED has had its end. -/
def State.closeRequests (s : State) (c : Nat) (by_ : Option Nat) : State :=
  (s.requests.filter (fun p => p.2.ctx = c)).foldl (fun (a : State) p =>
    if p.2.state = .expired || !p.2.home then a.closeReq p.1
    else a.endReq p.1 .cancelled endClosed stOk 3 true by_) s

-- ---------------------------------------------------------------- requests across a garment (R356)

/-- The state that a code names. -/
def ReqState.ofCode : Nat → ReqState
  | 1 => .prefill | 2 => .decode | 3 => .pausing | 4 => .paused | 5 => .resuming | 6 => .expired | 7 => .finished | 8 => .cancelled | 9 => .failed
  | _ => .free

/-- R256: the generation under which a member knows a request: its shadow's, or that of a change that waits for its commit. -/
def State.shadowGen (s : State) (req : Nat) : Option Nat :=
  match FMap.get? s.requests req with
  | some q => some q.gen
  | none => (s.shadowUpdates.find? (fun x => x.upd.req = req)).map (fun x => x.upd.gen)

/-- R256, R356: a home's change at a member: one of a garment that is not held here, or of another generation of the request, or that neither
opens a request nor names an open one, is a generation failure. Any other waits for its commit, and the change that opens the request is
acknowledged. -/
def State.homeChange (s : State) (u : ReqUpdate) : State :=
  let held := match FMap.get? s.garments u.garment with | some g => g.ctxs.contains u.ctx && FMap.has s.contexts u.ctx | none => false
  let opens := (s.shadowGen u.req).isNone
  if !held || (if opens then 3 ≤ u.state else s.shadowGen u.req != some u.gen) then s.noteStale true msgControl u.epoch
  else
    let s1 := { s with shadowUpdates := s.shadowUpdates ++ [{ upd := u }] }
    if opens then s1.notify u.home .reqAck [u.garment, reqHandle u.gen u.req] else s1

/-- GARMENT_REQUEST_UPDATE, R256, R356. -/
def execGarmentRequestUpdate (u : ReqUpdate) (s : State) : Host.Outcome State Fault Refusal :=
  if Config.requests ≤ u.req || Config.contexts ≤ u.ctx then .fault .noSuchUnit
  else .next (s.receive msgControl u.epoch (fun a => a.homeChange u))

/-- GARMENT_REQUEST_ACK, R356: a member has acknowledged the open. -/
def execGarmentRequestAck (req member : Nat) (s : State) : Host.Outcome State Fault Refusal :=
  if Config.requests ≤ req then .fault .noSuchUnit
  else .next (s.modReq req (fun x => if x.acks.contains member then x else { x with acks := member :: x.acks }))

/-- A shadow of a request, as its home's first change opens it. -/
def shadowOf (s : State) (u : ReqUpdate) : Request :=
  { gen := u.gen, ctx := u.ctx, state := ReqState.ofCode u.state, bobbin := 2 ^ 20, narrow := false, tag := 0, prompt := 0,
    promptLen := u.promptLen, maxNew := 2 ^ 24 - u.promptLen, seed := 0, temp := 0, topK := 0, topP := f32One, repPen := f32One, repWin := 0,
    stop := [], lpMode := 0, dMax := u.dMax, depth := u.depth, offCount := 0, length := u.length, prefilled := u.prefilled, tokens := 0,
    history := [], pleats := [], draftPleats := [], grant := 0, hemRuns := [], copyDone := none, ttl := 0, pausedAt := 0, prior := .prefill,
    resumed := false, openCommit := s.tick.number, age := s.tick.number, garment := true, home := false, homeAt := u.home, acks := [], openCmd := none,
    noStepBefore := 0, failing := none }

/-- R356: a member applies a home's change. -/
def State.applyShadow (s : State) (u : ReqUpdate) : State :=
  let st := ReqState.ofCode u.state
  match FMap.get? s.requests u.req with
  | none => if FMap.has s.contexts u.ctx && u.state ≤ 5 then { s with requests := FMap.set s.requests u.req (shadowOf s u) } else s
  | some q =>
    if q.home then s
    else if 6 ≤ u.state then s.closeReq u.req
    else
      let s1 := if st = .paused then s.freePleats u.req else s
      s1.modReq u.req (fun x => { x with
        state := st, length := u.length, prefilled := u.prefilled, depth := u.depth, dMax := u.dMax, age := s.tick.number })

/-- R356: the changes that this step of this commit applies. -/
def State.applyShadows (s : State) (step : Nat) : State :=
  let due := fun (u : ShadowUpdate) => u.upd.at_ = s.tick.number && u.upd.commitStep = step
  let s1 := (s.shadowUpdates.filter due).foldl (fun (a : State) u => a.applyShadow u.upd) s
  { s1 with shadowUpdates := s1.shadowUpdates.filter (fun u => !due u) }

end Sys2Proof.Machine
end

