-- ==== Sys2Proof/Machine/Restore.lean ====
section
/-! DEFINITION. Restoring a checkpoint (R489, R532 to R535, R593): the manifest and its checks, the fetch of the blocks, and the tables that
become current. -/

namespace Sys2Proof.Machine

-- ---------------------------------------------------------------- reading an image (R529, R530)

/-- A manifest as it was read: its bytes, its sections, the wrapped key and the digests of the data blocks. -/
structure Manifest where
  bytes : List Byte
  sections : List CkptSection
  wrapped : List Byte
  digests : List Nat
  total : Nat
  garment : Nat
  lpos : Nat
  board : Nat
  ctx : Nat
  id : Nat
  approved : Bool
  deriving DecidableEq, Repr

/-- R529, R530: block 0 at an address; none where the header is not of the form R529 gives. -/
def State.readCkptManifest (s : State) (a : Nat) : Option Manifest :=
  let h := Mem.readN s.host a 128
  let w := word32 h
  let nsect := bits (w 0x24) 0 16
  let total := w 0x20
  let at_ := 128 + 24 * nsect
  let len := at_ + 128 + 32 * total + 4627
  let bs := Mem.readN s.host a len
  if bits (w 0) 0 16 != 1 || bits (w 0) 16 4 > 2 || bits (w 0x34) 0 16 != 128 || bits (w 0x34) 16 4 != 0 || bits (w 0x38) 0 16 != 4627 then none
  else some
    { bytes := bs
      sections := (List.range nsect).map (fun i =>
        let e := slice bs (128 + 24 * i) 24
        { typ := bits (word32 e 0) 0 8, num := bits (word32 e 0) 8 10, off := leNat (slice e 8 8), len := leNat (slice e 16 8), bytes := [] })
      wrapped := slice bs at_ 128
      digests := (List.range total).map (fun i => leNat (slice bs (at_ + 128 + 32 * i) 32))
      total := total
      garment := bits (w 0x0C) 0 16
      lpos := bits (w 0x0C) 16 4
      board := bits (w 0x0C) 20 4
      ctx := bits (w 8) 0 10
      id := w 4
      approved := bit (w 0x30) 8 }

/-- R528: a data block's bytes as they lie at an address, where their digest is the manifest's. -/
def State.readBlock (s : State) (m : Nat) (digest block : Nat) : Option (List Byte) :=
  let bs := Mem.readN s.host (m + ckptBlock * block) ckptBlock
  if Config.digest bs % 2 ^ 256 = digest then some bs else none

/-- R528: the image data of a block. -/
def plainBlock (key block : Nat) (bs : List Byte) : List Byte :=
  (List.range (ckptBlock / 4096)).flatMap (fun u =>
    (Config.decipher key (ckptBlock * (block - 1) + 4096 * u) (slice bs (4096 * u) 4096) ++ List.replicate 4096 0#8).take 4096)

/-- R525, R532: the bytes of a section that a restore reads at its command; a block that no source gives stops it. -/
def State.readSection (s : State) (m : Manifest) (key : Nat) (places : List Nat) (x : CkptSection) : Except Nat (List Byte) :=
  if x.len = 0 then .ok []
  else
    let first := x.off / ckptBlock + 1
    let last := (x.off + x.len - 1) / ckptBlock + 1
    (List.range (last + 1 - first)).foldl (fun (acc : Except Nat (List Byte)) i =>
      let b := first + i
      match acc with
      | .error e => .error e
      | .ok l =>
        match places.findSome? (fun p => s.readBlock p (m.digests.getD (b - 1) 0) b) with
        | none => .error b
        | some bs =>
          let lo := Nat.max x.off (ckptBlock * (b - 1))
          let hi := Nat.min (x.off + x.len) (ckptBlock * b)
          .ok (l ++ slice (plainBlock key b bs) (lo - ckptBlock * (b - 1)) (hi - lo))) (.ok [])

/-- R233, R525: the knots of a KNOTS section. -/
def readKnots (bs : List Byte) (owner : Nat) : List (Nat × Knot) :=
  (List.range (bs.length / 32)).map (fun i =>
    let w := word32 (slice bs (32 * i) 32)
    let lo := w 0x0C
    let hi := w 0x10
    let st : KnotState := match bits (w 0) 22 2 with
      | 0 => .counter (BitVec.ofNat 48 (lo + hi % 2 ^ 16 * 2 ^ 32))
      | 1 => .barrier (hi / 2 ^ 16) (lo / 2 ^ 16) (lo % 2 ^ 16)
      | _ => .event (lo % 2 = 1)
    (bits (w 0) 0 14,
     { gen := bits (w 0) 14 8, owner := owner, gknot := bit (w 0) 24, state := st, changes := w 0x18, signallers := [], arrivals := [] }))

/-- R290, R525: the Pattern records of a PATTERNS section, from word `ws` on; `fuel` bounds how many. -/
def readPatterns : Nat → List Nat → FMap Pattern
  | 0, _ => []
  | n + 1, ws =>
    if ws.length < 8 then []
    else
      let w := fun i => ws.getD i 0
      let m := bits (w 2) 0 10
      let res := bits (w 2) 10 2
      let k := if res = 1 then m else 0
      let p : Pattern :=
        { spread := bits (w 0) 10 2, place := bits (w 0) 12 2, scratch := bit (w 0) 14, unit := bits (w 0) 15 5, hemGrant := bits (w 0) 20 10,
          len := w 1, residence := res, hemBase := if res = 2 then w 3 else 0,
          slots := (List.range k).map (fun i => (bits (w (8 + i)) 0 10, bits (w (8 + i)) 16 16)) }
      FMap.set (readPatterns n (ws.drop (8 + k))) (bits (w 0) 0 10) p

/-- R147, R525: the segments of a SEGMENTS section. -/
def readSegs (bs : List Byte) : FMap Seg :=
  (List.range 64).foldl (fun (m : FMap Seg) i =>
    match readSeg (wordsOf (slice bs (32 * i) 32) 8) with
    | some d => if d.valid then FMap.set m i d else m
    | none => m) []

/-- R525: the entries of a POISON section. -/
def readPoison (bs : List Byte) : List (Nat × Nat × Nat) :=
  (List.range (bs.length / 8)).map (fun i =>
    let v := leNat (slice bs (8 * i) 8)
    (bits v 0 10, bits v 10 32, bits v 42 10))

-- ---------------------------------------------------------------- the checks (R532, R593)

/-- R593: the root a wrapped key names: none for DEVICE. The outer none: an OWNER image, and this device holds no root. -/
def State.rootFor (s : State) (m : Manifest) : Option (Option Nat) :=
  if bit (word32 m.wrapped 0) 0 then (match s.thimble.owr with | some r => some (some r) | none => none) else some none

/-- R593: whether the manifest's signature verifies. -/
def State.ckptSigned (s : State) (m : Manifest) : Bool :=
  match s.rootFor m with
  | none => false
  | some root => Config.signatureOk (signKey root m.garment m.ctx m.id) m.bytes

/-- R593: the checkpoint key, where this device may unwrap it. -/
def State.ckptKey (s : State) (m : Manifest) : Option Nat :=
  match s.rootFor m with
  | none => none
  | some root =>
    let self := s.board.logical s.board.posId = m.lpos && s.board.boardId = m.board
    let mayUse := match root with
      | some _ => m.garment = 0 || self
      | none => leNat (slice m.wrapped 4 48) = Config.identity % 2 ^ 384
    if !mayUse || (s.thimble.approved && !m.approved) then none
    else Config.unwrap (wrapKey root m.garment m.board m.lpos) (slice m.wrapped 0x38 72)

/-- R532: whether the image's garment fits the context. -/
def State.garmentFits (s : State) (cx : Context) (m : Manifest) : Bool :=
  m.garment = 0 || (cx.garment = some m.garment && s.board.logical s.board.posId = m.lpos && s.board.boardId = m.board)

/-- R532: whether every STOCK image is mapped here at its version, and every grant is there with its length. -/
def State.restFits (s : State) (cx : Context) (r : CkptRest) : Bool :=
  r.stock.all (fun p => match FMap.get? s.stock p.1 with | some k => k.version = p.2 && k.readable.isSome | none => false) &&
  r.grants.all (fun g => match FMap.get? cx.grants g.1 with | some h => decide (g.2.len ≤ h.len) | none => false)

/-- R532: the indices of an image, by kind as R255 numbers them. -/
def imageIndices (rest : CkptRest) (knots : List (Nat × Knot)) : List (Nat × Nat) :=
  rest.requests.map (fun p => (1, p.1)) ++ rest.spools.map (fun p => (2, p.1)) ++ knots.map (fun p => (3, p.1))

/-- R532: whether an index is free or held by the context. -/
def State.indexFor (s : State) (c kind i : Nat) : Bool :=
  match kind with
  | 1 => (match FMap.get? s.requests i with | some q => q.ctx = c | none => s.indexFree 1 i)
  | 2 => (match FMap.get? s.spools i with | some sp => sp.owner = some c && 2 < sp.kind | none => s.indexFree 2 i)
  | _ => (match FMap.get? s.knots i with | some k => k.owner = c | none => s.indexFree 3 i)

/-- R449: whether a request still owes its end completion. -/
def Request.owes (q : Request) : Nat := if q.narrow || !q.home || q.state = .expired then 0 else 1

/-- R533: releases what the context holds. -/
def State.releaseForRestore (s : State) (c : Nat) : State :=
  match s.ctx? c with
  | none => s
  | some cx =>
    let own := [cx.cmdSpool, cx.cplSpool, cx.evtSpool]
    let s1 := (s.requests.filter (fun p => p.2.ctx = c)).foldl (fun (a : State) p =>
      { ((a.retireIndex 1 p.1).modCtx c (fun x => { x with owed := x.owed - p.2.owes })) with requests := FMap.del a.requests p.1 }) s
    let s2 := (s1.knots.filter (fun p => p.2.owner = c)).foldl (fun (a : State) p => a.closeKnot p.1) s1
    let s3 := (s2.spools.filter (fun p => p.2.owner = some c && !own.contains p.1)).foldl (fun (a : State) p => (a.spoolEnds p.1).closeSpool p.1) s2
    let s4 := (cx.patterns.keys ++ cx.patternStages.keys).foldl (fun (a : State) n => a.dropPattern c n) s3
    s4.modCtx c (fun x => { x with segs := [], progs := [], images := [] })

/-- R533: takes `n` chunks at a slot without zeroing them. -/
def State.holdRun (s : State) (n : Nat) (slot : Nat × Nat) : State :=
  let c := s.channel slot.1
  s.setChannel slot.1 { c with runs := c.runs ++ [{ start := slot.2, len := n }] }

/-- R532, R533: places the image's Patterns at their numbers by R292; those in the Hem tier keep their places. None where one does not fit. -/
def State.placeImage (s : State) (c : Nat) : FMap Pattern → Option State
  | [] => some s
  | (num, p) :: t =>
    match s.ctx? c with
    | none => none
    | some cx =>
      if p.residence != 1 then (s.modCtx c (fun x => { x with patterns := FMap.set x.patterns num p })).placeImage c t
      else match s.placePattern c cx { p with place := 0 } (p.slots.map Prod.fst) with
        | .error _ => none
        | .ok q =>
          let s1 := q.slots.foldl (fun (a : State) sl => a.holdRun (perSlot q.len q.slots.length q.scratch) sl) s
          (s1.modCtx c (fun x => { x with patterns := FMap.set x.patterns num { q with place := p.place } })).placeImage c t

/-- Keeps indices from being given out until commit `n`. -/
def State.keepIndices (s : State) (l : List (Nat × Nat)) (n : Nat) : State :=
  { s with freeAt := l.foldl (fun (m : FMap Nat) p => FMap.set m (p.1 * 2 ^ 20 + p.2) n) s.freeAt }

/-- R532, R533: the checks in their order, and the start of the fetch. -/
def State.startRestore (s : State) (c : Nat) (cx : Context) (r : CmdReq) : CmdResult :=
  let src := r.d 0x0C
  let alt := if r.d 0x1C = 0 then none else some (r.d 0x1C)
  let bad := fun (v : Nat) => ((s, some (stBadDigest, [0, v])) : CmdResult)
  match s.readCkptManifest src with
  | none => bad 1
  | some m =>
    if !s.ckptSigned m then bad 1
    else match s.ckptKey m with
    | none => bad 2
    | some key =>
      if (List.range 4).any (fun i => word32 m.bytes (0x40 + 4 * i) != orderingWords.getD i 0) then s.fail stBadParam
      else if !s.garmentFits cx m then s.fail stBadParam
      else
      let get := fun (ty : Nat) => match m.sections.find? (fun x => x.typ = ty) with
        | none => Except.ok ([] : List Byte)
        | some x => s.readSection m key (src :: alt.toList) x
      match get 3, get 4, get 5, get 0x0B, [1, 2, 6, 7, 8, 9].foldl (fun (acc : Except Nat (List (Nat × List Byte))) ty =>
          match acc, get ty with
          | .ok l, .ok bs => .ok (l ++ [(ty, bs)])
          | .error e, _ => .error e
          | _, .error e => .error e) (.ok []) with
      | .ok segs, .ok pats, .ok knots, .ok poison, .ok parts =>
        match Config.decodeSections parts with
        | none => bad 1
        | some rest =>
          let ks := readKnots knots c
          let ps := readPatterns (pats.length / 32 + 1) (wordsOf pats (pats.length / 4))
          let idx := imageIndices rest ks
          if !s.restFits cx rest then s.fail stBadParam
          else if !idx.all (fun p => s.indexFor c p.1 p.2) then s.fail stBusy
          else match (s.releaseForRestore c).placeImage c ps with
            | none => s.fail stNoRoom
            | some s1 =>
              let q : Restore :=
                { cmd := r.num, id := m.id, source := src, alternate := alt, ports := bits (r.w 0x18) 0 2, replay := bit (r.w 0x18) 2, rest := rest,
                  segs := readSegs segs, patterns := ps, knots := ks, poison := readPoison poison, sections := m.sections, digests := m.digests,
                  key := key, total := m.total, verified := [], tries := [], lastStep := rest.last.map Prod.fst, ready := false, failed := none }
              ((s1.keepIndices idx (2 ^ 64)).modCtx c (fun x => { x with risk := { x.risk with restore := some q } })).startedCmd
      | .error b, _, _, _, _ => (s, some (stBadDigest, [b, 0]))
      | _, .error b, _, _, _ => (s, some (stBadDigest, [b, 0]))
      | _, _, .error b, _, _ => (s, some (stBadDigest, [b, 0]))
      | _, _, _, .error b, _ => (s, some (stBadDigest, [b, 0]))
      | _, _, _, _, .error b => (s, some (stBadDigest, [b, 0]))

/-- R489, R532: CKPT_RESTORE. -/
def actCkptRestore (r : CmdReq) (s : State) : CmdResult :=
  let all := 2 ^ 32 - 1
  s.ctxCmd r .plain [(0x08, all), (0x0C, all), (0x10, all), (0x18, fld 0 3), (0x1C, all), (0x20, all)] (fun c cx =>
    if !destOk (r.d 0x0C) (r.f 0x18 0 2) || r.d 0x1C % ckptBlock != 0 then s.fail stBadParam
    else if cx.state != .paused || cx.risk.running.isSome || cx.risk.recalling.isSome || cx.risk.restore.isSome || s.thimbleBusy then s.fail stBusy
    else s.startRestore c cx r)

/-- Command 0x81. -/
def rowCkptRestore : CmdRow := { op := 0x81, mgmt := false, stages := false, act := actCkptRestore }

/-- CKPT_RESTORE, R489. -/
def execCkptRestore (r : CmdReq) (s : State) : Host.Outcome State Fault Refusal := .next (s.perform rowCkptRestore r)

-- ---------------------------------------------------------------- the blocks (R533)

/-- Applies `f` to a context's restore. -/
def State.modRestore (s : State) (c : Nat) (f : Restore → Restore) : State :=
  s.modCtx c (fun x => { x with risk := { x.risk with restore := x.risk.restore.map f } })

/-- R533: where request `t` of a block goes, none where no more are made. -/
def Restore.placeOf (q : Restore) (t : Nat) : Option Nat :=
  match q.alternate with
  | none => if t < 4 then some q.source else none
  | some a => if t < 5 then some (if t % 2 = 0 then q.source else a) else none

/-- R533: writes one burst of image data to the Pattern it belongs to, if it lies in a DATA section; an image's committed bytes come first. -/
def State.putImageBurst (s : State) (c : Nat) (cx : Context) (q : Restore) (o : Nat) (bs : List Byte) : State :=
  match q.sections.find? (fun x => x.typ = 0x0A && decide (x.off ≤ o) && decide (o < x.off + x.len)) with
  | none => s
  | some x =>
    match FMap.get? cx.patterns x.num with
    | none => s
    | some p =>
      let per := if p.scratch then 2 else 1
      let t := (o - x.off) / 65536
      match p.stackByte (t % per) (t / per) ((o - x.off) % 65536) with
      | .stack ch a => (s.writeBurst ch (a / 64) (bs.zipIdx.map (fun (b : Byte × Nat) => (b.2, b.1)))).1.touchLine ch (a / 64) 1 (some c) true true
      | _ => s

/-- R533: a block that was verified is written. -/
def State.putBlock (s : State) (c : Nat) (cx : Context) (q : Restore) (block : Nat) (bs : List Byte) : State :=
  let plain := plainBlock q.key block bs
  (List.range (ckptBlock / 64)).foldl (fun (a : State) i =>
    a.putImageBurst c cx q (ckptBlock * (block - 1) + 64 * i) (slice plain (64 * i) 64)) s

/-- R533: the lowest data block not yet verified. -/
def Restore.lowest (q : Restore) : Nat := ((List.range q.total).find? (fun i => !q.verified.contains (i + 1))).getD q.total + 1

/-- R533: one request of a block ends: verified and written, or asked for again, or given up. -/
def State.fetchBlock (s : State) (c block : Nat) (readFailed : Bool) : State :=
  match s.ctx? c with
  | none => s
  | some cx =>
    match cx.risk.restore with
    | none => s
    | some q =>
      if q.failed.isSome || block = 0 || q.total < block || q.verified.contains block || q.lowest + 7 < block then s
      else
        let t := FMap.getD q.tries block 0
        match q.placeOf t with
        | none => s
        | some a =>
          match (if readFailed || (blockPorts q.ports block (s.portsFailed 0)).isNone then none else s.readBlock a (q.digests.getD (block - 1) 0) block) with
          | some bs => (s.putBlock c cx q block bs).modRestore c (fun x => { x with verified := x.verified ++ [block] })
          | none => s.modRestore c (fun x => { x with
              tries := FMap.set x.tries block (t + 1)
              failed := if (x.placeOf (t + 1)).isNone then some block else x.failed })

/-- RESTORE_BLOCK_FETCH, R533. -/
def execRestoreBlockFetch (ctx block : Nat) (readFailed : Bool) (s : State) : Host.Outcome State Fault Refusal := .next (s.fetchBlock ctx block readFailed)

-- ---------------------------------------------------------------- the tables (R534, R535)

/-- R534: the bursts listed as poisoned enter the poison tables; for a SCRATCH chunk, of both images. -/
def State.poisonImage (s : State) (cx : Context) (l : List (Nat × Nat × Nat)) : State :=
  l.foldl (fun (a : State) e =>
    match FMap.get? cx.patterns e.1 with
    | none => a
    | some p => (if p.scratch then [0, 1] else [0]).foldl (fun (b : State) i =>
        match p.stackByte i e.2.1 (64 * e.2.2) with | .stack ch x => b.poisonBurst ch (x / 64) | _ => b) a) s

/-- R534: gives an image's knots, spools and requests their indices and generations. -/
def State.putObjects (s : State) (c : Nat) (q : Restore) : State :=
  let s1 := q.knots.foldl (fun (a : State) p =>
    { a with knots := FMap.set a.knots p.1 p.2, knotGens := FMap.set a.knotGens p.1 p.2.gen }) s
  let s2 := q.rest.spools.foldl (fun (a : State) p =>
    { a with
      spools := FMap.set a.spools p.1 { p.2 with owner := some c }
      spoolGens := FMap.set a.spoolGens p.1 p.2.gen
      lists := if p.2.kind = 4 then FMap.set a.lists p.1 { held := false, headTaken := false, age := none, drops := 0, slot := false, refused := none }
        else a.lists }) s1
  let s3 := q.rest.requests.foldl (fun (a : State) p =>
    let a1 := a.modCtx c (fun x => { x with owed := x.owed + p.2.owes })
    { a1 with requests := FMap.set a1.requests p.1 { p.2 with ctx := c }, reqGens := FMap.set a1.reqGens p.1 p.2.gen }) s2
  s3.keepIndices (imageIndices q.rest q.knots) 0

/-- R534, R535: with every block verified the image's tables become the context's. -/
def State.applyRestore (s : State) (c : Nat) : State :=
  match (s.ctx? c).bind (fun cx => cx.risk.restore.map (fun q => (cx, q))) with
  | none => s
  | some (cx, q) =>
    if q.ready || q.failed.isSome || q.verified.length < q.total then s
    else
      let s1 := (s.poisonImage cx q.poison).putObjects c q
      -- a REDUCE step of the context that had not ended owes no completion any more
      let open_ := ([cx.train.buf0, cx.train.buf1].filter (fun b => match b with | some st => st.unsettled | none => false)).length
      s1.modCtx c (fun x => { x with
        owed := x.owed - open_
        segs := q.segs
        progs := q.rest.progs
        progVersion := x.progVersion + 1
        ceiling := q.rest.ceiling
        genCfg := q.rest.genCfg
        images := q.rest.images
        selectors := []
        train := { x.train with
          mode := q.rest.mode
          accEvery := q.rest.accEvery
          last := q.rest.last
          bufCount := q.rest.bufCount
          localSteps := q.rest.localSteps
          lastDone := q.rest.lastDone
          buf0 := none
          buf1 := none }
        risk := { x.risk with
          high := q.rest.high
          low := q.rest.low
          hint := q.rest.hint
          replay := q.replay
          restore := some { q with ready := true } } })

/-- RESTORE_DONE, R534. -/
def execRestoreDone (ctx : Nat) (s : State) : Host.Outcome State Fault Refusal := .next (s.applyRestore ctx)

/-- R533, R534: step 3 of a commit completes a restore that is current or that failed. -/
def State.settleRestores (s : State) : State :=
  s.contexts.foldl (fun (a : State) p =>
    match p.2.risk.restore with
    | none => a
    | some q =>
      let ovr := fun (b : State) => b.modCtx p.1 (fun x => { x with risk := { x.risk with restore := none } })
      if q.ready then (ovr a).finishCmd q.cmd stOk []
      else match q.failed with
        | some b => ((ovr a).keepIndices (imageIndices q.rest q.knots) (a.tick.number + 2)).finishCmd q.cmd stBadDigest [b, 0]
        | none => a) s

end Sys2Proof.Machine
end

