-- ==== Sys2Proof/Machine/Turns.lean ====
section
/-! DEFINITION. Turns between generation and training (chapter 16): RESHARD, the staging, the Basting engine's moves and messages, the baste,
the finish, and the ends of turns that fail. -/

namespace Sys2Proof.Machine

/-- A turn of a garment. -/
def State.turn? (s : State) (g id : Nat) : Option Turn := s.turns.find? (fun t => t.garment = g && t.id = id)

/-- Applies `f` to a turn. -/
def State.modTurn (s : State) (g id : Nat) (f : Turn → Turn) : State :=
  { s with turns := s.turns.map (fun t => if t.garment = g && t.id = id then f t else t) }

/-- R407: a turn fails here: it ends in step 3 of the next commit. The first failure counts. -/
def State.failTurn (s : State) (t : Turn) (status tag : Nat) : State :=
  let me := s.self
  s.modTurn t.garment t.id (fun x => { x with ending := x.ending.orElse (fun _ => some (status, me, tag)) })

-- ---------------------------------------------------------------- READY_KNOT (R401)

/-- The value of a turn's READY_KNOT. -/
def State.readyValue (s : State) (t : Turn) : Nat :=
  match FMap.get? s.knots (t.readyKnot % 2 ^ 14) with
  | some k => (match k.state with | .counter v => v.toNat | _ => 0)
  | none => 0

/-- R401: whether every byte of a layer has come. -/
def Turn.layerDone (t : Turn) (l : Nat) : Bool :=
  l < t.layers && FMap.getD t.layerBytes l 0 = t.layerTable.getD l 0

/-- R239, R401: Olukor adds 1 to READY_KNOT, as a knot operation. -/
def State.bumpKnot (s : State) (i : Nat) : State :=
  match FMap.get? s.knots i with
  | none => s
  | some k =>
    match k.state.apply kopAdd 1 with
    | none => s
    | some (st, _, _, _) =>
      ({ s with knots := FMap.set s.knots i { k with state := st, changes := satAdd (2 ^ 32 - 1) k.changes 1 } }).wakeWaits i st

/-- R401: counts the leading layers that are complete into READY_KNOT. -/
def State.advanceGo (s : State) (t : Turn) : Nat → State
  | 0 => s
  | fuel + 1 => if t.layerDone (s.readyValue t) then (s.bumpKnot (t.readyKnot % 2 ^ 14)).advanceGo t fuel else s

/-- R396, R401: counts what is complete; once READY_KNOT reads LAYERS the other members are told. -/
def State.advanceKnot (s : State) (g id : Nat) : State :=
  match s.turn? g id with
  | none => s
  | some t =>
    if t.toTrain || t.phase = .staged then s
    else
      let s1 := s.advanceGo t (t.layers + 1)
      if s1.readyValue t = t.layers && !t.layersFrom.contains s1.self then
        (s1.modTurn g id (fun x => { x with layersFrom := x.layersFrom ++ [s1.self] })).notifyAll g .layers [g, id, s1.self]
      else s1

-- ---------------------------------------------------------------- RESHARD (R394, R395, R487)

/-- The members of a garment that are live. -/
def State.liveMembers (s : State) (g : Nat) : List Nat :=
  match FMap.get? s.garments g with
  | none => []
  | some ga => ga.members.filter (fun m => !s.board.lost.contains (m % 16, m / 16))

/-- R395: a turn's descriptors: none where CTX_SEGMENT_SET would refuse one (R147, R293). -/
def State.readSegSet (s : State) (cx : Context) (bs : List Byte) : Option (List Seg) :=
  let ds := (List.range 64).map (fun i => Sys2Proof.Machine.readSeg (wordsOf (slice bs (32 * i) 32) 8))
  if ds.all (fun d => match d with | some d => s.segOk cx d | none => false) then some (ds.filterMap id) else none

/-- R397: the LAYERs of a plan's moves; none where a record cannot be read. -/
def State.readPlan (s : State) (c a : Nat) : Nat → Option (List Nat)
  | 0 => some []
  | n + 1 =>
    match s.readPlan c a n, s.readCtx c (a + 160 * n) 4 s.freeCtr with
    | some l, some bs => some (l ++ [leNat bs % 2 ^ 12])
    | _, _ => none

/-- A list of numbers in ascending order. -/
def ascending : List Nat → Bool
  | [] => true
  | [_] => true
  | a :: b :: t => a ≤ b && ascending (b :: t)

/-- R395: what a RESHARD must read before it is staged: its plan's layers, its layer table and its segment set; none where one is not as it
must be. -/
def State.readTurn (s : State) (r : CmdReq) (c : Nat) (gx : Context) (toTrain : Bool) : Option (List Nat × List Nat × List Seg) :=
  let layers := r.bf 0x0C 0 13
  let first := r.bf 0x0C 16 12
  let plan := r.bd 0x18
  match s.readCtx c (r.bd 0x28) 2048 s.freeCtr with
  | none => none
  | some sb =>
    match s.readSegSet gx sb with
    | none => none
    | some segs =>
      if toTrain then some ([], [], segs)
      else
        match s.readPlan c plan (r.bf 0x14 0 24), s.readCtx c (r.bd 0x20) (8 * layers) s.freeCtr with
        | some moves, some tb =>
          if plan % 32 = 0 && ascending moves && moves.all (fun l => decide (first ≤ l) && decide (l < layers)) then
            some (moves, (List.range layers).map (fun i => leNat (slice tb (8 * i) 8)), segs)
          else none
        | _, _ => none

/-- R487: the Pattern numbers of RELEASE. -/
def releaseOf (r : CmdReq) (n : Nat) : List Nat := (List.range n).map (fun i => r.bf (0x30 + 4 * (i / 2)) (16 * (i % 2)) 10)

/-- R395: whether READY_KNOT is a COUNTER of GEN_CTX: OK, or the status that refuses it. -/
def State.readyKnotOk (s : State) (gc h : Nat) : Nat :=
  match FMap.get? s.knots (h % 2 ^ 14) with
  | none => stStale
  | some k =>
    if k.gen != h / 2 ^ 14 then stStale
    else match k.state with
      | .counter _ => if k.owner = gc then stOk else stBadParam
      | _ => stBadParam

/-- The reserved bits of a RESHARD block (R487). -/
def reshardAllow : List (Nat × Nat) :=
  [(0x00, fld 0 22), (0x04, fld 0 18), (0x08, fld 0 22), (0x0C, fld 0 13 + fld 16 12), (0x10, fld 0 13 + fld 16 9), (0x14, fld 0 24)] ++
  (List.range 6).map (fun i => (0x18 + 4 * i, fld 0 32)) ++ (List.range 4).map (fun i => (0x30 + 4 * i, fld 0 10 + fld 16 10))

/-- R394, R395, R487, R524: RESHARD: it is checked and staged. -/
def actReshard (r : CmdReq) (s : State) : CmdResult :=
  s.ctxCmd r .block [] (fun c cx =>
    let w0 := r.bw 0
    let id := bits w0 0 16
    let toTrain := bit w0 16
    let nrel := bits w0 18 4
    let layers := r.bf 0x0C 0 13
    let first := r.bf 0x0C 16 12
    let baste := r.bf 0x10 0 13
    let ticks := r.bf 0x10 16 9
    let rel := releaseOf r nrel
    if !blockOk r 0 20 reshardAllow || id = 0 || 8 < nrel || layers < 1 || 4096 < layers || layers ≤ first || layers < baste ||
        ticks < 1 || 256 < ticks || (toTrain && r.bw 0x14 != 0) then s.fail stBadParam
    else match s.handleCtx (r.bw 4), cx.garment with
      | none, _ => s.fail stStale
      | _, none => s.fail stBadParam
      | some gc, some g =>
        match s.ctx? gc, FMap.get? s.garments g with
        | some gx, some ga =>
          let kn := if toTrain then stOk else s.readyKnotOk gc (r.bw 8)
          if gx.garment != some g || !ga.live then s.fail stBadParam
          else if kn != stOk then s.fail kn
          else match s.readTurn r c gx toTrain with
            | none => s.fail stBadParam
            | some (moves, table, segs) =>
              if rel.any (fun p => !FMap.has gx.patterns p && !FMap.has gx.patternStages p) then s.fail stBadParam
              else if s.inTurn c || s.inTurn gc || cx.risk.held || gx.risk.held ||
                  [cx.train.buf0, cx.train.buf1].any (fun b => match b with | some st => st.unsettled | none => false) ||
                  segs.any (fun d => d.valid && d.kind ≤ 2 && rel.contains d.region) then s.fail stBusy
              else
                let heard := (s.board.stagedHeard.filter (fun x => x.1 = g && x.2.1 = id)).map (fun x => x.2.2.1)
                let t : Turn :=
                  { id := id, cmd := r.num, toTrain := toTrain, srcCtx := c, genCtx := gc, garment := g, plan := r.bd 0x18, moves := moves,
                    layers := layers, firstLayer := first, layerTable := table, readyKnot := if toTrain then 2 ^ 24 else r.bw 8,
                    basteLayers := baste, segSet := segs, release := rel, foreground := bit w0 17, stageTicks := ticks,
                    stagedAt := s.tick.number, stagedFrom := dedup (s.self :: heard), phase := .staged, start := 0, baste := 0, acked := [], begun := [], again := [],
                    seq := 0, layerBytes := [], counted := [], layersFrom := [], sourceStep := cx.train.lastDone.getD 0, sent := 0, received := 0,
                    found := 0, lostAt := none, ending := none }
                let s1 := { s with
                  turns := s.turns ++ [t]
                  board := { s.board with stagedHeard := s.board.stagedHeard.filter (fun x => !(x.1 = g && x.2.1 = id)) } }
                (s1.notifyAll g .staged [g, id, s.self]).startedCmd
        | _, _ => s.fail stBadParam)

/-- Command 0x70. -/
def rowReshard : CmdRow := { op := 0x70, mgmt := false, stages := false, act := actReshard }

/-- RESHARD, R394. -/
def execReshard (r : CmdReq) (s : State) : Host.Outcome State Fault Refusal := .next (s.perform rowReshard r)

/-- STAGED_RECEIVE, R395: STAGED for a turn not staged here yet is kept until it is. -/
def execStagedReceive (gar turn member : Nat) (s : State) : Host.Outcome State Fault Refusal :=
  if 65536 ≤ gar then .fault .noSuchUnit
  else match s.turn? gar turn with
    | some _ => .next (s.modTurn gar turn (fun x => if x.stagedFrom.contains member then x else { x with stagedFrom := x.stagedFrom ++ [member] }))
    | none => .next { s with board := { s.board with stagedHeard := s.board.stagedHeard ++ [(gar, turn, member, s.tick.number)] } }

-- ---------------------------------------------------------------- the ends of a turn (R404, R408, R451)

/-- A commit's distance back from this one, in 16 bits. -/
def State.back (s : State) (n : Nat) : Nat := if n = 0 then 0 else (s.tick.number - n) % 65536

/-- R451: completes RESHARD. -/
def State.completeTurn (s : State) (t : Turn) (status origin last : Nat) : State :=
  let op := 0x70 + (if t.toTrain then 2 ^ 8 else 0) + (if t.baste != 0 then 2 ^ 9 else 0)
  let kib := fun n => Nat.min (2 ^ 32 - 1) (n / 1024)
  ({ s with running := s.running.map (fun (r : CmdReq) => if r.num = t.cmd then { r with opcode := op } else r) }).finishCmd t.cmd status
    [t.id + s.back t.start * 2 ^ 16, s.back t.baste + (origin % 16 + origin / 16 * 2 ^ 4) % 256 * 2 ^ 16, t.sourceStep % 2 ^ 32,
     kib t.sent, last]

/-- Forgets a turn. -/
def State.dropTurn (s : State) (t : Turn) : State :=
  { s with turns := s.turns.filter (fun x => !(x.garment = t.garment && x.id = t.id)) }

/-- R402: quiesces a context. -/
def State.quiesce (s : State) (c : Nat) : State :=
  s.modCtx c (fun x => match x.state with
    | .open_ => { x with state := .quiesced }
    | .paused => { x with state := .quiesced, pausedToo := true }
    | .quiesced => x)

/-- R402: a context that a turn quiesced is released: to admission, or paused where the host paused it. -/
def State.unquiesce (s : State) (c : Nat) : State :=
  s.modCtx c (fun x => if x.state = .quiesced then { x with state := if x.pausedToo then .paused else .open_, pausedToo := false } else x)

/-- R407, R408: a turn ends without OK: ABORT goes to the others, and GEN_CTX is quiesced where the turn had started. -/
def State.endTurn (s : State) (t : Turn) (status origin tag : Nat) (tell : Bool) : State :=
  let s1 := if t.phase = .staged then s else s.quiesce t.genCtx
  let s2 := (s1.completeTurn t status origin tag).dropTurn t
  if tell then s2.notifyAll t.garment .turnAbort [t.garment, t.id, s2.self] else s2

/-- R409, R472: every turn that names a context ends with FENCED. -/
def State.endTurnsOf (s : State) (c : Nat) : State :=
  (s.turns.filter (fun t => t.srcCtx = c || t.genCtx = c)).foldl (fun (a : State) t => a.endTurn t stFenced a.self 0 true) s

-- ---------------------------------------------------------------- the start (R395, R396, R402)

/-- R395: whether STAGED has come from every live member. -/
def State.allStaged (s : State) (t : Turn) : Bool := (s.liveMembers t.garment).all t.stagedFrom.contains

/-- R396, R402: step 3 of commit S. -/
def State.startTurn (s : State) (t : Turn) : State :=
  if t.phase != .staged || !s.allStaged t || s.tick.number ≤ t.stagedAt then s
  else
    let s1 := (s.quiesce t.genCtx).modTurn t.garment t.id (fun x => { x with phase := .copying, start := s.tick.number })
    if t.toTrain then s1
    else
      let i := t.readyKnot % 2 ^ 14
      let s2 := match FMap.get? s1.knots i with
        | some k =>
          let st : KnotState := .counter (BitVec.ofNat 48 t.firstLayer)
          let k1 : Knot := { k with state := st, arrivals := [], changes := if st = k.state then k.changes else satAdd (2 ^ 32 - 1) k.changes 1 }
          { s1 with knots := FMap.set s1.knots i k1 }
        | none => s1
      s2.advanceKnot t.garment t.id

/-- RESHARD_START, R396. -/
def execReshardStart (gar turn : Nat) (s : State) : Host.Outcome State Fault Refusal :=
  if 65536 ≤ gar then .fault .noSuchUnit
  else match s.turn? gar turn with | some t => .next (s.startTurn t) | none => .next s

/-- R395: a turn that has not started by its last commit completes with BUSY and names a member it did not hear from. -/
def State.stageTimeout (s : State) (t : Turn) : State :=
  if t.phase != .staged || s.allStaged t || s.tick.number < t.stagedAt + t.stageTicks then s
  else
    let miss := ((s.liveMembers t.garment).find? (fun m => !t.stagedFrom.contains m)).getD s.self
    (s.completeTurn t stBusy miss 0).dropTurn t

/-- RESHARD_STAGE_TIMEOUT, R395. -/
def execReshardStageTimeout (s : State) : Host.Outcome State Fault Refusal :=
  .next (s.turns.foldl (fun (a : State) t => a.stageTimeout t) s)

-- ---------------------------------------------------------------- writing into GEN_CTX (R401)

/-- R148, R401: whether an access of GEN_CTX passes by the turn's segment set. -/
def State.segSetOk (s : State) (t : Turn) (seg off len : Nat) : Bool :=
  match t.segSet[seg]?, s.ctx? t.genCtx with
  | some d, some gx =>
    d.valid && d.w && d.kind != 5 && off + len ≤ 65536 * d.length &&
    (len = 0 || (match s.regionOf gx d with
      | some (n, _) => decide (d.base + (off + len - 1) / 65536 < n)
      | none => false))
  | _, _ => false

/-- R401, R548: writes bytes at an offset of a segment of the turn's set; the bursts of poisoned bytes are poison. -/
def State.putBasting (s : State) (t : Turn) (seg off : Nat) (bs : Marked) : State :=
  match t.segSet[seg]? with
  | none => s
  | some d =>
    let pl := bs.zipIdx.map (fun (b : (Byte × Bool) × Nat) => (s.place t.genCtx d seg (off + b.2) s.adm.nextId false, b.1))
    let st := pl.filterMap (fun p => match p.1 with | .stack ch x => some (ch * 2 ^ 32 + x, p.2) | _ => none)
    let s1 := (s.writeStack (st.map (fun p => (p.1, p.2.1))) 0 (some t.genCtx)).1
    let s2 := pl.foldl (fun (a : State) p => match p.1 with
      | .host x e => if s.hemDown t.genCtx d x then a else a.putHostByte x e p.2.1
      | _ => a) s1
    (burstsOf ((st.filter (fun p => p.2.2)).map (fun p => (p.1, p.2.1)))).foldl (fun (a : State) k => a.poisonBurst (k / 2 ^ 26) (k % 2 ^ 26)) s2

/-- R401: counts bytes that came for a layer; a pair of sender and sequence number counts once. A count past INBOUND ends the turn. -/
def State.countBasting (s : State) (t : Turn) (layer n : Nat) (pair : Option (Nat × Nat)) : State :=
  match s.turn? t.garment t.id with
  | none => s
  | some x =>
    if (match pair with | some p => x.counted.contains p | none => false) then s
    else
      let total := FMap.getD x.layerBytes layer 0 + n
      let s1 := s.modTurn t.garment t.id (fun y => { y with
        layerBytes := FMap.set y.layerBytes layer total
        counted := y.counted ++ pair.toList
        received := y.received + n })
      if x.layerTable.getD layer 0 < total then s1.failTurn t stBadParam 0 else s1.advanceKnot t.garment t.id

/-- R401: a message of another member is checked against the staged segment set, written and counted, and acknowledged; one that fails the
check is discarded, which the acknowledgement says. A member that has not started yet counts what an earlier one sends (assumption 84). -/
def State.bastingMessage (s : State) (m : BastMsg) : State :=
  match s.turn? m.garment m.turn with
  | none => (s.noteStale true msgWrite s.tick.number).notify m.sender .ack [m.turn, m.seq, stStale]
  | some t =>
    if t.toTrain || !s.segSetOk t m.seg m.off m.bytes.length then
      s.notify m.sender .ack [m.turn, m.seq, stFenced]
    else
      let s1 := (s.putBasting t m.seg m.off (m.bytes.map (fun b => (b, m.poison)))).countBasting t m.layer m.bytes.length (some (m.sender, m.seq))
      s1.notify m.sender .ack [m.turn, m.seq, stOk]

/-- BASTING_MESSAGE, R401. -/
def execBastingMessage (m : BastMsg) (s : State) : Host.Outcome State Fault Refusal :=
  .next (s.receive msgWrite m.epoch (fun a => a.bastingMessage m))

-- ---------------------------------------------------------------- moves (R397, R399)

/-- Where a move's destination bytes go. -/
inductive BastDest where
  /-- A segment of GEN_CTX on this member, by the turn's set. -/
  | gen (seg off : Nat)
  /-- A segment of a peer's. -/
  | peer (member seg off : Nat)
  /-- A segment of SRC_CTX on this member. -/
  | src (a : Nat)
  | bad
  deriving DecidableEq, Repr

/-- R397, R399: where an address of a move's destination leads, once an access of `len` bytes there has been checked. -/
def State.bastDest (s : State) (t : Turn) (gen : Bool) (a len : Nat) : BastDest :=
  match splitAddr a, s.ctx? t.srcCtx with
  | .ctx seg off, some cx =>
    if gen then (if s.segSetOk t seg off len then .gen seg off else .bad)
    else if !s.ctxSegOk cx seg off len .write then .bad
    else match FMap.get? cx.segs seg with
      | some d =>
        if d.kind != 5 then .src a
        else if memberOf d.board d.pos = s.self then .gen d.pseg off
        else .peer (memberOf d.board d.pos) d.pseg off
      | none => .bad
  | _, _ => .bad

/-- R399: sends destination bytes to a peer in messages of at most 4 KiB: even sequence numbers by one of the peer's two links, odd ones by
the other. -/
def State.sendBasting (s : State) (t : Turn) (layer member seg off : Nat) (bs : List Byte) : Nat → State
  | 0 => s
  | fuel + 1 =>
    if bs.isEmpty then s
    else
      match s.turn? t.garment t.id with
      | none => s
      | some x =>
        let part := bs.take 4096
        let ws := [Notice.basting.code, t.garment, t.id, layer, s.self, x.seq, seg, off] ++ part.map BitVec.toNat
        let s1 := s.sendVia (s.routeLink member x.seq) member msgWrite s.sendEpoch 0 (s.headFor (.basting t.foreground) false 0) ws
        let s2 := s1.modTurn t.garment t.id (fun y => { y with seq := y.seq + 1, sent := y.sent + part.length })
        s2.sendBasting t layer member seg (off + part.length) (bs.drop 4096) fuel

/-- R399, R401: destination bytes of a move, by where they go; none where the member's own segment set refuses them. -/
def State.deliverBasting (s : State) (t : Turn) (layer : Nat) (gen : Bool) (a : Nat) (bs : Marked) : Option State :=
  if bs.isEmpty then some s
  else match s.bastDest t gen a bs.length with
    | .bad => none
    | .src a => some (s.writeCtx t.srcCtx a (bs.map Prod.fst))
    | .gen seg off =>
      if s.segSetOk t seg off bs.length then some ((s.putBasting t seg off bs).countBasting t layer bs.length none) else none
    | .peer m seg off => some (s.sendBasting t layer m seg off (bs.map Prod.fst) (bs.length / 4096 + 1))

/-- Bytes of SRC_CTX with their marks, and the place of the first poisoned one. -/
def State.readSource (s : State) (cx : Context) (c a len fresh : Nat) : Marked × Option (Nat × Nat × Nat × List Nat) :=
  match splitAddr a with
  | .ctx seg off =>
    (match FMap.get? cx.segs seg with
     | some d =>
       let os := (List.range len).map (fun i => s.readSeg c d seg s.adm.nextId (fresh + i) (off + i) 1)
       (os.map (fun o => (o.bytes.headD 0, !o.usable)), os.findSome? (fun o => o.poison))
     | none => ([], none))
  | _ => ([], none)

/-- R405, R548: one row of a move: read, converted and delivered; a poisoned source byte is SRC_CTX's lost memory (R407). -/
def State.bastRow (s : State) (t : Turn) (cx : Context) (layer : Nat) (gen : Bool) (d : DmaDesc) (r : Nat) : Option State :=
  let (src, p1) := s.readSource cx t.srcCtx (rowAddr d.src d.srcPitch r) d.srcBytes s.freeCtr
  let (ss, p2) := s.readSource cx t.srcCtx (rowAddr d.sscale d.sscalePitch r) d.ssBytes (s.freeCtr + d.srcBytes)
  let ds := if d.writesPlane then [] else
    (s.readSource cx t.srcCtx (rowAddr d.dscale d.dscalePitch r) d.dsBytes (s.freeCtr + d.srcBytes + d.ssBytes)).1
  let row := d.convert r src ss ds
  let s0 := { s with freeCtr := s.freeCtr + d.srcBytes + d.ssBytes + d.dsBytes }
  let s1 := match joinPoison p1 p2 with
    | some (seg, j, ch, bs) => s0.modCtx t.srcCtx (fun x => x.noteUe seg 0 j ch bs)
    | none => s0
  match s1.deliverBasting t layer gen (rowAddr d.dst d.dstPitch r) row.elems with
  | none => none
  | some s2 =>
    if d.writesPlane then s2.deliverBasting t layer gen (rowAddr d.dscale d.dscalePitch r) row.scales else some s2

/-- The rows of a move in order. -/
def State.bastRows (s : State) (t : Turn) (cx : Context) (layer : Nat) (gen : Bool) (d : DmaDesc) : List Nat → Option State
  | [] => some s
  | r :: rest =>
    match s.bastRow t cx layer gen d r with
    | some s1 => s1.bastRows t cx layer gen d rest
    | none => none

/-- R224, R397: whether a move's ranges pass their checks. -/
def State.moveRanges (s : State) (t : Turn) (cx : Context) (gen : Bool) (d : DmaDesc) : Bool :=
  let rd := fun (a n : Nat) => n = 0 || (match splitAddr a with | .ctx seg off => s.ctxSegOk cx seg off n .read | _ => false)
  let wr := fun (a n : Nat) => n = 0 || s.bastDest t gen a n != .bad
  rd d.src (extent d.rows d.srcPitch d.srcBytes) && rd d.sscale (extent d.rows d.sscalePitch d.ssBytes) &&
  wr d.dst (extent d.rows d.dstPitch d.dstBytes) &&
  (if d.writesPlane then wr d.dscale (extent d.rows d.dscalePitch d.dsBytes) else rd d.dscale (extent d.rows d.dscalePitch d.dsBytes))

/-- R399: whether a move may be in flight: at most four consecutive layers are. -/
def Turn.mayMove (t : Turn) (i : Nat) : Bool :=
  let left := (List.range t.moves.length).filter (fun k => !t.acked.contains k)
  match t.moves[i]?, left with
  | some l, k :: _ => left.contains i && decide (l < t.moves.getD k 0 + 4)
  | _, _ => false

/-- R397: the record of a move. -/
def State.moveRecord (s : State) (t : Turn) (i : Nat) : Option (List Byte) := s.readCtx t.srcCtx (t.plan + 160 * i) 160 s.freeCtr

/-- R399: whether a move sends to a peer, and so uses a link queue; a record that cannot be read counts here. -/
def State.moveToPeer (s : State) (t : Turn) (i : Nat) : Bool :=
  match s.moveRecord t i with
  | none => true
  | some rec_ =>
    let d := DmaDesc.ofBytes (slice rec_ 0x20 128)
    let far := fun a => match s.bastDest t (bit (word32 rec_ 0) 12) a 1 with | .peer _ _ _ => true | _ => false
    far d.dst || (d.writesPlane && far d.dscale)

/-- R397, R401, R407: a move of the plan is checked and run: its rows are read, converted, and sent or applied. -/
def State.runMove (s : State) (t : Turn) (i : Nat) : State :=
  match s.ctx? t.srcCtx, s.moveRecord t i with
  | some cx, some rec_ =>
    let w := fun off => word32 rec_ off
    let gen := bit (w 0) 12
    let layer := w 0 % 2 ^ 12
    let tag := w 4
    let d := DmaDesc.ofBytes (slice rec_ 0x20 128)
    if 2 ^ 13 ≤ w 0 || (slice rec_ 8 24).any (· != 0#8) || t.moves[i]? != some layer || d.bad || !s.moveRanges t cx gen d then
      s.failTurn t stBadParam tag
    else match s.bastRows t cx layer gen d (List.range d.rows) with
      | none => s.failTurn t stFenced tag
      | some s1 => s1
  | _, _ => s.failTurn t stBadParam 0

/-- R396: whether a turn's copy runs. -/
def State.copying (s : State) (t : Turn) : Bool := t.phase != .staged && !t.toTrain && t.ending.isNone && decide (t.start < s.tick.number)

/-- R399: the moves to peers that may be in flight begin, in the order of the plan. -/
def State.startMovesOf (s : State) (g id : Nat) : State :=
  match s.turn? g id with
  | none => s
  | some t0 =>
    (List.range t0.moves.length).foldl (fun (a : State) i => match a.turn? g id with
      | none => a
      | some t =>
        if a.copying t && t.mayMove i && !t.begun.contains i && a.moveToPeer t i then
          (a.modTurn g id (fun x => { x with begun := x.begun ++ [i] })).runMove t i
        else a) s

/-- R399: at a tick's begin the messages that died are sent again, with their sequence numbers, and moves begin. -/
def State.startMoves (s : State) : State :=
  s.turns.foldl (fun (a : State) t =>
    let a1 := (if a.copying t then t.again else []).foldl (fun (b : State) w =>
      b.sendVia (b.routeLink w.1 (w.2.getD 5 0)) w.1 msgWrite b.sendEpoch 0 (b.headFor (.basting t.foreground) false 0) w.2) a
    (a1.modTurn t.garment t.id (fun x => { x with again := [] })).startMovesOf t.garment t.id) s

/-- R399: whether a move may be acknowledged: one to a peer has begun, and a local one lies in one of the four local queues, which take the
first four still to be applied. -/
def State.mayAck (s : State) (t : Turn) (i : Nat) : Bool :=
  t.mayMove i && (t.begun.contains i ||
    (!s.moveToPeer t i && decide (((List.range i).filter (fun k => !t.acked.contains k && !s.moveToPeer t k)).length < 4)))

/-- R399, R401, R407: the end of a move; a local one is applied here. -/
def State.endMove (s : State) (t : Turn) (i status : Nat) : State :=
  let s1 := if t.begun.contains i then s else s.runMove t i
  let tag := match s.moveRecord t i with | some rec_ => word32 rec_ 4 | none => 0
  if status = stPeerLost then s1
  else if status != stOk then s1.failTurn t stFenced tag
  else (s1.modTurn t.garment t.id (fun x => if x.ending.isSome then x else { x with acked := x.acked ++ [i] })).startMovesOf t.garment t.id

/-- BASTING_MOVE_ACK, R399: the last message of a move is acknowledged, or a local move has been applied. -/
def execBastingMoveAck (gar turn move status : Nat) (s : State) : Host.Outcome State Fault Refusal :=
  if 65536 ≤ gar then .fault .noSuchUnit
  else match s.turn? gar turn with
    | some t => if !s.copying t || !s.mayAck t move then .next s else .next (s.endMove t move status)
    | none => .next s

/-- LAYERS_READY_NOTICE, R396: another member's READY_KNOT reads LAYERS. -/
def execLayersReadyNotice (gar turn member : Nat) (s : State) : Host.Outcome State Fault Refusal :=
  if 65536 ≤ gar then .fault .noSuchUnit
  else .next (s.modTurn gar turn (fun x => if x.layersFrom.contains member then x else { x with layersFrom := x.layersFrom ++ [member] }))

/-- TURN_ABORT_RECEIVE, R407: ABORT is held until the commit. -/
def execTurnAbortReceive (gar turn member : Nat) (s : State) : Host.Outcome State Fault Refusal :=
  if 65536 ≤ gar then .fault .noSuchUnit
  else .next (s.modTurn gar turn (fun x => { x with ending := x.ending.orElse (fun _ => some (stFenced, member, 0)) }))

-- ---------------------------------------------------------------- the baste and the finish (R396, R403, R404)

/-- R396: whether a turn's finish condition holds. A turn that failed here does not finish; an ABORT from another does not stop it. -/
def State.canFinish (s : State) (t : Turn) : Bool :=
  t.phase != .staged && (match t.ending with | some (_, o, _) => decide (o ≠ s.self) | none => true) && t.lostAt.isNone &&
  (if t.toTrain then decide (t.start + 1 ≤ s.tick.number)
   else t.moves.length ≤ t.acked.length && s.readyValue t = t.layers && (s.liveMembers t.garment).all t.layersFrom.contains)

/-- R403: whether a turn's baste condition holds. -/
def State.canBaste (s : State) (t : Turn) : Bool :=
  t.phase = .copying && !t.toTrain && t.ending.isNone && 1 ≤ t.basteLayers && t.basteLayers ≤ s.readyValue t && t.start < s.tick.number &&
  !s.canFinish t

/-- R396, R403: step 1 of a commit finds which turns baste and which finish. -/
def State.turnsStep1 (s : State) : State :=
  { s with turns := s.turns.map (fun t => { t with found := if s.canFinish t then 2 else if s.canBaste t then 1 else 0 }) }

/-- SEG_SET becomes GEN_CTX's segment table. -/
def State.switchSegs (s : State) (t : Turn) : State :=
  let segs := t.segSet.zipIdx.foldl (fun (m : FMap Seg) (p : Seg × Nat) => if p.1.valid then FMap.set m p.2 p.1 else m) []
  s.modCtx t.genCtx (fun x => { x with segs := segs })

/-- R403: the switch of one turn in step 2: of a baste, or of a finish without one. -/
def State.turnSwitch (s : State) (t : Turn) : State :=
  if t.found = 1 then
    ((s.switchSegs t).unquiesce t.genCtx).modTurn t.garment t.id (fun x => { x with phase := .basted, baste := s.tick.number })
  else if t.found = 2 && t.phase = .copying then s.switchSegs t
  else s

/-- Step 2 of a commit for the turns. -/
def State.turnsStep2 (s : State) : State := s.turns.foldl (fun (a : State) t => a.turnSwitch t) s

/-- R404: frees a RELEASE Pattern unless a current or staged segment names it; whether it was kept. -/
def State.releasePattern (s : State) (c num : Nat) : State × Bool :=
  match s.ctx? c with
  | none => (s, false)
  | some cx =>
    if (s.segsOf c cx).any (fun p => p.2.valid && p.2.kind ≤ 2 && p.2.region = num) then (s, true)
    else (s.dropPattern c num, false)

/-- R396, R404: step 3 of commit F. A Pattern that could not be freed is reported by the status BUSY. -/
def State.finishTurn (s : State) (t : Turn) : State :=
  let (s1, kept) := t.release.foldl (fun (a : State × Bool) p =>
    let (b, k) := a.1.releasePattern t.genCtx p
    (b, a.2 || k)) (s, false)
  let s2 := (s1.completeTurn t (if kept then stBusy else stOk) 0xFF
    (if kept then 0 else Nat.min (2 ^ 32 - 1) (t.received / 1024))).dropTurn t
  if t.toTrain then s2 else s2.unquiesce t.genCtx

/-- R396, R407, R408: step 3 of a commit for one turn. -/
def State.turnStep3 (s : State) (t : Turn) : State :=
  if t.found = 2 then s.finishTurn t
  else match t.ending with
    | some (st, origin, tag) => s.endTurn t st origin tag (origin = s.self)
    | none =>
      if (match t.lostAt with | some n => decide (n < s.tick.number) | none => false) then s.endTurn t stPeerLost s.self 0 true
      else if t.phase = .staged then
        let s1 := (s.startTurn t).stageTimeout t
        s1.modTurn t.garment t.id (fun x => if x.phase = .staged then
          { x with sourceStep := match s.ctx? x.srcCtx with | some cx => cx.train.lastDone.getD 0 | none => x.sourceStep } else x)
      else s

/-- R407: what this tick did to a turn: lost memory of SRC_CTX fails it, a member's loss ends it at the next commit. -/
def State.turnLosses (s : State) : State :=
  s.turns.foldl (fun (a : State) t =>
    let ue := t.phase != .staged && (match a.ctx? t.srcCtx with | some cx => cx.privateUe.isSome | none => false)
    let lost := a.board.losses.any (fun x =>
      match FMap.get? a.garments t.garment with
      | some ga => ga.members.contains (memberOf x.board x.lpos)
      | none => false)
    let a1 := if ue then a.failTurn t stFenced 0 else a
    if lost then a1.modTurn t.garment t.id (fun x => { x with lostAt := x.lostAt.orElse (fun _ => some a.tick.number) }) else a1) s

/-- Step 3 of a commit for the turns. -/
def State.turnsStep3 (s : State) : State :=
  let s0 := { s with board := { s.board with
    stagedHeard := s.board.stagedHeard.filter (fun x => decide (s.tick.number < x.2.2.2 + 256)) } }
  s0.turns.foldl (fun (a : State) t => a.turnStep3 t) s0

/-- TURN_BASTE, R403: the switch of a turn whose baste condition holds. -/
def execTurnBaste (gar turn : Nat) (s : State) : Host.Outcome State Fault Refusal :=
  if 65536 ≤ gar then .fault .noSuchUnit
  else match s.turn? gar turn with
    | some t => .next (if s.canBaste t then s.turnSwitch { t with found := 1 } else s)
    | none => .next s

/-- TURN_FINISH, R404: the finish of a turn whose finish condition holds. -/
def execTurnFinish (gar turn : Nat) (s : State) : Host.Outcome State Fault Refusal :=
  if 65536 ≤ gar then .fault .noSuchUnit
  else match s.turn? gar turn with
    | some t => .next (if s.canFinish t then (s.turnSwitch { t with found := 2 }).finishTurn t else s)
    | none => .next s

end Sys2Proof.Machine
end

