-- ==== Sys2Proof/Machine/Contexts.lean ====
section
/-! DEFINITION. Contexts (R255, R279, R464, R470 to R473, R550, R551): opening, pausing, resuming and closing, by command, by a recall or for
a fault. -/

namespace Sys2Proof.Machine

-- ---------------------------------------------------------------- opening (R470, R471)

/-- Takes the runs of a save area's copy. -/
def State.takeArea (s : State) (slots : List (Nat × Nat)) (n : Nat) : State :=
  slots.foldl (fun (a : State) sl => a.takeRun (perSlot n slots.length false) sl) s

/-- A list turned round by `k`. -/
def turned (k : Nat) (l : List Nat) : List Nat := l.drop k ++ l.take k

/-- R295: by how much copy B's channels are copy A's turned round, so that every chunk's two copies lie on different stacks. -/
def areaTurn (chans : List Nat) : Option Nat :=
  (List.range chans.length).find? (fun k => (List.zip chans (turned k chans)).all (fun p => p.1 / 32 != p.2 / 32))

/-- R295, R471: places both copies of a save area: copy B on the channels of copy A turned round so that every chunk's two copies lie on
different stacks; none where the channels or the room for that cannot be had. -/
def State.placeArea (s : State) (n : Nat) : Option (State × List (Nat × Nat) × List (Nat × Nat)) :=
  let chans := s.spreadChannels 1 0
  let per := perSlot n chans.length false
  match areaTurn chans, s.findSlots per chans with
  | some k, some a =>
    let s1 := s.takeArea a n
    (s1.findSlots per (turned k chans)).map (fun b => (s1.takeArea b n, a, b))
  | _, _ => none

/-- R470: whether the reserved bits of the block are zero and its values in range. -/
def ctxBlockOk (r : CmdReq) : Bool :=
  blockOk r 0 8 [(0x00, fld 0 14), (0x04, fld 0 9), (0x08, fld 0 10), (0x0C, 2 ^ 32 - 1), (0x10, fld 0 17), (0x14, fld 0 18)] &&
  1 ≤ r.bw 0x04 && r.bw 0x04 ≤ Config.needles && r.bw 0x08 ≤ 768 && r.bw 0x14 ≤ Config.requests && r.bw 0x10 + r.bw 0x14 ≤ Config.requests

/-- R470: whether a request range meets another context's. -/
def State.rangeTaken (s : State) (base n : Nat) : Bool :=
  s.contexts.any (fun p => decide (base < p.2.reqBase + p.2.reqCount) && decide (p.2.reqBase < base + n))

/-- A context as CTX_OPEN makes it. -/
def newContext (r : CmdReq) (gen cmd cpl evt tick : Nat) (a b : List (Nat × Nat)) : Context :=
  { gen := gen, state := .open_, pausedToo := false, ceiling := r.bf 0 10 3, peerPriv := bit (r.bw 0) 13, needles := r.bw 4, liveMax := r.bw 8,
    quota := r.bw 0x0C, reqBase := r.bw 0x10, reqCount := r.bw 0x14, cmdSpool := cmd, cplSpool := cpl, evtSpool := evt, segs := [], progs := [], progVersion := 0,
    patterns := [], patternStages := [], grants := [], selectors := [], energy := EnergyCtr.zero, images := [], genCfg := none,
    train := { Train.reset with openedAt := tick }, garment := none, risk := RiskCtx.reset, owed := 0, privateUe := none, saveUe := false,
    pleatShort := 0, areaA := a, areaMoved := [], areaB := b, closing := false }

/-- The descriptor words of a spool in the block. -/
def descWords (r : CmdReq) (off : Nat) : List Nat := (List.range 8).map (fun i => r.bw (off + 4 * i))

/-- R470: opens a spool of a new context: the lowest free index. -/
def State.openCtxSpool (s : State) (c kind : Nat) (ws : List Nat) : Option (State × Nat) :=
  match s.allocIndex 2 (fun i => FMap.has s.spools i) 3 Config.spools with
  | none => none
  | some i =>
    match readSpoolDesc ws (s.spoolGen i) (some c) false with
    | none => none
    | some sp => if sp.kind != kind then none else some (s.setSpool i sp, i)

/-- Whether a block's descriptor may be a context's spool of a kind. -/
def descOk (ws : List Nat) (kind : Nat) : Bool :=
  match readSpoolDesc ws 1 none false with
  | some sp => sp.kind = kind
  | none => false

/-- R470: CTX_OPEN. -/
def actCtxOpen (r : CmdReq) (s : State) : CmdResult :=
  s.devCmd r .block [] (
    let c := r.bf 0 0 10
    let dc := descWords r 0x20
    let dp := descWords r 0x40
    let de := descWords r 0x60
    if !ctxBlockOk r || !descOk dc 0 || !descOk dp 1 || !descOk de 2 || s.rangeTaken (r.bw 0x10) (r.bw 0x14) then s.fail stBadParam
    else if FMap.has s.contexts c || !s.indexFree 0 c || s.thimbleBusy then s.fail stBusy
    else
      match s.placeArea (areaChunks (r.bw 4) (r.bw 8)) with
      | none => s.fail stNoRoom
      | some (s1, a, b) =>
        match s1.openCtxSpool c 0 dc with
        | none => s.fail stNoRoom
        | some (s2, i) => match s2.openCtxSpool c 1 dp with
          | none => s.fail stNoRoom
          | some (s3, j) => match s3.openCtxSpool c 2 de with
            | none => s.fail stNoRoom
            | some (s4, k) =>
              let cx := newContext r (s4.ctxGen c) i j k s4.tick.number a b
              { s4 with
                contexts := FMap.set s4.contexts c cx
                thimble := { s4.thimble with
                  ctxKeys := FMap.set s4.thimble.ctxKeys c s4.thimble.nextKey
                  hemKeys := FMap.set s4.thimble.hemKeys c (s4.thimble.nextKey + 1)
                  nextKey := s4.thimble.nextKey + 2 } }.done
                [s4.ctxHandleOf c, spoolHandle (s4.spoolGen i) i, spoolHandle (s4.spoolGen j) j, spoolHandle (s4.spoolGen k) k])

/-- Command 0x10. -/
def rowCtxOpen : CmdRow := { op := 0x10, mgmt := true, stages := false, act := actCtxOpen }

/-- CTX_OPEN, R470. -/
def execCtxOpen (r : CmdReq) (s : State) : Host.Outcome State Fault Refusal := .next (s.perform rowCtxOpen r)

-- ---------------------------------------------------------------- closing (R464, R472, R551)

/-- A needle with nothing of a context left (R134); its fences and counters stay. -/
def Needle.emptied (nd : Needle) : Needle :=
  { Needle.reset with
    fenced := nd.fenced
    selfTest := nd.selfTest
    fenceFrom := nd.fenceFrom
    testCmd := nd.testCmd
    testEnd := nd.testEnd
    banks := nd.banks
    corrected := nd.corrected }

/-- Whether a staged entry is of a context. -/
def Staged.of (c : Nat) : Staged → Bool
  | .draft _ _ => false
  | e => e.ctx = c + 1

/-- R472: a context's knots, its spools other than its three, its Patterns, grants and programs are released, and it leaves its garment. -/
def State.releaseObjects (s : State) (c : Nat) : State :=
  match s.ctx? c with
  | none => s
  | some cx =>
    let s1 := (s.knots.filter (fun p => p.2.owner = c)).foldl (fun (a : State) p => a.closeKnot p.1) s
    let own := [cx.cmdSpool, cx.cplSpool, cx.evtSpool]
    let s2 := (s1.spools.filter (fun p => p.2.owner = some c && !own.contains p.1)).foldl
      (fun (a : State) p => (a.spoolEnds p.1).closeSpool p.1) s1
    let s3 := (cx.patterns.keys ++ cx.patternStages.keys).foldl (fun (a : State) n => a.dropPattern c n) s2
    let s4 := (cx.areaA ++ cx.areaB ++ cx.areaMoved.map Prod.snd).foldl (fun (a : State) sl => a.freeRun sl) s3
    let s5 := match cx.garment with | some g => s4.dropFromGarment g c | none => s4
    s5.modCtx c (fun x => { x with grants := [], progs := [], segs := [], images := [], genCfg := none, areaA := [], areaB := [], areaMoved := [] })

/-- R472: the first three steps of a close: requests end behind the completion of the command `by_`, turns end, the objects are released,
Pincushion lines are dropped and the key is destroyed. The context's own commands from here on complete with ALREADY_DONE. -/
def State.beginClose (s : State) (c : Nat) (by_ : Option Nat) : State :=
  let kept := match (s.ctx? c).bind (fun cx => cx.risk.restore) with
    | some q => s.keepIndices (imageIndices q.rest q.knots) (s.tick.number + 2)
    | none => s
  let s1 := (((kept.closeRequests c by_).endTurnsOf c).stopCkpt c).releaseObjects c
  let s2 := s1.dropLines (fun _ l => l.owner = some c)
  { (s2.modCtx c (fun x => { x with closing := true })) with
    adm := { s2.adm with
      pending := s2.adm.pending.filter (fun t => t.ctx != c)
      estimates := s2.adm.estimates.filter (fun e => e.ctx != c)
      plan := s2.adm.plan.filter (fun e => e.ctx != c) }
    thimble := { s2.thimble with ctxKeys := FMap.del s2.thimble.ctxKeys c, hemKeys := FMap.del s2.thimble.hemKeys c }
    loads := s2.loads.filter (fun l => l.ctx != c)
    shadow := s2.shadow.filter (fun e => !e.of c)
    shadowNext := s2.shadowNext.filter (fun e => !e.of c)
    scratchWriters := s2.scratchWriters.filter (fun w => w.1 != c)
    fences := { s2.fences with
      areaLost := s2.fences.areaLost.filter (fun a => a.1 != c)
      hostPoison := s2.fences.hostPoison.filter (fun h => h.1 != c)
      fatal := s2.fences.fatal.filter (fun f => f.1 != c) } }

/-- Whether a command acts on a context: its own, or one of the management spool that names it. -/
def State.cmdOf (s : State) (c : Nat) (r : CmdReq) : Bool :=
  match originCtx r.origin with
  | some k => k = c
  | none => r.w 0x04 != 0 && s.handleCtx (r.w 0x04) = some c

/-- R464, R472: the last step of a close: what waits of the context's commands completes with ALREADY_DONE, what runs with FENCED, and its
spools close. -/
def State.endClose (s : State) (c : Nat) : State :=
  match s.ctx? c with
  | none => s
  | some cx =>
    let mine := fun (r : CmdReq) => originCtx r.origin = some c
    let waiting := (s.fetched.filter (fun p => mine p.2)).map Prod.snd
    let s1 := waiting.foldl (fun (a : State) r => a.complete r stAlreadyDone []) { s with fetched := s.fetched.filter (fun p => !mine p.2) }
    let s1 := (s1.window.outstanding.filter (fun x => x.ctx = c && x.started.isNone && !s1.window.done.any (fun d => d.ctx = c))).foldl
      (fun (a : State) x => a.winDone c (bits (x.words.getD 0 0).toNat 8 8) stAlreadyDone (bits (x.words.getD 0 0).toNat 0 8) []) s1
    let s2 := match cx.risk.recalling with | some rc => s1.finishCmd rc.cmd stAlreadyDone [] | none => s1
    let s3 := (s2.running.filter (s2.cmdOf c)).foldl (fun (a : State) r => a.finishCmd r.num stFenced []) s2
    let s4 := [cx.cmdSpool, cx.cplSpool, cx.evtSpool].foldl (fun (a : State) i => (a.spoolEnds i).closeSpool i) s3
    { (s4.retireIndex 0 c) with
      contexts := FMap.del s4.contexts c
      needles := s4.needles.map (fun p => (p.1, if p.2.ctx = some c then p.2.emptied else p.2)) }

/-- R473, R551: step 3 of a commit ends every context whose close has begun. -/
def State.endCloses (s : State) : State :=
  (s.contexts.filter (fun p => p.2.closing)).foldl (fun (a : State) p => a.endClose p.1) s

/-- R472: CTX_CLOSE. -/
def actCtxClose (r : CmdReq) (s : State) : CmdResult :=
  s.ctxCmd r .plain [] (fun c _ => (s.beginClose c (some r.num)).done [])

/-- Command 0x11. -/
def rowCtxClose : CmdRow := { op := 0x11, mgmt := true, stages := false, act := actCtxClose }

/-- CTX_CLOSE, R472. -/
def execCtxClose (r : CmdReq) (s : State) : Host.Outcome State Fault Refusal := .next (s.perform rowCtxClose r)

/-- R550, R551: notes that a context is to be closed at this tick's commit; the first cause stays, and its stitches of the tick are
dropped. -/
def State.fatalCtx (s : State) (c cause area chan : Nat) : State :=
  if !FMap.has s.contexts c || s.fences.fatal.any (fun f => f.1 = c) then s
  else
    let s1 := { s with fences := { s.fences with fatal := s.fences.fatal ++ [(c, cause, area, chan)] } }
    s1.withdrawWhere (fun _ r => r.st.ctx = c)

/-- R551: step 3 of a commit closes the contexts of this tick's context-fatal faults, with EV_CTX_FATAL. -/
def State.closeFatal (s : State) : State :=
  s.fences.fatal.foldl (fun (a : State) f =>
    match a.ctx? f.1 with
    | none => a
    | some cx => if cx.closing then a else (a.bothEvent f.1 0x03 3 [f.2.1, f.2.2.1, f.2.2.2]).beginClose f.1 none)
    { s with fences := { s.fences with fatal := [] } }

-- ---------------------------------------------------------------- pausing and resuming (R473)

/-- R473: CTX_PAUSE. -/
def rowCtxPause : CmdRow :=
  { op := 0x12, mgmt := false, stages := false, act := fun r s => s.ctxCmd r .plain [] (fun c _ => (s.pauseCtx c).done []) }

/-- CTX_PAUSE, R473. -/
def execCtxPause (r : CmdReq) (s : State) : Host.Outcome State Fault Refusal := .next (s.perform rowCtxPause r)

/-- R473: whether a current segment of a context maps a chunk of a FENCED channel. -/
def State.onFenced (s : State) (cx : Context) : Bool :=
  (s.channels.filter (fun p => p.2.state = .fenced)).any (fun p => !(cx.lostSegs p.1 none).isEmpty)

/-- R433: whether a context's garment is WAITING. -/
def State.waits (s : State) (cx : Context) : Bool :=
  match cx.garment with
  | some g => (match FMap.get? s.garments g with | some ga => ga.waiting | none => false)
  | none => false

/-- R473: CTX_RESUME; a quiesced context stays so, with the pause under it lifted. -/
def actCtxResume (r : CmdReq) (s : State) : CmdResult :=
  s.ctxCmd r .plain [] (fun c cx =>
    if cx.state = .open_ || (cx.state = .quiesced && !cx.pausedToo) then s.done []
    else if s.onFenced cx then s.fail stFenced
    else if s.waits cx then s.fail stNoSpare
    else (s.modCtx c (fun x => match x.state with
      | .quiesced => { x with pausedToo := false }
      | _ => { x with state := .open_ })).done [])

/-- Command 0x13. -/
def rowCtxResume : CmdRow := { op := 0x13, mgmt := false, stages := false, act := actCtxResume }

/-- CTX_RESUME, R473. -/
def execCtxResume (r : CmdReq) (s : State) : Host.Outcome State Fault Refusal := .next (s.perform rowCtxResume r)

end Sys2Proof.Machine
end

