-- ==== Sys2Proof/Machine/Containment.lean ====
section
/-! DEFINITION. Faults and their containment (chapter 22): needles and Sleeve banks, knots, Tailor clusters, failed accesses of host memory,
context-fatal causes, withdrawal (R553), and accesses that come from peers (R149, R238). -/

namespace Sys2Proof.Machine

/-- R559: counts corrected faults of a class: 0 needles, 1 Sleeve words, 2 Lining buffers and Tailor SRAM, 3 Pincushion lines. -/
def State.countCes (s : State) (k n : Nat) : State :=
  if n = 0 then s else { s with fences := { s.fences with ce := FMap.modifyD s.fences.ce k 0 (fun v => satAdd (2 ^ 32 - 1) v n) } }

/-- R559: counts one corrected fault of a class. -/
def State.countCe (s : State) (k : Nat) : State := s.countCes k 1

/-- R132, R258, R559: the errors corrected in a tick: the counts, and a record of each report of on-die correction. -/
def State.takeCorrections (s : State) (x : TickCorrections) : State :=
  let s1 := x.sleeve.foldl (fun (a : State) p =>
    if Config.needles ≤ p.1 then a
    else let nd := a.needle p.1
         (a.setNeedle p.1 { nd with corrected := nd.corrected + p.2 }).countCes 1 p.2) s
  let s2 := (s1.countCes 2 x.buffers).countCes 3 x.lines
  x.ondie.foldl (fun (a : State) p => if 768 ≤ p.1 then a else a.logRecord (a.mkLog 5 0 p.1 p.2 false 0 [] 0)) s2

-- ---------------------------------------------------------------- withdrawal (R552, R553)

/-- DEV_STATUS as the state of the device gives it (R440). -/
def State.devWord (s : State) : Nat :=
  let f := fun (b : Bool) (i : Nat) => if b then 2 ^ i else 0
  f s.isReady 0 + f s.thimble.approved 1 + f s.mod.state.isOut 2 + f s.tailor.activeB 3 + 0x300 +
    (match s.tailor.active with | some o => o.id % 2 ^ 16 * 2 ^ 16 | none => 0)

/-- R553, R608, R614: the device is out of service: traffic and admission stop, the links are idle, ALERT_N is asserted, every volatile key is
destroyed, and no record or message is written any more. A DOWN heartbeat goes first (R427). -/
def State.shutDown (s0 : State) (st : ModState) (cause : Nat) : State :=
  let s := s0.beats true
  let s1 := { s with
    mod := { s.mod with state := st, alertN := false, failCause := cause, aer := true }
    thimble := { s.thimble with ctxKeys := [], hemKeys := [], stockKey := none, deviceKey := none, ide := [], sessions := [], job := none, restarting := none }
    links := s.links.map (fun (p : Nat × Link) => (p.1, { p.2 with state := .down, key := none, retry := [] }))
    needles := s.needles.map (fun (p : Nat × Needle) => (p.1, { p.2 with admitted := [], run := none, mq := [], vq := [], kwait := none }))
    finished := []
    adm := { s.adm with pending := [], plan := [] }
    out := []
    due := []
    msixPending := []
    msixSent := [] }
  { s1 with devStatus := BitVec.ofNat 32 s1.devWord }

/-- R552, R553, R613, R614: a device-fatal fault: the device withdraws, with cause 5; during bring-up, bring-up fails with the cause given. -/
def State.withdraw (s : State) (cause : Nat) : State :=
  match s.mod.state with
  | .ready => s.shutDown .withdrawn 5
  | .step _ => s.shutDown .failed cause
  | _ => s

/-- Sensors whose source is the running die, or lies on its rails (R618). -/
def dieSensor (id : Nat) : Bool := 0x20 ≤ id && id ≤ 0x31

/-- R608: THERMTRIP_N is asserted and stays latched until the input is removed; every regulator but the Chalk's is off, and with them the host
ports and the readings of the die. -/
def State.thermtrip (s : State) : State :=
  let off := fun (a : State) => { a with mod := { a.mod with
    thermtripN := false
    port0 := false
    port1 := false
    sensors := a.mod.sensors.filter (fun p => !dieSensor p.1) } }
  match s.mod.state with
  | .ready => off (s.shutDown .thermtrip 4)
  | .step _ => off (s.shutDown .thermtrip 4)
  | .withdrawn => off { s with mod := { s.mod with state := .thermtrip } }
  | .failed => off { s with mod := { s.mod with state := .thermtrip } }
  | _ => s

/-- TICK_LOGIC_ERROR, R552. -/
def execTickLogicError (s : State) : Host.Outcome State Fault Refusal := .next (s.withdraw 3)

/-- R581: the Thimble's error state: it zeroises every key it holds, and the device withdraws. -/
def State.thimbleFails (s : State) : State :=
  let s1 := s.withdraw 1
  if s1.mod.state.isOut then { s1 with thimble := { s1.thimble with error := true, restarting := none, job := none } } else s1

/-- THIMBLE_ERROR, R581. -/
def execThimbleError (s : State) : Host.Outcome State Fault Refusal := .next s.thimbleFails

/-- LINING_HEADER_ERROR, R552: the message is discarded and counted; the fourth error of a router within 1,000 ticks withdraws the device. -/
def execLiningHeaderError (router : Nat) (s : State) : Host.Outcome State Fault Refusal :=
  if 96 ≤ router then .fault .noSuchUnit
  else
    let now := s.now
    let l := now :: (FMap.getD s.fences.headerErrors router []).filter (fun t => decide (now < t + 1000))
    let s1 := { s with fences := { s.fences with headerErrors := FMap.set s.fences.headerErrors router l } }
    .next (if 4 ≤ l.length then s1.withdraw 3 else s1)

-- ---------------------------------------------------------------- needles and Sleeve banks (R132, R542, R543, R545)

/-- R558: the identifier of a needle. -/
def needleIdent (n : Nat) : Nat := n % 48 + n / 48 * 2 ^ 8

/-- Needles fenced now. -/
def State.fencedNeedles (s : State) : Nat := (s.needles.filter (fun p => p.2.fenced)).length

/-- R541, R542: fences a needle: its stitch ends at once and is dropped, and the images saved from it are discarded. -/
def State.fenceNeedle (s : State) (n cause : Nat) : State :=
  let nd := s.needle n
  if nd.fenced then s
  else
    let users := s.usersOf (fun q _ => q = n)
    let s1 := s.withdrawWhere (fun q _ => q = n)
    let open_ := match (s1.needle n).run with | some r => r.withdraw | none => false
    let s2 := if open_ then s1.withdrawStitch n none else s1
    let s3 := s2.setNeedle n { s2.needle n with fenced := true }
    let s4 := { s3 with contexts := s3.contexts.map (fun (p : Nat × Context) => (p.1, { p.2 with images := FMap.del p.2.images n })) }
    s4.evFence 0 cause false (needleIdent n) users s4.fencedNeedles

/-- NEEDLE_PARITY_ERROR, R545: a register, queue or accumulator cell. -/
def execNeedleParityError (n : Nat) (s : State) : Host.Outcome State Fault Refusal :=
  if Config.needles ≤ n then .fault .noSuchUnit
  else if !s.isReady then .next s else .next (s.fenceNeedle n 0)

/-- R545: the image is fetched again from its CODE segment, a corrected fault. -/
def State.refetchImage (s : State) (n : Nat) : State :=
  let nd := s.needle n
  match nd.run with
  | none => s
  | some r => ((s.setNeedle n { nd with imageOf := none }).loadImage n r.st).countCe 0

/-- INSTRUCTION_STORE_PARITY, R545. -/
def execInstructionStoreParity (n : Nat) (s : State) : Host.Outcome State Fault Refusal :=
  if Config.needles ≤ n then .fault .noSuchUnit
  else if !s.isReady then .next s else .next (s.refetchImage n)

/-- Sleeve banks fenced now, over all needles. -/
def State.fencedSleeves (s : State) : Nat := (s.needles.map (fun p => p.2.banks.length)).foldl (· + ·) 0

/-- R158: a save met the error: the image of the context that leaves is lost, and it is paused at the commit. -/
def State.loseSave (s : State) (n : Nat) : State :=
  match (s.needle n).ctx with
  | none => s
  | some c => s.modCtx c (fun x => { x with saveUe := true, images := FMap.del x.images n })

/-- R132, R542, R543: an uncorrectable Sleeve word fences its bank; the second bank of a needle fences the needle. -/
def State.fenceBank (s : State) (n bank : Nat) : State :=
  let nd := s.needle n
  if nd.banks.contains bank then s
  else
    let users := s.usersOf (fun q _ => q = n)
    let s1 := s.withdrawWhere (fun q _ => q = n)
    let s2 := s1.setNeedle n { s1.needle n with banks := (nd.banks ++ [bank]) }
    let s3 := s2.evFence 1 0 false (needleIdent n + bank * 2 ^ 16) users s2.fencedSleeves
    if nd.banks.isEmpty then s3 else s3.fenceNeedle n 1

/-- SLEEVE_UE, R132: `saving` says that a context-change save met the word (R158). -/
def execSleeveUe (n off : Nat) (saving : Bool) (s : State) : Host.Outcome State Fault Refusal :=
  if Config.needles ≤ n || 0x300000 ≤ off then .fault .noSuchUnit
  else if !s.isReady then .next s
  else .next ((if saving then s.loseSave n else s).fenceBank n (off / 0x40000))

-- ---------------------------------------------------------------- knots (R547)

/-- R18, R546: whether a standby mirrors the active cluster. -/
def Tailor.mirrored (t : Tailor) : Bool := t.clusterA = .standby || t.clusterB = .standby

/-- R547: fences a knot: it closes, and the waits on it end with their stitches. -/
def State.fenceKnot (s : State) (i : Nat) : State :=
  match FMap.get? s.knots i with
  | none => s
  | some k =>
    let waits := fun (nd : Needle) => match nd.kwait with | some w => w.knot % 2 ^ 14 = i && w.met.isNone | none => false
    let ns := (s.needles.filter (fun p => waits p.2)).map Prod.fst
    let users := s.usersOf (fun q _ => ns.contains q)
    let s1 := ns.foldl (fun (a : State) n => (a.setNeedle n { a.needle n with kwait := none }).withdrawStitch n none) s
    (s1.closeKnot i).evFence 9 0 false (knotHandle k.gen i) users 0

/-- KNOT_COPY_UE, R547: one cluster's copy is corrected from the other's where a standby mirrors it; `both` says that both copies fail. -/
def execKnotCopyUe (knot : Nat) (both : Bool) (s : State) : Host.Outcome State Fault Refusal :=
  if Config.knots ≤ knot then .fault .noSuchUnit
  else if !s.isReady then .next s
  else if both || !s.tailor.mirrored then .next (s.fenceKnot knot)
  else .next (s.countCe 2)

-- ---------------------------------------------------------------- context-fatal causes (R550)

/-- CONTEXT_KEY_INTEGRITY_FAIL, R550. -/
def execContextKeyIntegrityFail (ctx : Nat) (s : State) : Host.Outcome State Fault Refusal :=
  if Config.contexts ≤ ctx then .fault .noSuchUnit else .next (s.fatalCtx ctx 2 0 0)

/-- TAILOR_TABLE_FAILURE, R550. -/
def execTailorTableFailure (ctx : Nat) (s : State) : Host.Outcome State Fault Refusal :=
  if Config.contexts ≤ ctx then .fault .noSuchUnit else .next (s.fatalCtx ctx 3 0 0)

/-- R295: a free chunk for a copy of an area's chunk whose other copy lies on stack `other`: the first eligible channel of another stack with
room, and its lowest free chunk. -/
def State.areaRoom (s : State) (other : Option Nat) : Option (Nat × Nat) :=
  (s.spreadChannels 1 0).findSome? (fun ch =>
    if other = some (ch / 32) then none else (lowestFree (s.channel ch).runs 1 channelChunks).map (fun k => (ch, k)))

/-- R295: the lost copy of an area's chunk is rebuilt from the other: in place, or on a free chunk where its channel is fenced. -/
def State.rebuildArea (s : State) (ctx chunk copy_ : Nat) : State :=
  let found (a : State) := { a with fences := { a.fences with areaLost := a.fences.areaLost.filter (· != (ctx, chunk, copy_)) } }
  match s.ctx? ctx with
  | none => found s
  | some cx =>
    if !s.fences.areaLost.contains (ctx, chunk, copy_) || !(cx.areaPlace copy_ chunk).any (fun p => (s.channel p.1).state = .fenced) then found s
    else match s.areaRoom ((cx.areaPlace (1 - copy_) chunk).map (fun p => p.1 / 32)) with
      | none => s
      | some sl => found ((s.takeRun 1 sl).modCtx ctx (fun x => { x with areaMoved := FMap.set x.areaMoved (2 * chunk + copy_) sl }))

/-- OLUKOR_AREA_REBUILD_DONE, R295: the lost copy of an area's chunk stands again. -/
def execOlukorAreaRebuildDone (ctx chunk copy : Nat) (s : State) : Host.Outcome State Fault Refusal :=
  if Config.contexts ≤ ctx then .fault .noSuchUnit else .next (s.rebuildArea ctx chunk copy)

-- ---------------------------------------------------------------- the Tailor (R546)

/-- A cluster's state: 0 A, 1 B. -/
def Tailor.cluster (t : Tailor) (k : Nat) : ClusterState := if k = 0 then t.clusterA else t.clusterB

/-- Replaces a cluster's state. -/
def Tailor.setCluster (t : Tailor) (k : Nat) (c : ClusterState) : Tailor := if k = 0 then { t with clusterA := c } else { t with clusterB := c }

/-- Clusters fenced or in their self-test. -/
def Tailor.fencedClusters (t : Tailor) : Nat :=
  ([t.clusterA, t.clusterB].filter (fun c => c = .fenced || c = .selfTest)).length

/-- EV_HANDOVER (R557). -/
def State.evHandover (s : State) (activeB resync failed : Bool) : State :=
  s.mgmtEvent 0x04 2 0 [(if activeB then 1 else 0) + (if resync then 2 else 0) + (if failed then 4 else 0)]

/-- R546, R563: a mismatch: the faulty cluster is fenced and tests itself. Where it was active the standby takes over, the role passes at the
commit, and a staged overlay is discarded; with no standby the device withdraws. -/
def State.mismatch (s : State) (k : Nat) : State :=
  let t := s.tailor
  let other := 1 - k
  match t.cluster k with
  | .active =>
    if t.cluster other = .standby then
      let t1 := (t.setCluster k .selfTest).setCluster other .active
      let s1 := { s with tailor := { t1 with staged := none, passing := true } }
      let s2 := match t.staging with | some (n, _) => { s1 with tailor := { s1.tailor with staging := none } }.dueCmd n stBusy [] | none => s1
      s2.evFence 11 0 false k [] s2.tailor.fencedClusters
    else s.withdraw 2
  | .fenced => s
  | .selfTest => s
  | _ =>
    let s1 := { s with tailor := t.setCluster k .selfTest }
    s1.evFence 11 0 false k [] s1.tailor.fencedClusters

/-- TAILOR_MISMATCH, R546. -/
def execTailorMismatch (clu : Nat) (s : State) : Host.Outcome State Fault Refusal :=
  if 2 ≤ clu then .fault .noSuchUnit
  else if !s.isReady then .next s else .next (s.mismatch clu)

/-- TAILOR_SELF_TEST_DONE, R546: a cluster that passes copies the active state; one that fails stays fenced. -/
def execTailorSelfTestDone (clu : Nat) (passed : Bool) (s : State) : Host.Outcome State Fault Refusal :=
  if 2 ≤ clu then .fault .noSuchUnit
  else if s.tailor.cluster clu != .selfTest then .next s
  else if passed then .next { s with tailor := s.tailor.setCluster clu .copying }
  else .next ({ s with tailor := s.tailor.setCluster clu .fenced }.evHandover s.tailor.activeB false true)

/-- TAILOR_RESYNC, R546, R564: a cluster has copied the active state: it becomes the standby at the commit. -/
def execTailorResync (clu : Nat) (s : State) : Host.Outcome State Fault Refusal :=
  if 2 ≤ clu then .fault .noSuchUnit
  else if s.tailor.cluster clu != .copying then .next s
  else .next { s with tailor := s.tailor.setCluster clu .copied }

/-- R546: the commit passes the active role after a fault, and clusters that have copied the active state become standbys. -/
def State.commitTailor (s : State) : State :=
  let t := s.tailor
  let s1 := if t.passing then { s with tailor := { t with passing := false, activeB := !t.activeB } }.evHandover (!t.activeB) false false else s
  [0, 1].foldl (fun (a : State) k =>
    if a.tailor.cluster k = .copied then
      ({ a with tailor := a.tailor.setCluster k .standby }).evHandover a.tailor.activeB true false
    else a) s1

-- ---------------------------------------------------------------- host memory (R457, R549)

/-- HOST_PORT_WRITE_FAILURE: a failed write to a spool closes it at the next commit (R457); a failed vector store to Hem memory is acknowledged
with HOST_FAULT, and its stitch is dropped at the commit (R549). -/
def execHostPortWriteFailure (w : HostWrite) (s : State) : Host.Outcome State Fault Refusal :=
  match w with
  | .spool i =>
    (match FMap.get? s.spools i with
    | none => .next s
    | some sp => .next (s.noteSpoolFault i sp.gen))
  | .store n seg off =>
    if Config.needles ≤ n then .fault .noSuchUnit
    else match (s.needle n).run with
      | none => .next s
      | some r => .next ((s.modRun n (fun x => { x with withdraw := true })).noteHost r.st.ctx seg off)

/-- HOST_READ_POISON, R549: a read of host memory by a stitch came back with poison or an error: the stitch ends, and its context is paused at
the commit. -/
def execHostReadPoison (n seg off : Nat) (s : State) : Host.Outcome State Fault Refusal :=
  if Config.needles ≤ n then .fault .noSuchUnit
  else match (s.needle n).run with
    | none => .next s
    | some r => .next ((s.withdrawStitch n none).noteHost r.st.ctx seg off)

/-- R457: closes a spool whose write failed: EV_SPOOL_FAULT, and its context is paused where it is one of its three. -/
def State.failSpool (s : State) (i gen : Nat) : State :=
  match FMap.get? s.spools i with
  | none => s
  | some sp =>
    if sp.gen != gen then s
    else
      let port := if sp.port = 0 then (match sp.owner with | none => s.mgmt.port | some _ => 1) else sp.port
      let pay := [spoolHandle sp.gen i, (match sp.owner with | some c => c | none => 0) + port * 2 ^ 10]
      let own := match sp.owner.bind s.ctx? with | some cx => [cx.cmdSpool, cx.cplSpool, cx.evtSpool].contains i | none => false
      let s1 := (s.spoolEnds i).closeSpool i
      match sp.owner, own with
      | some c, true => (s1.pauseCtx c).bothEvent c 0x14 2 pay
      | _, _ => s1.mgmtEvent 0x14 2 (match sp.owner with | some c => s1.ctxHandleOf c | none => 0) pay

/-- R457: step 3 of a commit. -/
def State.closeFailedSpools (s : State) : State :=
  s.fences.spoolFaults.foldl (fun (a : State) f => a.failSpool f.1 f.2) { s with fences := { s.fences with spoolFaults := [] } }

/-- R335, R549: step 3 of a commit pauses a context that lost private memory, or a save, or met poison from the host. -/
def State.pauseLosses (s : State) (c : Nat) : State :=
  match s.ctx? c with
  | none => s
  | some cx =>
    let save := if cx.saveUe then 2 ^ 6 else 0
    let s1 := match cx.privateUe with
      | some u => (s.pauseCtx c).bothEvent c 0x17 2
          (if cx.saveUe then [save, 0, 0, u.bursts.length] else [u.seg % 64 + u.source % 8 * 2 ^ 7, u.chunk, u.chan, u.bursts.length])
      | none => if cx.saveUe then (s.pauseCtx c).bothEvent c 0x17 2 [save, 0, 0, 0] else s
    let s2 := s1.modCtx c (fun x => { x with privateUe := none, saveUe := false })
    match s.fences.hostPoison.find? (fun h => h.1 = c) with
    | none => s2
    | some h => (s2.pauseCtx c).bothEvent c 0x06 2 [h.2.1 % 64 + h.2.2.1 % 4 * 2 ^ 6, h.2.2.2 % 2 ^ 32, h.2.2.2 / 2 ^ 32 % 2 ^ 32]

/-- The losses of the tick are dealt with. -/
def State.clearHostPoison (s : State) : State := { s with fences := { s.fences with hostPoison := [] } }

-- ---------------------------------------------------------------- what peers send (R149, R237, R238)

/-- R237, R256: an operation a member asks for on a knot here. A garment that the device no longer holds is a generation failure. -/
def State.peerKnot (s : State) (member msg op handle garment arg : Nat) : State :=
  let answer := fun (a : State) (v st : Nat) => a.notify member .ack [msg, v % 2 ^ 32, v / 2 ^ 32, st]
  let i := handle % 2 ^ 14
  match FMap.get? s.knots i with
  | none => answer (s.noteStale true msgKnot s.tick.number) 0 stStale
  | some k =>
    let g := (s.ctx? k.owner).bind (fun cx => cx.garment)
    if !FMap.has s.garments garment || k.gen != handle / 2 ^ 14 % 256 then answer (s.noteStale true msgKnot s.tick.number) 0 stStale
    else if !k.gknot || g != some garment then answer s 0 stBadParam
    else match s.knotApply i k op (BitVec.ofNat 64 arg) (.remote (member / 16) (member % 16)) none with
      | (s1, none) => answer s1 0 stBadParam
      | (s1, some (v, _)) => answer s1 v stOk

/-- R239, R241: whether a remote operation that completed OK altered its knot for WROTE_OUT, told from its operand and its result; whether a
phase that a KARRIVE did not fill itself has filled later is not told: `later`, a free value (assumption 72). -/
def remoteAltered (op arg value : Nat) (later : Bool) : Bool :=
  if op = kopAdd then arg % 2 ^ 48 != 0
  else if op = kopArrive then value / 2 ^ 16 % 65536 = 0 || later
  else value % 2 = 0

/-- KNOT_OPERATION_MESSAGE, R237, R238: an operation of a member, or the result of one that a needle here asked for. -/
def execKnotOperationMessage (m : KnotMsg) (s : State) : Host.Outcome State Fault Refusal :=
  match m with
  | .ask member msg op handle garment arg epoch =>
    .next (s.receive msgKnot epoch (fun a => a.peerKnot member msg op handle garment arg))
  | .result n msg value status =>
    if Config.needles ≤ n then .fault .noSuchUnit
    else
      let nd := s.needle n
      match nd.knotOps.find? (fun k => k.1 = msg) with
      | none => .next s
      | some k =>
        let (x, s0) := s.drawUpTo 1
        let s1 := (s0.setNeedle n { nd with knotOps := nd.knotOps.filter (fun x => x.1 != msg) }).ackMessage (2 * msg + 1) id
        let wrote := status = stOk && remoteAltered k.2.1 k.2.2.2 value (x = 1)
        .next ((s1.knotDone n k.2.2.1 value status true wrote).drain n)

/-- R149, R326: a peer's access is checked by this device's own descriptor, and the read of a WEIGHT_LOAD against the source context's
peer-privileged flag; poison of a read pauses the source context here (R549). -/
def State.peerAccess (s : State) (a : PeerAccess) : State :=
  match s.garmentCtx a.garment a.seg with
  | none => (s.noteStale true (if a.data.isSome then msgWrite else msgRead) s.tick.number).ackTo a.member a.msg stStale false
  | some c =>
    match s.ctx? c with
    | none => s
    | some cx =>
      match a.data with
      | some bs =>
        if !s.ctxSegOk cx a.seg a.off bs.length .write then s.ackTo a.member a.msg stSegFault false
        else (s.writeCtx c (ctxAddr a.seg a.off) bs).ackTo a.member a.msg stOk false
      | none =>
        if a.load && !cx.peerPriv then s.ackTo a.member a.msg stBadParam false
        else if !s.ctxSegOk cx a.seg a.off a.len .read then s.ackTo a.member a.msg stSegFault false
        else match FMap.get? cx.segs a.seg with
          | none => s
          | some d =>
            let o := Sys2Proof.Machine.State.readSeg s c d a.seg s.adm.nextId s.freeCtr a.off a.len
            let s1 := match o.poison with | some (sg, j, ch, bs) => s.modCtx c (fun x => x.noteUe sg 0 j ch bs) | none => s
            let s2 := match o.held, o.host with
              | some g, _ => s1.holdGranule g.1 g.2
              | none, some h => s1.noteHost c h.1 h.2
              | none, none => s1
            s2.notify a.member .ack ([a.msg, if o.usable then stOk else stPoisoned] ++ o.bytes.map BitVec.toNat)

/-- PEER_SEGMENT_ACCESS, R149. -/
def execPeerSegmentAccess (a : PeerAccess) (s : State) : Host.Outcome State Fault Refusal :=
  .next (s.receive (if a.data.isSome then msgWrite else msgRead) a.epoch (fun s => s.peerAccess a))

end Sys2Proof.Machine
end

