-- ==== Sys2Proof/Machine/Service.lean ====
section
/-! DEFINITION. Service while running (chapter 23, R498): patch overlays (R562 to R566), the self-test and the fence of a needle (R569, R570) and
the update of the Thimble (R567, R568, R596). -/

namespace Sys2Proof.Machine

-- ---------------------------------------------------------------- patch overlays (R562 to R566)

/-- R562: the bytes of an overlay's signature, and its longest length. -/
def overlaySig : Nat := 4627
def overlayMax : Nat := 258643

/-- R562: whether an overlay's fields are in range for its length. -/
def overlayOk (b : List Byte) : Bool :=
  let w := word32 b
  w 0x00 = 1 && w 0x04 != 0 && w 0x08 = 0x30 && 1 ≤ w 0x0C && w 0x0C ≤ 253952 && w 0x10 < 2 ^ 8 && w 0x14 = overlaySig &&
  (slice b 0x18 40).all (· = 0#8) && b.length = 0x40 + w 0x0C + overlaySig

/-- R563: PATCH_STAGE checks the overlay's form; the Thimble verifies it in the ticks that follow. -/
def actPatchStage (r : CmdReq) (s : State) : CmdResult :=
  s.devCmd r .plain [(0x08, fld 0 32), (0x0C, fld 0 32), (0x10, fld 0 32), (0x14, fld 0 2)] (
    let n := r.w 0x10
    let b := Mem.readN s.host (r.d 0x08) n
    let t := s.tailor
    if r.w 0x14 = 3 || overlayMax < n then s.fail stBadParam
    else if n != 0 && !overlayOk b then s.fail stBadParam
    else if t.staged.isSome || t.staging.isSome || !t.mirrored || s.thimbleBusy then s.fail stBusy
    else
      let o : Overlay := { id := if n = 0 then 0 else word32 b 4, bytes := b }
      { s with tailor := { t with staging := some (r.num, o) } }.startedCmd)

/-- Command 0xB0. -/
def rowPatchStage : CmdRow := { op := 0xB0, mgmt := true, stages := false, act := actPatchStage }

/-- PATCH_STAGE, R563. -/
def execPatchStage (r : CmdReq) (s : State) : Host.Outcome State Fault Refusal := .next (s.perform rowPatchStage r)

/-- R563: the status of an overlay's verification; the bare ROM has no signature. -/
def State.checkOverlay (s : State) (o : Overlay) : Nat :=
  if o.bytes.isEmpty then stOk
  else
    let w := word32 o.bytes 0x10
    s.thimble.check .firmware (bits w 0 8) (bits w 8 4) o.bytes

/-- R563: the standby holds the overlay, verified, or the verification failed: the command completes at the next commit. No cluster holds it
while none is the standby. -/
def State.patchStaged (s : State) : State :=
  match s.tailor.staging with
  | none => s
  | some (n, o) =>
    let st := s.checkOverlay o
    if st = stOk && !s.tailor.mirrored then s
    else
    let s1 := { s with tailor := { s.tailor with staging := none, staged := if st = stOk then some o else s.tailor.staged } }
    if st = stOk then s1.dueCmd n stOk [o.id] else s1.dueCmd n st []

/-- PATCH_STAGED, R563. -/
def execPatchStaged (s : State) : Host.Outcome State Fault Refusal :=
  if !s.isReady then .next s else .next s.patchStaged

/-- R564: the standby takes the active role under the staged overlay, which is written to the service area; the former active cluster copies
the active state. -/
def State.activate (s : State) (o : Overlay) : State :=
  let t := s.tailor
  let now := if o.id = 0 then none else some o
  let a := if t.activeB then 1 else 0
  let t1 := (t.setCluster a .copying).setCluster (1 - a) .active
  ({ s with tailor := { t1 with activeB := !t.activeB, active := now, service := now, staged := none } }).evHandover (!t.activeB) false false

/-- R498, R564, R566: PATCH_ACTIVATE. -/
def actPatchActivate (r : CmdReq) (s : State) : CmdResult :=
  s.devCmd r .plain [(0x08, fld 0 32)] (
    match s.tailor.staged with
    | none => s.fail stBusy
    | some o => if o.id != r.w 0x08 || !s.tailor.mirrored then s.fail stBusy else (s.activate o).done [])

/-- Command 0xB1. -/
def rowPatchActivate : CmdRow := { op := 0xB1, mgmt := true, stages := true, act := actPatchActivate }

/-- PATCH_ACTIVATE, R564. -/
def execPatchActivate (r : CmdReq) (s : State) : Host.Outcome State Fault Refusal := .next (s.perform rowPatchActivate r)

-- ---------------------------------------------------------------- needles (R569, R570)

/-- R569: ACTION 0: nothing is admitted to the needle from this commit's step 4 on, and it is fenced at the next commit. -/
def State.fenceSoon (s : State) (n : Nat) : State :=
  let nd := s.needle n
  if nd.fenced || nd.fenceFrom.isSome then s else s.setNeedle n { nd with fenceFrom := some s.tick.number }

/-- R570: ACTION 1: the Sleeve and the tiles are zeroed and the self-test runs. -/
def State.testNeedle (s : State) (n num : Nat) : State :=
  s.setNeedle n { s.needle n with sleeve := [], tiles := [], selfTest := true, testCmd := some num, testEnd := none }

/-- R498, R569, R570: NEEDLE_FENCE. -/
def actNeedleFence (r : CmdReq) (s : State) : CmdResult :=
  s.devCmd r .plain [(0x08, fld 0 6 + fld 8 3 + fld 12 1)] (
    let i := r.f 0x08 0 6
    let p := r.f 0x08 8 3
    let n := 48 * p + i
    if 48 ≤ i || Config.panels ≤ p then s.fail stBadParam
    else if !bit (r.w 0x08) 12 then (s.fenceSoon n).done []
    else if !(s.needle n).fenced || (s.needle n).selfTest then s.fail stBusy
    else (s.testNeedle n r.num).startedCmd)

/-- Command 0xB2. -/
def rowNeedleFence : CmdRow := { op := 0xB2, mgmt := true, stages := false, act := actNeedleFence }

/-- NEEDLE_FENCE, R569. -/
def execNeedleFence (r : CmdReq) (s : State) : Host.Outcome State Fault Refusal := .next (s.perform rowNeedleFence r)

/-- R570: the end of a needle's self-test, and the Sleeve banks that failed it. -/
def State.needleTested (s : State) (n : Nat) (passed : Bool) (failing : List Nat) : State :=
  let nd := s.needle n
  if nd.selfTest then s.setNeedle n { nd with testEnd := some (passed, (List.range 12).filter failing.contains) } else s

/-- NEEDLE_SELF_TEST_DONE, R570. -/
def execNeedleSelfTestDone (n : Nat) (passed : Bool) (failing : List Nat) (s : State) : Host.Outcome State Fault Refusal :=
  if Config.needles ≤ n then .fault .noSuchUnit
  else if !s.isReady then .next s else .next (s.needleTested n passed failing)

/-- R570, R542: whether a needle's test returns it to service. -/
def Needle.testPassed (nd : Needle) : Bool :=
  match nd.testEnd with | some (ok, banks) => ok && decide (banks.length < 2) | none => false

/-- R569, R570: what a commit does with a needle: the fence a command asked for at an earlier commit, and the end of a self-test. -/
def State.commitNeedle (s : State) (n : Nat) : State :=
  let nd := s.needle n
  let s1 := match nd.fenceFrom with
    | some k =>
      if k < s.tick.number then
        let a := s.setNeedle n { nd with fenceFrom := none, fenced := true }
        if nd.fenced then a else a.evFence 0 2 false (needleIdent n) [] a.fencedNeedles
      else s
    | none => s
  let nd1 := s1.needle n
  match nd1.testEnd with
  | none => s1
  | some (_, banks) =>
    let back : Needle := { nd1 with selfTest := false, testCmd := none, testEnd := none }
    let ok := nd1.testPassed
    let s2 := s1.setNeedle n (if ok then { back with fenced := false, banks := banks } else back)
    let s3 := s2.evFence 0 (if ok then 0 else 3) ok (needleIdent n) [] s2.fencedNeedles
    match nd1.testCmd with
    | some c => s3.finishCmd c (if ok then stOk else stFenced) []
    | none => s3

/-- R569, R570: step 3 of a commit. -/
def State.commitNeedles (s : State) : State := (s.needles.map Prod.fst).foldl (fun (a : State) n => a.commitNeedle n) s

-- ---------------------------------------------------------------- the Thimble (R567, R596)

/-- R567: the longest update object. -/
def updateMax : Nat := 2 * 2 ^ 20

/-- R596: the fields of an update object's header. -/
def updType (b : List Byte) : Nat := bits (word32 b 0) 16 4
def updVersion (b : List Byte) : Nat := word32 b 4
def updSerial (b : List Byte) : Nat := word32 b 8 + 2 ^ 32 * word32 b 0x0C
def updSlot (b : List Byte) : Nat := bits (word32 b 0x10) 0 8
def updCounter (b : List Byte) : Nat := word32 b 0x1C
/-- The body. -/
def updBody (b : List Byte) : List Byte := slice b 0x40 (word32 b 0x18)

/-- R596: whether a key record's body is well formed. -/
def keyBodyOk (b : List Byte) : Bool :=
  let w := word32 b 0
  let target := bits w 0 8
  let alg := bits w 12 4
  let remove := bit w 16
  let keyLen := if alg = 0 then 2592 else 97
  w < 2 ^ 17 && !bit w 11 && alg ≤ 1 &&
  (if target = 0 then !remove && b.length = 4 + 1568 + 40 else b.length = 4 + keyLen || (remove && b.length = 4))

/-- R596: whether an update object is well formed and meant for this module. -/
def Thimble.updateOk (t : Thimble) (b : List Byte) : Bool :=
  let w := word32 b
  let record := updType b != 0
  bits (w 0) 0 16 = 1 && w 0 < 2 ^ 20 && updType b ≤ 2 && w 0x10 < 2 ^ 8 && w 0x14 = 4627 && (slice b 0x20 32).all (· = 0#8) &&
  b.length = 0x40 + w 0x18 + 4627 &&
  (if record then updVersion b = 0 && updSerial b = Config.serial % 2 ^ 64 && FMap.getD t.counters (updType b) 0 < updCounter b
   else updSerial b = 0 && updCounter b = 0) &&
  (match updType b with
   | 1 => keyBodyOk (updBody b)
   | 2 => (updBody b).length = 4 && word32 (updBody b) 0 < 4
   | _ => true)

/-- R498, R567, R596: THIMBLE_UPDATE. -/
def actThimbleUpdate (r : CmdReq) (s : State) : CmdResult :=
  s.devCmd r .plain [(0x08, fld 0 32), (0x0C, fld 0 32), (0x10, fld 0 32), (0x14, fld 0 2)] (
    let n := r.w 0x10
    let b := Mem.readN s.host (r.d 0x08) n
    if r.w 0x14 = 3 || updateMax < n then s.fail stBadParam
    else if n < 0x40 || !s.thimble.updateOk b then s.fail stBadParam
    else if s.thimble.job.isSome || s.thimbleBusy || !s.board.subs.isEmpty then s.fail stBusy
    else
      let j : ThimbleJob := { cmd := r.num, objType := updType b, payload := b, verified := false }
      { s with thimble := { s.thimble with job := some j } }.startedCmd)

/-- Command 0xB6. -/
def rowThimbleUpdate : CmdRow := { op := 0xB6, mgmt := true, stages := false, act := actThimbleUpdate }

/-- THIMBLE_UPDATE, R567. -/
def execThimbleUpdate (r : CmdReq) (s : State) : Host.Outcome State Fault Refusal := .next (s.perform rowThimbleUpdate r)

/-- R596: the owner wrap root that a key record delivers: the ciphertext is encapsulated to this module's identity key. -/
def deliveredRoot (body : List Byte) : Option Nat :=
  Config.unwrap (Config.kdf [Config.identitySeed, Config.digest (slice body 4 1568)]) (slice body 1572 40)

/-- R567, R583, R584, R596: the status of an update object's verification. -/
def Thimble.verifyUpdate (t : Thimble) (b : List Byte) : Nat :=
  let body := updBody b
  let target := bits (word32 body 0) 0 8
  match updType b with
  | 0 =>
    let st := t.check .firmware (updSlot b) 0 b
    if st != stOk then st else if Config.validated (updVersion b) then stOk else stNotApproved
  | 1 =>
    let st := t.check (if target = 16 then .rootRecord else .record) (updSlot b) 0 b
    if st != stOk then st
    else if 1 ≤ target && target < 16 then stBadDigest
    else if target = 0 && (deliveredRoot body).isNone then stBadDigest
    else stOk
  | _ => t.check .record (updSlot b) 0 b

/-- R567, R596: the verification and, for firmware, the write of the other slot have ended; `written` says that it read back. -/
def State.updateVerified (s : State) (written : Bool) : State :=
  match s.thimble.job with
  | none => s
  | some j =>
    if j.verified then s
    else
      let t := s.thimble
      let st := t.verifyUpdate j.payload
      let st1 := if st = stOk && j.objType = 0 && !written then stBadDigest else st
      if st1 != stOk then { s with thimble := { t with job := none } }.dueCmd j.cmd st1 []
      else
        let t1 := { t with job := some { j with verified := true } }
        let t2 := if j.objType = 0 then { t1 with fwVersions := FMap.set t1.fwVersions (1 - t1.fwActive) (updVersion j.payload) }
          else { t1 with counters := FMap.set t1.counters j.objType (updCounter j.payload) }
        { s with thimble := t2 }

/-- THIMBLE_UPDATE_VERIFIED, R567. -/
def execThimbleUpdateVerified (written : Bool) (s : State) : Host.Outcome State Fault Refusal :=
  if !s.isReady then .next s else .next (s.updateVerified written)

/-- R596: a key record takes effect. -/
def Thimble.applyKey (t : Thimble) (body : List Byte) : Thimble :=
  let w := word32 body 0
  let target := bits w 0 8
  if target = 0 then { t with owr := deliveredRoot body }
  else if bit w 16 then { t with slots := FMap.del t.slots target }
  else
    let k : KeySlot := { alg := bits w 12 4, purpose := bits w 8 2, test := bit w 10, key := Config.digest (body.drop 4) }
    { t with slots := FMap.set t.slots target k }

/-- R567: every link key is replaced before the switch. -/
def Link.rekeyed (l : Link) : Link :=
  { l with flits := 0, key := l.key.map (fun x => { x with genOut := x.genOut + 1, genIn := x.genIn + 1 }) }

/-- R567, R596: step 3 of the first commit after the verification: a record takes effect; for firmware every link key is replaced and the
Thimble restarts from the other slot. -/
def State.commitUpdate (s : State) : State :=
  match s.thimble.job with
  | none => s
  | some j =>
    if !j.verified then s
    else
      let t := { s.thimble with job := none }
      let body := updBody j.payload
      match j.objType with
      | 0 =>
        { s with
          thimble := { t with restarting := some j.cmd }
          links := s.links.map (fun (p : Nat × Link) => (p.1, p.2.rekeyed)) }
      | 1 => { s with thimble := t.applyKey body }.finishCmd j.cmd stOk [1]
      | _ =>
        { s with thimble := { t with modeNext := some (bit (word32 body 0) 0, bit (word32 body 0) 1) } }.finishCmd j.cmd stOk [2]

/-- R567: the Thimble runs from its other slot. -/
def Thimble.switchSlot (t : Thimble) : Thimble :=
  if !t.fwNext then t
  else
    let f := 1 - t.fwActive
    { t with fwNext := false, fwActive := f, version := FMap.getD t.fwVersions f t.version }

/-- R567, R598: DEV_INFO and the measurements show the new slot from the first commit after its self-tests on. -/
def State.switchThimble (s : State) : State := { s with thimble := s.thimble.switchSlot }

/-- R567: the Thimble's self-tests after the switch have ended. -/
def State.thimbleRestarted (s : State) (passed oldPassed : Bool) : State :=
  match s.thimble.restarting with
  | none => s
  | some n =>
    let t := { s.thimble with restarting := none }
    if passed then { s with thimble := { t with fwNext := true } }.dueCmd n stOk []
    else if oldPassed then { s with thimble := t }.dueCmd n stBadDigest [1]
    else s.thimbleFails

/-- THIMBLE_RESTART_DONE, R567: `oldPassed` tells of the old slot, where the new one failed. -/
def execThimbleRestartDone (passed oldPassed : Bool) (s : State) : Host.Outcome State Fault Refusal :=
  if !s.isReady then .next s else .next (s.thimbleRestarted passed oldPassed)

end Sys2Proof.Machine
end

