-- ==== Sys2Proof/Machine/Attest.lean ====
section
/-! DEFINITION. Attestation and IDE keys over SPDM (R568, R591, R597, R598). The manual names the requests and what they give; the order in which
SPDM 1.3 lets a requester send them is taken from that standard (assumption 19). -/

namespace Sys2Proof.Machine

/-- Replaces what the last request on a port was answered. -/
def State.answer (s : State) (port : Nat) (a : SpdmAnswer) : State :=
  { s with thimble := { s.thimble with answers := FMap.set s.thimble.answers port a } }

/-- The connection state of a port. -/
def State.spdm (s : State) (port : Nat) : SpdmPort := FMap.getD s.thimble.ports port SpdmPort.reset

/-- Replaces it. -/
def State.setSpdm (s : State) (port : Nat) (p : SpdmPort) : State :=
  { s with thimble := { s.thimble with ports := FMap.set s.thimble.ports port p } }

/-- R568, R597: SPDM is there from READY; during a restart of the Thimble the device answers Busy. -/
def State.onDoe (s : State) (port : Nat) (f : State → State) : Host.Outcome State Fault Refusal :=
  if port = 0 || 2 < port then .fault .noSuchUnit
  else if !s.isReady || !s.hostPortUp port then .next s
  else if s.thimbleBusy then .next (s.answer port .busy)
  else .next (f s)

/-- A request that needs the negotiated algorithms. -/
def State.negotiated (s : State) (port : Nat) (f : State → State) : State :=
  if (s.spdm port).algorithms = 0 then s.answer port .error else f s

/-- GET_VERSION, R597: the connection begins again. -/
def execGetVersion (port : Nat) (s : State) : Host.Outcome State Fault Refusal :=
  s.onDoe port (fun a =>
    let b := a.setSpdm port { SpdmPort.reset with version := true }
    { b with thimble := { b.thimble with sessions := b.thimble.sessions.filter (fun x => x.port != port) } }.answer port .version)

/-- GET_CAPABILITIES, R597. -/
def execGetCapabilities (port : Nat) (s : State) : Host.Outcome State Fault Refusal :=
  s.onDoe port (fun a =>
    let p := a.spdm port
    if !p.version then a.answer port .error else (a.setSpdm port { p with capabilities := true }).answer port .capabilities)

/-- NEGOTIATE_ALGORITHMS, R578, R597: of what is offered only the four algorithms are taken; without a common signature and hash there is no
connection. -/
def execNegotiateAlgorithms (port algs : Nat) (s : State) : Host.Outcome State Fault Refusal :=
  s.onDoe port (fun a =>
    let p := a.spdm port
    let agreed := algs % 16
    if !p.capabilities || agreed % 4 != 3 then a.answer port .error
    else (a.setSpdm port { p with algorithms := agreed }).answer port (.algorithms agreed))

/-- GET_DIGESTS, R597. -/
def execGetDigests (port : Nat) (s : State) : Host.Outcome State Fault Refusal :=
  s.onDoe port (fun a => a.negotiated port (fun b => b.answer port (.digests (Config.digest Config.certChain))))

/-- GET_CERTIFICATE, R597: slot 0 holds the chain. -/
def execGetCertificate (port slot off len : Nat) (s : State) : Host.Outcome State Fault Refusal :=
  s.onDoe port (fun a => a.negotiated port (fun b =>
    if slot != 0 then b.answer port .error else b.answer port (.certificate ((Config.certChain.drop off).take len))))

/-- R582: the serial number of the ECDSA identity key. -/
def identityEcdsa : Nat := Config.kdf [Config.identitySeed, 1]

/-- CHALLENGE, R597. -/
def execChallenge (port slot nonce : Nat) (s : State) : Host.Outcome State Fault Refusal :=
  s.onDoe port (fun a => a.negotiated port (fun b =>
    if slot != 0 then b.answer port .error
    else b.answer port (.challenge (Config.sign identityEcdsa (natLE 32 nonce)))))

/-- R598: the content of a measurement, as the bytes the digest is formed over (assumption 19); none for index 3 with no overlay. -/
def State.measured (s : State) (i : Nat) : Option (List Byte) :=
  let t := s.thimble
  let f := fun (b : Bool) => if b then 1 else 0
  match i with
  | 1 => some (wordsLE [t.fwActive, t.version])
  | 2 => some (wordsLE [0x30])
  | 3 => s.tailor.active.map (fun o => o.bytes)
  | 4 => some (wordsLE [f t.modeApproved, f t.approved, Config.serial % 2 ^ 32, Config.serial / 2 ^ 32 % 2 ^ 32])
  | 5 => some (wordsLE [f t.owr.isSome] ++
      t.slots.flatMap (fun p => wordsLE [p.1, p.2.alg, p.2.purpose, f p.2.test] ++ natLE 48 p.2.key))
  | 6 => some (s.images.flatMap (fun b => wordsLE [b.image, b.version] ++ natLE 32 (sha256 b.manifest)))
  | _ => some (wordsLE [s.board.boardId, s.board.posId, s.board.logical s.board.posId, s.board.mapVersion])

/-- R598: a measurement: SHA-384 of the content, or 48 zero bytes. -/
def State.measurement (s : State) (i : Nat) : Nat := match s.measured i with | some b => Config.digest b | none => 0

/-- GET_MEASUREMENTS, R598: an index from 1 to 7, or 0xFF for all. -/
def execGetMeasurements (port index nonce : Nat) (sign : Bool) (s : State) : Host.Outcome State Fault Refusal :=
  s.onDoe port (fun a => a.negotiated port (fun b =>
    let asked := if index = 0xFF then [1, 2, 3, 4, 5, 6, 7] else if 1 ≤ index && index ≤ 7 then [index] else []
    if asked.isEmpty then b.answer port .error
    else
      let l := asked.map (fun i => (i, b.measurement i))
      let sig := if sign then some (Config.sign identityEcdsa (l.flatMap (fun x => natLE 48 x.2) ++ natLE 32 nonce)) else none
      b.answer port (.measurements l sig)))

/-- The sessions of a port. -/
def State.sessionsOn (s : State) (port : Nat) : List SpdmSession := s.thimble.sessions.filter (fun x => x.port = port)

/-- KEY_EXCHANGE, R597: a port holds up to 4 sessions; the exchange needs secp384r1 and AES-256-GCM. -/
def execKeyExchange (port : Nat) (s : State) : Host.Outcome State Fault Refusal :=
  s.onDoe port (fun a => a.negotiated port (fun b =>
    if (b.spdm port).algorithms != 15 || 4 ≤ (b.sessionsOn port).length then b.answer port .error
    else
      let t := b.thimble
      let x : SpdmSession := { id := t.nextSession, port := port, finished := false, updates := 0 }
      { b with thimble := { t with sessions := t.sessions ++ [x], nextSession := t.nextSession + 1 } }.answer port (.session x.id)))

/-- Applies a request to a session of a port. -/
def State.onSession (s : State) (port id : Nat) (f : State → SpdmSession → State) : State :=
  match s.thimble.sessions.find? (fun x => x.id = id && x.port = port) with
  | none => s.answer port .error
  | some x => f s x

/-- Replaces a session. -/
def State.setSession (s : State) (x : SpdmSession) : State :=
  { s with thimble := { s.thimble with sessions := s.thimble.sessions.map (fun y => if y.id = x.id then x else y) } }

/-- A session ends. -/
def State.dropSession (s : State) (id : Nat) : State :=
  { s with thimble := { s.thimble with sessions := s.thimble.sessions.filter (fun y => y.id != id) } }

/-- FINISH, R597: `macOk` says that the requester's proof verifies. -/
def execFinish (port session : Nat) (macOk : Bool) (s : State) : Host.Outcome State Fault Refusal :=
  s.onDoe port (fun a => a.onSession port session (fun b x =>
    if x.finished then b.answer port .error
    else if !macOk then (b.dropSession session).answer port .error
    else (b.setSession { x with finished := true }).answer port .done))

/-- A request of a finished session. -/
def State.inSession (s : State) (port id : Nat) (f : State → SpdmSession → State) : Host.Outcome State Fault Refusal :=
  s.onDoe port (fun a => a.onSession port id (fun b x => if x.finished then f b x else b.answer port .error))

/-- KEY_UPDATE, R597. -/
def execKeyUpdate (port session : Nat) (s : State) : Host.Outcome State Fault Refusal :=
  s.inSession port session (fun b x => (b.setSession { x with updates := x.updates + 1 }).answer port .done)

/-- HEARTBEAT, R597. -/
def execHeartbeat (port session : Nat) (s : State) : Host.Outcome State Fault Refusal :=
  s.inSession port session (fun b _ => b.answer port .done)

/-- END_SESSION, R597. -/
def execEndSession (port session : Nat) (s : State) : Host.Outcome State Fault Refusal :=
  s.inSession port session (fun b _ => (b.dropSession session).answer port .done)

/-- R591: the key of a stream: 0 the link stream, 1 to 8 the selective ones. -/
def ideKey (port stream : Nat) : Nat := port * 16 + stream

/-- IDE_KM, R591: over a session of the port, sets or stops a stream's key. -/
def execIdeKm (port session stream : Nat) (op : IdeOp) (s : State) : Host.Outcome State Fault Refusal :=
  s.inSession port session (fun b _ =>
    if 8 < stream then b.answer port .error
    else
      let t := b.thimble
      let ide := match op with | .program key => FMap.set t.ide (ideKey port stream) key | .stop => FMap.del t.ide (ideKey port stream)
      { b with thimble := { t with ide := ide } }.answer port .done)

end Sys2Proof.Machine
end

