-- ==== Sys2Proof/Machine/Risk.lean ====
section
/-! DEFINITION. The risk score and its thresholds (R517 to R521), the monitor's checkpoints (R522, R523) and recall (R491, R536 to R538). -/

namespace Sys2Proof.Machine

-- ---------------------------------------------------------------- the terms (R518)

/-- How many of the counted events lie within the last 1,000 ticks. -/
def recentSum (now : Nat) (l : List (Nat × Nat)) : Nat :=
  ((l.filter (fun p => decide (now < p.1 + 1000))).map Prod.snd).foldl (· + ·) 0

/-- R518: 32 times the whole part of the logarithm of one more than a count, at most 256. -/
def logTerm (n : Nat) : Nat := Nat.min 256 (32 * Nat.log2 (1 + n))

/-- R518: DEV. -/
def State.riskDev (s : State) : Nat :=
  let therm := (List.range Config.panels).foldl (fun (a : Nat) p =>
    let m : Int := (s.adm.tlim : Int) - (s.panel p).forecastC
    Nat.max a (if 8 ≤ m then 0 else Nat.min 384 (48 * (8 - m).toNat))) 0
  let gov := match s.adm.governedAt with | some g => if s.tick.number < g + 64 then 128 else 0 | none => 0
  let volt := if s.mod.milliV < 42000 || 56000 < s.mod.milliV then 128 else 0
  let droop := if (List.range Config.panels).any (fun p => (s.panel p).derate < 1000) then 64 else 0
  therm + gov + volt + droop

/-- The channels that a context's stack-placed Patterns name. -/
def Context.channelsOf (cx : Context) : List Nat :=
  dedup ((cx.patterns.filter (fun q => q.2.residence = 1)).flatMap (fun q => q.2.slots.map Prod.fst))

/-- Whether a context has a Pattern placed in the stacks. -/
def Context.inStacks (cx : Context) : Bool := cx.patterns.any (fun q => q.2.residence = 1)

/-- Whether a context has a current STOCK segment. -/
def Context.usesStock (cx : Context) : Bool := cx.segs.any (fun q => q.2.valid && q.2.kind = 3)

/-- R518: the value of a channel. -/
def Channel.riskValue (c : Channel) (now : Nat) : Nat :=
  (if c.state = .degraded then 128 else 0) + (if c.moveWanted then 256 else 0) + (if c.corrLimit = 2 then 256 else 0) +
    logTerm (recentSum now c.ceTicks)

/-- R518: MEM. -/
def State.riskMem (s : State) (cx : Context) : Nat :=
  if !cx.inStacks then 0
  else
    let worst := (cx.channelsOf.map (fun ch => (s.channel ch).riskValue s.tick.number)).foldl Nat.max 0
    worst + (if s.gussetLevel = 1 then 384 else if s.gussetLevel = 2 then 192 else 0)

/-- R423, R518, R519: the links that reach positions of a garment's other members: the two Thread links to another position of this board,
where the first hop is one (a member of another board at another position is reached by way of it), else the ports of the first dimension in
which the boards differ. -/
def State.garmentLinks (s : State) (g : Nat) : List Nat :=
  dedup ((s.otherMembers g).flatMap (fun m =>
    let b := m / 16
    let at_ := s.board.physical (m % 16)
    if b = s.board.boardId || at_ != s.board.posId then threadLinks s.board.posId at_
    else if boardCoord 0 b != boardCoord 0 s.board.boardId then dimPorts 0 else dimPorts 1))

/-- R518: the other links to a link's peer. -/
def State.siblings (s : State) (l : Nat) : List Nat :=
  if l < 16 then
    (List.range 16).filter (fun k => k != l && (List.range 9).any (fun p =>
      (threadLinks s.board.posId p).contains l && (threadLinks s.board.posId p).contains k))
  else
    let dim := (l - 16) / 2
    if s.board.arraySize dim = 2 then (dimPorts dim).filter (· != l) else []

/-- R518: the value of a link. -/
def State.linkRisk (s : State) (l : Nat) : Nat :=
  let k := s.link l
  let switches := (k.switchTicks.filter (fun t => decide (s.tick.number < t + 1000))).length
  (if (s.siblings l).any (fun x => (s.link x).state = .fenced) then 512 else 0) + logTerm (recentSum s.tick.number k.replayTicks) +
    Nat.min 192 (64 * switches)

/-- R518: LINK. -/
def State.riskLink (s : State) (cx : Context) : Nat :=
  match cx.garment with
  | none => 0
  | some g => ((s.garmentLinks g).map s.linkRisk).foldl Nat.max 0

/-- R316: free spare blocks of both Bolt stacks. -/
def State.boltSpare (s : State) : Nat := s.bolt0.spare + s.bolt1.spare

/-- R518: STOCK. -/
def State.riskStock (s : State) (cx : Context) : Nat := if cx.usesStock && s.boltSpare < 359 then 256 else 0

/-- R519: the code of the condition that forces a context's score, the lowest that applies; 0 for none. -/
def State.riskForce (s : State) (cx : Context) : Nat :=
  let hurt := fun (l : Nat) => let k := s.link l; k.spareFor.isSome || k.state = .half || k.state = .fenced
  if cx.inStacks && s.gussetLevel = 0 then 1
  else if (match cx.garment with | some g => (s.garmentLinks g).any hurt | none => false) then 2
  else if cx.garment.isSome && s.board.freeSpares.isEmpty then 3
  else if cx.usesStock && s.boltSpare = 0 then 4
  else if cx.risk.recalling.isSome then 5
  else 0

/-- R517: the score. -/
def State.riskScore (s : State) (cx : Context) : Nat :=
  if s.riskForce cx != 0 then 1023
  else Nat.min 1023 (s.riskDev + s.riskMem cx + s.riskLink cx + s.riskStock cx + cx.risk.hint.getD 0)

-- ---------------------------------------------------------------- the thresholds (R520, R521, R523)

/-- R521: EV_RISK. -/
def State.evRisk (s : State) (c : Nat) (cx : Context) (score : Nat) (started running nodest : Bool) : State :=
  let f := fun (b : Bool) (i : Nat) => if b then 2 ^ i else 0
  let t := fun (v : Nat) => Nat.min 1023 v
  s.bothEvent c 0x1B 0 [score + cx.risk.high * 2 ^ 10 + s.riskForce cx * 2 ^ 20 + f started 23 + f running 24 + f nodest 25,
    t s.riskDev + t (s.riskMem cx) * 2 ^ 16, t (s.riskLink cx) + t (s.riskStock cx) * 2 ^ 16, cx.risk.hint.getD 0]

/-- R523: a crossing, or CKPT_WANT, is held until its checkpoint is fixed. -/
def State.wantCkpt (s : State) (c : Nat) : State := s.modCtx c (fun x => { x with risk := { x.risk with want := true } })

/-- R520 to R523: a context's score at a commit, and what its crossing starts. -/
def State.scoreCtx (s : State) (c : Nat) : State :=
  match s.ctx? c with
  | none => s
  | some cx =>
    let v := s.riskScore cx
    let s1 := s.modCtx c (fun x => { x with risk := { x.risk with score := v } })
    if cx.risk.armed && cx.risk.high ≤ v then
      let running := cx.risk.running.isSome
      let nodest := cx.risk.dest.isNone
      let start := !running && !nodest
      let s2 := (s1.modCtx c (fun x => { x with risk := { x.risk with armed := false } })).evRisk c cx v start running nodest
      if !start then s2
      else
        let s3 := s2.wantCkpt c
        match cx.garment with
        | some g => s3.notifyAll g .ckptWant [g, s3.self]
        | none => s3
    else if !cx.risk.armed && v ≤ cx.risk.low then s1.modCtx c (fun x => { x with risk := { x.risk with armed := true } })
    else s1

/-- R517: step 1 of a commit scores every open context. -/
def State.scoreAll (s : State) : State := s.contexts.foldl (fun (a : State) p => a.scoreCtx p.1) s

/-- CKPT_WANT_RECEIVE, R523: every context of the garment here that has a destination and no checkpoint running holds it. -/
def execCkptWantReceive (gar member : Nat) (s : State) : Host.Outcome State Fault Refusal :=
  match FMap.get? s.garments gar with
  | none => .next s
  | some g =>
    if !g.members.contains member then .next s
    else .next (g.ctxs.foldl (fun (a : State) c =>
      match a.ctx? c with
      | some cx => if cx.risk.running.isNone && cx.risk.dest.isSome then a.wantCkpt c else a
      | none => a) s)

/-- R523: whether a REDUCE step of a context is OPEN, COMPLETE or SEALED. -/
def Context.stepRuns (cx : Context) : Bool :=
  [cx.train.buf0, cx.train.buf1].any (fun b => match b with | some st => st.unsettled | none => false)

/-- R522, R523: step 3 of a commit fixes a monitor checkpoint that a context holds, once no step and no turn stands in its way. -/
def State.monitorFix (s : State) (c : Nat) : State :=
  match s.ctx? c with
  | none => s
  | some cx =>
    if !cx.risk.want || cx.risk.running.isSome || cx.risk.restore.isSome || cx.stepRuns || s.inTurn c || cx.closing then s
    else
      let drop := s.modCtx c (fun x => { x with risk := { x.risk with want := false } })
      match cx.risk.dest with
      | none => drop
      | some d =>
        let d1 := { d with taken := d.taken + 1 }
        let id := (d.id + d1.taken) % 2 ^ 32
        match s.fixCkpt c .monitor none id d1 with
        | some s1 => s1
        | none => drop.evCkptEnd c stFenced .monitor 0 id 0 s.tick.number

-- ---------------------------------------------------------------- recall (R491, R536 to R538)

/-- R536: fixes a recall's checkpoint, at the latest at commit A + 256; a turn that still runs then ends. -/
def State.recallFix (s : State) (c : Nat) : State :=
  match (s.ctx? c).bind (fun cx => cx.risk.recalling.map (fun rc => (cx, rc))) with
  | none => s
  | some (cx, rc) =>
    let late := decide (rc.at_ + 256 ≤ s.tick.number)
    let wait := (cx.stepRuns || s.inTurn c) && !late
    if rc.fixed || cx.closing then s
    else if cx.risk.running.isNone && wait then s
    else
      let mark := fun (a : State) => a.modCtx c (fun x => { x with risk := { x.risk with recalling := some { rc with fixed := true } } })
      if cx.risk.running.isSome then mark s
      else
        let s1 := mark (s.endTurnsOf c)
        match s1.fixCkpt c .recalling none rc.id (cx.risk.newDest rc.dest rc.blocks rc.ports rc.id) with
        | some s2 => s2
        | none => s1.evCkptEnd c stFenced .recalling 0 rc.id 0 s.tick.number

/-- R491, R536: RECALL. R465 lists no BUSY for it: it runs during a restore too, and a second RECALL is a value the state forbids (log 39). -/
def actRecall (r : CmdReq) (s : State) : CmdResult :=
  let all := 2 ^ 32 - 1
  s.ctxCmd r .plain [(0x08, fld 0 10), (0x0C, all), (0x10, all), (0x14, all), (0x18, all), (0x1C, fld 0 2)] (fun c cx =>
    let notice := r.w 0x08
    if notice < 10 || 600 < notice || !destOk (r.d 0x10) (r.w 0x1C) then s.fail stBadParam
    else if cx.risk.recalling.isSome then s.fail stBadParam
    else
      let rc : Recall := { cmd := r.num, at_ := s.tick.number, deadline := s.commitInstant + notice * 1000000000, id := r.w 0x0C, dest := r.d 0x10,
                           blocks := r.w 0x18, ports := r.w 0x1C, fixed := false }
      ((s.modCtx c (fun x => { x with risk := { x.risk with recalling := some rc, score := 1023 } })).recallFix c).startedCmd)

/-- Command 0x83. -/
def rowRecall : CmdRow := { op := 0x83, mgmt := true, stages := false, act := actRecall }

/-- RECALL, R491. -/
def execRecall (r : CmdReq) (s : State) : Host.Outcome State Fault Refusal := .next (s.perform rowRecall r)

/-- R536, R537: the recall's close: RECALL completes with the identifier of the last complete checkpoint and whether the notice ran out. -/
def State.finishRecall (s : State) (c : Nat) (rc : Recall) (ranOut : Bool) : State :=
  let id := match (s.ctx? c).bind (fun cx => cx.risk.last) with | some d => d.id | none => 0
  let s1 := s.modCtx c (fun x => { x with risk := { x.risk with recalling := none } })
  (s1.beginClose c none).finishCmd rc.cmd stOk [id, if ranOut then 1 else 0]

/-- R537: closes a context whose recall is past its deadline. -/
def State.recallDeadline (s : State) (c : Nat) : State :=
  match (s.ctx? c).bind (fun cx => if cx.closing then none else cx.risk.recalling) with
  | none => s
  | some rc => if rc.deadline ≤ s.commitInstant then (s.stopCkpt c).finishRecall c rc true else s

/-- RECALL_DEADLINE, R537. -/
def execRecallDeadline (ctx : Nat) (s : State) : Host.Outcome State Fault Refusal := .next (s.recallDeadline ctx)

/-- R531, R536, R537: step 3 of a commit for a context's checkpoint and its recall: a checkpoint that has ended says so, a recall whose
checkpoint is complete closes the context, and so does one past its deadline; else what waits to be fixed is fixed. -/
def State.ckptStep3 (s : State) (c : Nat) : State :=
  match s.ctx? c with
  | none => s
  | some cx =>
    let ended := cx.risk.running.bind (fun k => k.ended)
    let s1 := match ended with | some st => s.endCkpt c st | none => s
    match cx.risk.recalling, ended with
    | some rc, some st => if st = stOk && rc.fixed then s1.finishRecall c rc false else s1.recallDeadline c
    | some _, none => (s1.recallDeadline c).recallFix c
    | none, _ => s1.monitorFix c

end Sys2Proof.Machine
end

