-- ==== Sys2Proof/Machine/Pools.lean ====
section
/-! DEFINITION. Redundancy pools and their events (R555), and the summary of corrected faults (R559). -/

namespace Sys2Proof.Machine

/-- R555: a pool as one number: 0 gusset, 1 Bolt, 2 link lane, 3 board, with the link that it belongs to in units of 4. -/
def poolKey (pool scope : Nat) : Nat := pool + 4 * scope

/-- R555, R414: whether a link's spare lane is spent. -/
def Link.spareSpent (k : Link) : Bool := k.spareFor.isSome || k.lanesOut.contains 8

/-- R555: the pools at level 0. -/
def State.emptyPools (s : State) : List Nat :=
  (if s.gussetLevel = 0 then [poolKey 0 0] else []) ++
  (if s.boltSpare = 0 then [poolKey 1 0] else []) ++
  (allLinks.filter (fun l => (s.link l).spareSpent)).map (poolKey 2) ++
  (if s.board.freeSpares.isEmpty then [poolKey 3 0] else [])

/-- EV_POOL_EMPTY (R557). -/
def State.evPool (s : State) (key : Nat) (refilled : Bool) : State :=
  s.mgmtEvent 0x02 0 0 [key % 4 + (if refilled then 2 ^ 3 else 0), key / 4]

/-- R555: a commit reports the pools that became empty and those that rose above 0. -/
def State.reportPools (s : State) : State :=
  let now := s.emptyPools
  let was := s.fences.poolEmpty
  let s1 := (now.filter (fun k => !was.contains k)).foldl (fun (a : State) k => a.evPool k false) s
  let s2 := (was.filter (fun k => !now.contains k)).foldl (fun (a : State) k => a.evPool k true) s1
  { s2 with fences := { s2.fences with poolEmpty := now } }

/-- R559: the four counts. -/
def Fences.counts (f : Fences) : List Nat := (List.range 4).map (fun k => FMap.getD f.ce k 0)

/-- R559: every 1,024 ticks the corrected faults since the last summary are reported, where there are any. -/
def State.ceSummary (s : State) : State :=
  if s.tick.number % 1024 != 0 || s.fences.counts.all (fun n => n = 0) then s
  else { s with fences := { s.fences with ce := [] } }.mgmtEvent 0x05 1 0 s.fences.counts

/-- EV_CE_SUMMARY, R559. -/
def execEvCeSummary (s : State) : Host.Outcome State Fault Refusal := if !s.isReady then .next s else .next s.ceSummary

end Sys2Proof.Machine
end

