-- ==== Sys2Proof/Machine/Admit.lean ====
section
/-! DEFINITION. The cutting table (chapter 03): estimates, the budget, heat, the order of admission, the placement plan (R31, R70) and the
admission of step 4 (R61 to R64). -/

namespace Sys2Proof.Machine

-- ---------------------------------------------------------------- clocks and times (R27, R64, R68)

/-- R68: k of a clock in MHz. -/
def clockFactor (mhz : Nat) : Rat := 3 / 5 + 2 / 5 * ((mhz : Rat) / 1800) ^ 2

/-- R27: the run phase, in ns, of a tick of period `ns` with a guard band of `guardUs` µs. -/
def runPhaseNs (ns guardUs : Nat) : Nat := ns - 1000 * guardUs - 20000

/-- The cycles that a clock gives in a time. -/
def cyclesIn (mhz ns : Nat) : Rat := (mhz : Rat) * ns / 1000

/-- R53: the guard band a device's own staged settings give tick `n`. -/
def TickState.guardAt (t : TickState) (n : Nat) : Nat :=
  match (t.staged.filter (fun e => e.at_ ≤ n)).getLast? with | some e => e.guardUs | none => t.guardUs

/-- R53, R54, R55: number and PERIOD_CODE of the next tick: those of the master's mark, where one came, or the device's own. -/
def TickState.following (t : TickState) : Nat × Nat :=
  match t.markNext with
  | some m => if t.isMaster then ((t.number + 1) % 2 ^ 48, t.codeAt (t.number + 1)) else (m.1 % 2 ^ 48, m.2)
  | none => ((t.number + 1) % 2 ^ 48, t.codeAt (t.number + 1))

/-- R71: the period of the next tick, in ns. -/
def TickState.nextNs (t : TickState) : Nat := 500000 + 125000 * t.following.2

/-- R64: the run phase of the next tick, in ns. -/
def TickState.nextRunNs (t : TickState) : Nat := runPhaseNs t.nextNs (t.guardAt t.following.1)

-- ---------------------------------------------------------------- estimates (R65, R67)

/-- R65: the stored estimate of a pair. -/
def Admission.stored (a : Admission) (c prog : Nat) : Option Estimate := a.estimates.find? (fun e => e.ctx = c && e.program = prog)

/-- R67: what a pair with no estimate starts from: energy in mJ, cycles. -/
def Prog.start (p : Prog) (runNs : Nat) : Rat × Rat :=
  (if p.energyHint = 0 then 8 * (runNs : Rat) / 1000000 else (p.energyHint : Rat) / 1000,
   if p.cyclesHint = 0 then cyclesIn 2100 runNs else (p.cyclesHint : Rat))

/-- R65, R67: the estimates of a stitch: e in mJ at 1.80 GHz, c in cycles. -/
def State.estimateOf (s : State) (st : Stitch) : Rat × Rat :=
  match s.adm.stored st.ctx st.program with
  | some e => (e.e, e.c)
  | none =>
    match (s.ctx? st.ctx).bind (fun cx => FMap.get? cx.progs st.program) with
    | some p => p.start s.tick.nextRunNs
    | none => (0, 0)

/-- The entry of a list that was admitted least recently. -/
def oldestEstimate : List Estimate → Option Estimate
  | [] => none
  | x :: t => match oldestEstimate t with
    | none => some x
    | some y => if x.last ≤ y.last then some x else some y

/-- R65: the store with a pair as admitted at commit `n`; a full store evicts the pair admitted least recently. -/
def Admission.admitPair (a : Admission) (e : Estimate) : Admission :=
  match a.stored e.ctx e.program with
  | some _ => { a with estimates := a.estimates.map (fun x => if x.ctx = e.ctx && x.program = e.program then { x with last := e.last } else x) }
  | none =>
    let kept := if a.estimates.length < 16384 + Config.moreEstimates then a.estimates
      else match oldestEstimate a.estimates with | some o => a.estimates.filter (· != o) | none => a.estimates
    { a with estimates := kept ++ [e] }

-- ---------------------------------------------------------------- the budget and heat (R69, R72, R73)

/-- R69: L × T of a tick of `ns`, in mJ. -/
def Admission.limitMj (a : Admission) (ns : Nat) : Rat := (a.limit : Rat) * 10 * ns / 1000000

/-- R69: Σ I_p × T, in mJ. -/
def State.idleMj (s : State) (ns : Nat) : Rat :=
  ((List.range Config.panels).map (fun p => (s.panel p).idleMw * ns / 1000000000)).foldl (· + ·) 0

/-- R69: the budget for a tick of `ns`, from the rails' energy as last measured and the excess carried. -/
def State.budget (s : State) (ns : Nat) : Rat :=
  let lt := s.adm.limitMj ns
  let f := s.adm.railsMj * ns / s.adm.measuredNs + s.idleMj ns
  max (lt / 4) (lt - (s.adm.reserve : Rat) / 100 * lt - f - s.adm.carry)

/-- The first terms of the series of e^x, the next term after them, and how many: from term `k` of value `term` on. -/
def expSum (x : Rat) : Nat → Nat → Rat → Rat → Rat × Rat
  | 0, _, term, sum => (sum, term)
  | fuel + 1, k, term, sum => expSum x fuel (k + 1) (term * x / (k + 1 : Nat)) (sum + term)

/-- Bounds of e^(-x) for a positive x: the series of e^x to 40 terms, and what the rest of it adds at most. -/
def decayBounds (x : Rat) : Rat × Rat :=
  let (sum, next) := expSum x 40 0 1 0
  (if x < 41 then 1 / (sum + next * 41 / (41 - x)) else 0, 1 / sum)

/-- R72: a = exp(-T / tau_p), for a tick of `ns`: how the Tailor rounds it, between two bounds of the exponential, is free (assumption 7). -/
def decayOver (ns tauUs : Nat) : Rat :=
  if tauUs = 0 then 0 else
  let b := decayBounds ((ns : Rat) / (1000 * tauUs : Nat))
  let a := Config.decay ns (1000 * tauUs)
  if b.1 ≤ a ∧ a ≤ b.2 ∧ 0 < a ∧ a < 1 then a else b.2

/-- R72: P_p, in W. -/
def State.panelWatts (s : State) (p ns : Nat) : Rat :=
  let x := s.panel p
  let a := decayOver ns x.tauUs
  ((s.adm.tlim : Rat) * 1000 - 2000 - (s.adm.inletMilliC : Rat) - ((x.hotspot : Rat) - s.adm.inletMilliC) * a) / (x.rMilliK * (1 - a))

/-- R73: H_p for a tick of `ns`, in mJ. -/
def State.heat (s : State) (p ns : Nat) : Rat :=
  (s.panel p).derate / 1000 * max 0 (s.panelWatts p ns - (s.panel p).idleMw / 1000) * ns / 1000000

/-- R82: the forecast of a panel's hotspot at the end of a tick of `ns` with a charge, by the model of R72, in thousandths of a degree. -/
def State.forecast (s : State) (p ns : Nat) (charge : Rat) : Rat :=
  let x := s.panel p
  let a := decayOver ns x.tauUs
  let watts := x.idleMw / 1000 + charge * 1000000 / ns
  s.adm.inletMilliC + ((x.hotspot : Rat) - s.adm.inletMilliC) * a + watts * x.rMilliK * (1 - a)

-- ---------------------------------------------------------------- the order (R60, R61)

/-- R61: whether one stitch comes before another. -/
def Stitch.before (a b : Stitch) : Bool :=
  b.cls < a.cls || (a.cls = b.cls && (a.age < b.age || (a.age = b.age && (a.ctx < b.ctx || (a.ctx = b.ctx && a.id < b.id)))))

/-- Puts a stitch in its place in the order. -/
def insertStitch (x : Stitch) : List Stitch → List Stitch
  | [] => [x]
  | y :: t => if x.before y then x :: y :: t else y :: insertStitch x t

/-- R61: the order of admission. -/
def admissionOrder (l : List Stitch) : List Stitch := l.foldl (fun a x => insertStitch x a) []

/-- Whether a list's head may be offered: it is not held, its completion has a slot (R449), and no step holds it (R387). -/
def State.listRuns (s : State) (cx : Context) (l : Nat) : Bool :=
  match FMap.get? s.lists l with
  | some ls => !ls.held && ls.slot && !cx.optHeld l
  | none => false

/-- R58, R330, R402, R473, R524: whether a pending stitch is offered to admission. -/
def State.offered (s : State) (st : Stitch) : Bool :=
  match s.ctx? st.ctx with
  | none => false
  | some cx =>
    cx.state = .open_ && !cx.closing && !cx.risk.held && st.heldFor.isNone && FMap.has cx.progs st.program &&
    (match st.list with | some l => s.listRuns cx l | none => true)

-- ---------------------------------------------------------------- filling the table (R62 to R64)

/-- The table while it is filled: what is left of the budget and of each panel's allowance, each needle's run time, where stitches were
placed (with the needle and the charge), what was skipped, and where the budget ended. -/
structure Table where
  plan : List PlanEntry
  budget : Rat
  heat : List Rat
  loads : FMap Rat
  placed : List (Stitch × Nat × Rat)
  skipped : List Stitch
  left : List Stitch
  /-- Bytes of the saves planned so far, by panel (R31). -/
  saves : FMap Nat
  /-- The next free value for the choice of a needle. -/
  fresh : Nat

/-- A panel's remaining allowance. -/
def Table.allowance (t : Table) (p : Nat) : Rat := t.heat.getD p 0

/-- R62: a panel is in PANEL_MASK; no bit set means any. -/
def Stitch.maySit (st : Stitch) (p : Nat) : Bool := st.panelMask = 0 || bit st.panelMask p

/-- R64: the needles of a context on a panel, by the plan, that are in service and have run time left. -/
def State.freeNeedles (s : State) (t : Table) (c p cap : Nat) : List Nat :=
  (t.plan.filter (fun e => e.ctx = c && e.needle / Config.needlesPerPanel = p)).map PlanEntry.needle |>.filter (fun n =>
    let nd := s.needle n
    !nd.fenced && !nd.selfTest && nd.fenceFrom.isNone && decide (FMap.getD t.loads n 0 < cyclesIn (s.panel p).mhz cap))

/-- R64: of some needles, the one with the least run time, the lower index on a tie. -/
def leastLoaded (loads : FMap Rat) : List Nat → Option Nat
  | [] => none
  | n :: rest => match leastLoaded loads rest with
    | none => some n
    | some m => if FMap.getD loads m 0 < FMap.getD loads n 0 || (FMap.getD loads m 0 = FMap.getD loads n 0 && m < n) then some m else some n

/-- R62: of some panels, the one with the largest remaining allowance, the lower number on a tie. -/
def Table.roomiest (t : Table) : List Nat → Option Nat
  | [] => none
  | p :: rest => match t.roomiest rest with
    | none => some p
    | some q => if t.allowance p < t.allowance q || (t.allowance p = t.allowance q && q < p) then some q else some p

/-- R68: a stitch's charge on a panel. -/
def State.charge (s : State) (st : Stitch) (p : Nat) : Rat := (s.estimateOf st).1 * clockFactor (s.panel p).mhz

/-- R62, R64: the panel and needle for a stitch, among those the plan gives its context. -/
def State.bestPlace (s : State) (t : Table) (cap : Nat) (st : Stitch) : Option (Nat × Nat) :=
  let ok := fun p => st.maySit p && decide (s.charge st p ≤ t.allowance p) && !(s.freeNeedles t st.ctx p cap).isEmpty
  match t.roomiest ((List.range Config.panels).filter ok) with
  | none => none
  | some p => (leastLoaded t.loads (s.freeNeedles t st.ctx p cap)).map (fun n => (p, n))

/-- A stitch placed on a needle. -/
def State.sit (s : State) (t : Table) (st : Stitch) (p n : Nat) : Table :=
  let ch := s.charge st p
  { t with
    budget := t.budget - ch
    heat := listSet t.heat p (t.allowance p - ch)
    loads := FMap.set t.loads n (FMap.getD t.loads n 0 + (s.estimateOf st).2)
    placed := t.placed ++ [(st, n, ch)] }

/-- R62, R63: takes the stitches in order; `grow` may give the context of one another needle first (R70). -/
def State.fillTable (s : State) (cap : Nat) (grow : Table → Stitch → Table) : List Stitch → Table → Table
  | [], t => t
  | st :: rest, t0 =>
    let t := grow t0 st
    match s.bestPlace t cap st with
    | none => s.fillTable cap grow rest { t with skipped := t.skipped ++ [{ st with skips := st.skips + 1 }] }
    | some (p, n) =>
      if t.budget < s.charge st p then { t with left := st :: rest } else s.fillTable cap grow rest (s.sit t st p n)

/-- An empty table for a tick of `ns`. -/
def State.newTable (s : State) (plan : List PlanEntry) (ns : Nat) : Table :=
  { plan := plan, budget := s.budget ns, heat := (List.range Config.panels).map (fun p => s.heat p ns), loads := [], placed := [],
    skipped := [], left := [], saves := [], fresh := s.freeCtr }

-- ---------------------------------------------------------------- the placement plan (R31, R70, R471, R543)

/-- R156: LIVE of a context, in bytes. -/
def Context.liveBytes (cx : Context) : Nat := 4096 * (cx.progs.map (fun p => p.2.live)).foldl Nat.max 0

/-- R32: bytes that a save of a needle takes: the live region and a tack of each live tile. -/
def State.saveBytes (s : State) (n : Nat) : Nat :=
  match (s.needle n).ctx.bind s.ctx? with
  | none => 0
  | some cx => cx.liveBytes + 196608 * ((s.needle n).tiles.filter (fun t => t.2.live)).length

/-- R31, R543, R569, R570: whether a context may hold a needle in the next tick. -/
def State.mayHold (s : State) (n c : Nat) : Bool :=
  let nd := s.needle n
  ((!nd.fenced && !nd.selfTest) || nd.testPassed) && nd.fenceFrom.isNone &&
  (match s.ctx? c with
   | some cx => nd.banks.all (fun b => decide (cx.liveMax * 4096 ≤ b * 0x40000))
   | none => false)

/-- R31, R70, R471: the needles that may be given to a stitch's context on a panel: idle, in no one's hands in this plan, within NEEDLES, and
with a save that fits the guard band at 4.0 TB/s. `own` asks for those that hold the context already. -/
def State.candidates (s : State) (t : Table) (st : Stitch) (own : Bool) (p : Nat) : List Nat :=
  let room := match s.ctx? st.ctx with
    | some cx => decide ((t.plan.filter (fun e => e.ctx = st.ctx)).length < cx.needles)
    | none => false
  if !room then []
  else
    ((List.range Config.needlesPerPanel).map (fun i => Config.needlesPerPanel * p + i)).filter (fun n =>
      let nd := s.needle n
      let mine := nd.ctx = some st.ctx
      nd.run.isNone && !t.plan.any (fun e => e.needle = n) && s.mayHold n st.ctx && mine == own &&
      (mine || decide (FMap.getD t.saves p 0 + s.saveBytes n ≤ 4000000 * s.tick.guardUs)))

/-- R70: gives the context of a stitch a needle where those it has in the plan do not take the stitch: one that it holds already where it can,
otherwise one that a free value picks. -/
def State.grant (s : State) (cap : Nat) (t : Table) (st : Stitch) : Table :=
  if (s.bestPlace t cap st).isSome then t
  else
    let ok := fun own p => st.maySit p && decide (s.charge st p ≤ t.allowance p) && !(s.candidates t st own p).isEmpty
    match t.roomiest ((List.range Config.panels).filter (ok true)), t.roomiest ((List.range Config.panels).filter (ok false)) with
    | some p, _ =>
      match s.candidates t st true p with
      | [] => t
      | n :: _ => { t with plan := t.plan ++ [{ needle := n, ctx := st.ctx }] }
    | none, some p =>
      let l := s.candidates t st false p
      let n := l.getD (Config.freeNat t.fresh % Nat.max 1 l.length) 0
      { t with
        plan := t.plan ++ [{ needle := n, ctx := st.ctx }]
        saves := FMap.set t.saves p (FMap.getD t.saves p 0 + s.saveBytes n)
        fresh := t.fresh + 1 }
    | none, none => t

/-- R31, R70: the placement plan for the next tick: busy needles keep their contexts, the pending stitches claim needles in the order of
admission under the budget of the last measurements, and an idle needle that none claims keeps its context. -/
def State.makePlan (s : State) : State :=
  let ns := s.tick.nextNs
  let busy := s.needles.filterMap (fun q => match q.2.run, q.2.ctx with
    | some _, some c => if s.mayHold q.1 c then some ({ needle := q.1, ctx := c } : PlanEntry) else none
    | _, _ => none)
  let t := s.fillTable s.tick.nextRunNs (s.grant s.tick.nextRunNs) (admissionOrder (s.adm.pending.filter s.offered)) (s.newTable busy ns)
  let kept := s.needles.filterMap (fun q => match q.2.ctx with
    | some c => if q.2.run.isNone && s.mayHold q.1 c && !t.plan.any (fun e => e.needle = q.1) then some ({ needle := q.1, ctx := c } : PlanEntry) else none
    | none => none)
  { s with adm := { s.adm with plan := t.plan ++ kept }, freeCtr := t.fresh }

-- ---------------------------------------------------------------- saving (R32, R156, R569)

/-- R156: the image whose needle its context left longest ago; of several left at one tick, the lowest needle's, which the manual leaves open
(assumption 75). -/
def oldestImage : FMap SaveImage → Option (Nat × SaveImage)
  | [] => none
  | x :: t => match oldestImage t with
    | none => some x
    | some y => if x.2.left ≤ y.2.left then some x else some y

/-- R156: what a save keeps of a tile: its control state, and its cells while it is live. -/
def Tile.saved (t : Tile) : Tile := if t.live then t else { t with cells := [] }

/-- R32, R156: saves a needle's live Sleeve region and live tiles to its context's save area. -/
def State.saveNeedle (s : State) (n : Nat) : State :=
  let nd := s.needle n
  match nd.ctx with
  | none => s
  | some c =>
    s.modCtx c (fun cx =>
      let im : SaveImage :=
        { sleeve := nd.sleeve.filter (fun b => decide (b.1 < cx.liveBytes)), 
          tiles := (nd.tiles.map (fun (t : Nat × Tile) => (t.1, t.2.saved))).filter (fun t => t.2 != Tile.cleared), left := s.tick.number }
      let kept := if FMap.has cx.images n || cx.images.length < cx.needles then cx.images
        else match oldestImage cx.images with | some o => FMap.del cx.images o.1 | none => cx.images
      { cx with images := FMap.set kept n im })

/-- R156, R569: the needles that save in this guard band: those whose context changes, and those that a command takes out of service. -/
def State.saving (s : State) : List Nat :=
  (s.needles.filter (fun q =>
    match q.2.ctx with
    | none => false
    | some c =>
      s.adm.plan.any (fun e => e.needle = q.1 && e.ctx != c) ||
      (match q.2.fenceFrom with | some k => decide (k < s.tick.number) && !q.2.fenced | none => false))).map Prod.fst

-- ---------------------------------------------------------------- the guard band (R30, R31)

/-- R30, R153: stitches that have not started go back to the pending set, and those that ended with nothing outstanding leave their
needles. -/
def State.returnUnstarted (s : State) : State :=
  let ovr := s.needles.filterMap (fun q => match q.2.run with
    | some r => if r.ended.isSome && !q.2.busy then some r else none
    | none => none)
  let back := s.needles.flatMap (fun q => q.2.admitted)
  { s with
    finished := s.finished ++ ovr
    adm := { s.adm with pending := s.adm.pending ++ back }
    needles := s.needles.map (fun (q : Nat × Needle) =>
      let idle : Bool := match q.2.run with | some r => r.ended.isSome && !q.2.busy | none => true
      (q.1, { q.2 with admitted := [], run := if idle then none else q.2.run })) }

/-- R29 to R32: C − G. -/
def State.guardBand (s : State) : State :=
  let s1 := s.returnUnstarted.makePlan
  let s2 := s1.saving.foldl (fun (a : State) n => a.saveNeedle n) s1
  { s2 with tick := { s2.tick with phase := .guardBand } }

-- ---------------------------------------------------------------- step 4 (R58, R60 to R64, R82, R85)

/-- R58: refuses the pending heads whose program the table has not. -/
def State.refuseUnknown (s : State) : State :=
  s.adm.pending.foldl (fun (a : State) st =>
    match st.list, a.ctx? st.ctx with
    | some l, some cx =>
      if cx.state = .open_ && st.heldFor.isNone && a.listRuns cx l && !FMap.has cx.progs st.program then a.refuseHead l stBadParam else a
    | _, _ => a) s

/-- R449: reserves a completion slot for the pending head of a list that has none. -/
def State.reserveSlot (s : State) (l : Nat) : State :=
  match FMap.get? s.lists l, (FMap.get? s.spools l).bind (fun sp => sp.owner) with
  | some ls, some c =>
    match s.ctx? c with
    | none => s
    | some cx =>
      match FMap.get? s.spools cx.cplSpool with
      | none => s
      | some cpl =>
        if ls.slot || cpl.free < s.owedTo (.context c) cx.cplSpool + 1 then s
        else (s.modCtx c (fun x => { x with owed := x.owed + 1 })).modList l (fun x => { x with slot := true })
  | _, _ => s

/-- R60, R251, R387: the heads of the lists become pending; a head that a step holds does not. -/
def State.readHeads (s : State) (unread : List (Nat × Nat)) : State :=
  (s.lists.map Prod.fst).foldl (fun (a : State) l =>
    let held := match (FMap.get? a.spools l).bind (fun sp => sp.owner) with
      | some c => (match a.ctx? c with | some cx => cx.closing || cx.optHeld l | none => true)
      | none => true
    let waiting := a.adm.pending.any (fun t => t.list = some l)
    if held then (if waiting then (a.unpend l).modList l (fun x => { x with headTaken := false, age := none }) else a)
    else if waiting then a.reserveSlot l
    else a.readHead l (match FMap.get? a.spools l with | some sp => unread.contains (l, sp.cidx) | none => false)) s

/-- R340: the steps of every context that takes part in admission, in place of those offered before; one that waits for a granule stays. -/
def State.offerAll (s : State) : State :=
  let s0 := { s with adm := { s.adm with pending := s.adm.pending.filter (fun t => t.list.isSome || t.heldFor.isSome) } }
  (s0.contexts.map Prod.fst).foldl (fun (a : State) c =>
    match a.ctx? c with
    | none => a
    | some cx =>
      if cx.closing || cx.risk.held then a
      else
        let (b, l) := a.offerSteps c
        { b with adm := { b.adm with pending := b.adm.pending ++ l } }) s0

/-- R59: every pending stitch at the class that its context's ceiling allows now. -/
def State.reclass (s : State) : State :=
  { s with adm := { s.adm with pending := s.adm.pending.map (fun t =>
      match s.ctx? t.ctx with | some cx => { t with cls := usedClass t.want cx.ceiling } | none => t) } }

/-- R65, R85, R349: what admission leaves for one stitch placed. -/
def State.admitStitch (s : State) (x : Stitch × Nat × Rat) : State :=
  let (st, n, ch) := x
  let (e, c) := s.estimateOf st
  let nd := s.needle n
  let s1 := (s.setNeedle n { nd with admitted := nd.admitted ++ [st] }).modCtx st.ctx (fun cx =>
    { cx with energy := { cx.energy with admitted := cx.energy.admitted + 1, chargedMj := cx.energy.chargedMj + ch } })
  let s2 := { s1 with adm := { s1.adm.admitPair { ctx := st.ctx, program := st.program, e := e, c := c, last := s1.tick.number } with
    pending := s1.adm.pending.filter (fun t => t.id != st.id) } }
  s2.giveStepPleats st.requests

/-- R85: a stitch-tick left pending. -/
def State.deferStitch (s : State) (st : Stitch) (byPlace : Bool) : State :=
  s.modCtx st.ctx (fun cx => { cx with energy :=
    if byPlace then { cx.energy with leftPlace := cx.energy.leftPlace + 1 } else { cx.energy with leftBudget := cx.energy.leftBudget + 1 } })

/-- R73, R82: what admission leaves of a panel: its forecast and whether it is HOT. -/
def State.panelAfter (s : State) (t : Table) (ns : Nat) (budget : Rat) (p : Nat) : State :=
  let sum := ((t.placed.filter (fun x => x.2.1 / Config.needlesPerPanel = p)).map (fun x => x.2.2)).foldl (· + ·) 0
  let f := roundUnits (s.forecast p ns sum / 1000)
  s.setPanel p { s.panel p with forecastC := Nat.min 255 f.toNat, hot := decide (s.heat p ns < budget / 6) }

/-- R61 to R64: step 4 of a commit. -/
def State.admission (s : State) (unread : List (Nat × Nat)) : State :=
  let s1 := (((s.releaseCkpts.readHeads unread).offerAll).refuseUnknown).reclass
  let ns := s1.tick.nextNs
  let t0 := s1.newTable s1.adm.plan ns
  let t := s1.fillTable s1.tick.nextRunNs (fun t _ => t) (admissionOrder (s1.adm.pending.filter s1.offered)) t0
  let s2 := t.placed.foldl (fun (a : State) x => a.admitStitch x) s1
  let s3 := t.skipped.foldl (fun (a : State) st => a.deferStitch st true) s2
  let s4 := t.left.foldl (fun (a : State) st => a.deferStitch st false) s3
  let skips := t.skipped.map Stitch.id
  let s5 := { s4 with adm := { s4.adm with
    pending := s4.adm.pending.map (fun x => if skips.contains x.id then { x with skips := x.skips + 1 } else x)
    budgetMj := t0.budget
    charged := (t.placed.map (fun x => x.2.2)).foldl (· + ·) 0
    admittedN := t.placed.length
    cutClass := match t.left with | st :: _ => st.cls | [] => 0
    stop := if !t.left.isEmpty then 1 else if !t.skipped.isEmpty then 2 else 0
    deferBudget := t.left.length
    deferPlace := t.skipped.length } }
  (List.range Config.panels).foldl (fun (a : State) p => a.panelAfter t ns t0.budget p) s5

end Sys2Proof.Machine
end

