-- ==== Sys2Proof/Machine/Cycles.lean ====
section
/-! DEFINITION. Wait cycles (R243 to R245): the edges of a commit, the chains among them, and their report. -/

namespace Sys2Proof.Machine

/-- R243: the stitches that a commit drops with a KWAIT outstanding, with the knots they waited on, in the order of admission. -/
def State.waiters (s : State) : List (Stitch × Nat) :=
  let l := s.needles.filterMap (fun p => match p.2.run, p.2.kwait with
    | some r, some w => if w.met.isNone then some (r.st, w.knot) else none
    | _, _ => none)
  (admissionOrder (l.map Prod.fst)).filterMap (fun st => (l.find? (fun x => x.1.id = st.id)))

/-- R243: the wait edges found, of which 1,024 are examined. -/
def State.waitEdges (s : State) : List WaitEdge := s.waiters.map (fun x => { ctx := x.1.ctx, program := x.1.program, knot := x.2 })

/-- R243: the signallers of the knot that an edge names. -/
def State.signallersOf (s : State) (e : WaitEdge) : List Signaller :=
  match FMap.get? s.knots (e.knot % 2 ^ 14) with
  | some k => if k.gen = e.knot / 2 ^ 14 then k.signallers else []
  | none => []

/-- R244: whether edge `b` may follow edge `a` in a chain. -/
def State.follows (s : State) (a b : WaitEdge) : Bool := (s.signallersOf a).contains (.here b.ctx b.program)

/-- R244: the chains of distinct edges, as their numbers in reverse, that extend a path by up to `n` edges. -/
def State.extendChain (s : State) (es : List WaitEdge) : Nat → List Nat → List (List Nat)
  | 0, path => [path]
  | n + 1, path =>
    match path.head?.bind (fun i => es[i]?) with
    | none => [path]
    | some a =>
      let more := (List.range es.length).filter (fun j => !path.contains j && (match es[j]? with | some b => s.follows a b | none => false))
      path :: more.flatMap (fun j => s.extendChain es n (j :: path))

/-- R244: every chain of 2 to 8 edges, in order. -/
def State.chains (s : State) (es : List WaitEdge) : List (List WaitEdge) :=
  let all := (List.range es.length).flatMap (fun i => s.extendChain es 7 [i])
  (all.filter (fun p => decide (2 ≤ p.length))).map (fun p => p.reverse.filterMap (fun i => es[i]?))

/-- R244: whether a chain closes on its first edge. -/
def State.closes (s : State) (c : List WaitEdge) : Bool :=
  match c.head?, c.getLast? with
  | some a, some z => s.follows z a
  | _, _ => false

/-- R244: whether a chain reaches a knot whose signallers are all remote. -/
def State.goesRemote (s : State) (c : List WaitEdge) : Bool :=
  match c.getLast? with
  | none => false
  | some z =>
    let l := s.signallersOf z
    !l.isEmpty && l.all (fun x => match x with | .remote _ _ => true | .here _ _ => false)

/-- Whether two chains have the same edges. -/
def sameEdges (a b : List WaitEdge) : Bool := a.length = b.length && a.all b.contains && b.all a.contains

/-- R244: the cycles and remote chains of this commit, each once. -/
def State.foundCycles (s : State) (es : List WaitEdge) : List (List WaitEdge × Bool) :=
  let cs := s.chains es
  let l := (cs.filter s.closes).map (fun c => (c, false)) ++ (cs.filter s.goesRemote).map (fun c => (c, true))
  l.foldl (fun (a : List (List WaitEdge × Bool)) x => if a.any (fun y => y.2 = x.2 && sameEdges y.1 x.1) then a else a ++ [x]) []

/-- R244: one cycle found at this commit joins those under watch: one found at the last commit too keeps its number. -/
def State.noteCycle (s : State) (old : List KnotCycle) (trunc : Bool) (x : List WaitEdge × Bool) : State :=
  let now := s.tick.number
  match old.find? (fun k => k.last + 1 = now && k.remote = x.2 && sameEdges k.edges x.1) with
  | some k => { s with cycles := s.cycles ++ [{ k with trunc := trunc, seen := k.seen + 1, last := now }] }
  | none =>
    let k : KnotCycle := { id := s.nextCycle, edges := x.1, remote := x.2, trunc := trunc, seen := 1, reported := false, last := now }
    { s with cycles := s.cycles ++ [k], nextCycle := s.nextCycle + 1 }

/-- R243, R244: step 1 of a commit finds the cycles. -/
def State.findCycles (s : State) : State :=
  let es := s.waitEdges
  (s.foundCycles (es.take 1024)).foldl (fun (a : State) x => a.noteCycle s.cycles (decide (1024 < es.length)) x) { s with cycles := [] }

/-- R245: EV_KNOT_CYCLE, to each edge's context. -/
def State.evKnotCycle (s : State) (k : KnotCycle) : State :=
  k.edges.foldl (fun (a : State) e =>
    a.ctxEvent e.ctx 0x12 0 [k.id % 2 ^ 32, k.edges.length + (if k.remote then 2 ^ 4 else 0) + (if k.trunc then 2 ^ 5 else 0), e.program, e.knot]) s

/-- R244: a cycle found at three commits in a row is reported once. -/
def State.reportCycles (s : State) : State :=
  let due := fun (k : KnotCycle) => decide (3 ≤ k.seen) && !k.reported
  let s1 := (s.cycles.filter due).foldl (fun (a : State) k => a.evKnotCycle k) s
  { s1 with cycles := s1.cycles.map (fun k => if due k then { k with reported := true } else k) }

/-- EV_KNOT_CYCLE, R244. -/
def execEvKnotCycle (s : State) : Host.Outcome State Fault Refusal := if !s.isReady then .next s else .next s.reportCycles

end Sys2Proof.Machine
end

