-- ==== Sys2Proof/Machine/Phases.lean ====
section
/-! DEFINITION. The instants of a tick (R29, R30 to R33, R40, R53 to R55): its begin, the run phase, the guard band and the cut-off. An event
that finds the tick at an earlier instant brings it through the ones between. -/

namespace Sys2Proof.Machine

-- ---------------------------------------------------------------- the begin of a tick

/-- R53: staged settings whose tick has come are in force. -/
def TickState.applyStaged (t : TickState) : TickState :=
  match (t.staged.filter (fun e => e.at_ ≤ t.number)).getLast? with
  | none => t
  | some e => { t with periodCode := e.period, guardUs := e.guardUs, staged := t.staged.filter (fun x => !decide (x.at_ ≤ t.number)) }

/-- R29, R48, R53 to R55: the next tick's number, period and guard band. Without a mark a member times itself. -/
def TickState.nextTick (t : TickState) : TickState :=
  let n := t.following.1
  { t with
    number := n
    periodCode := t.following.2
    guardUs := t.guardAt n
    staged := t.staged.filter (fun x => !decide (x.at_ ≤ n))
    phase := .admission
    freeRun := if t.markNext.isSome then false else if t.isMaster then t.freeRun else true
    startNs := t.startNs + t.periodNs
    cutoff := false
    leftMin := 1000 * (500 + 125 * t.following.2)
    markNext := none
    past := false }

/-- R75, R76: a panel that is still stretched when a tick ends: the rest of its time counts, and it is stretched from the new tick's start. -/
def Panel.nextTick (p : Panel) (periodNs : Nat) : Panel :=
  if p.stretched then { p with stretchNs := p.stretchNs + (periodNs - p.stretchAt), stretchAt := 0 } else p

/-- R31, R32, R136: a needle that changes context holds nothing of the old one, and restores the new one's image; one that is out of service
holds no context. -/
def State.takeContext (s : State) (n : Nat) : State :=
  let nd := s.needle n
  let want := (s.adm.plan.find? (fun e => e.needle = n)).map PlanEntry.ctx
  if nd.fenced then s.setNeedle n { nd with ctx := none, admitted := [] }
  else if want = nd.ctx then s
  else
    let base := { nd.emptied with admitted := nd.admitted, ctx := want }
    match want.bind s.ctx? with
    | none => s.setNeedle n base
    | some cx =>
      match FMap.get? cx.images n with
      | some im => s.setNeedle n { base with sleeve := im.sleeve, tiles := im.tiles }
      | none => s.setNeedle n base

/-- R31, R32: every needle that the plan names, or that holds a context, takes the plan's context. -/
def State.takeContexts (s : State) : State :=
  (dedup (s.needles.keys ++ s.adm.plan.map PlanEntry.needle)).foldl (fun (a : State) n => a.takeContext n) s

/-- R425: the epoch marks of a tick on the Selvedge ports: the sender's board, its hops to the reference and its offset from it, and the tick
number. -/
def State.sendEpochMarks (s : State) : State :=
  [16, 17, 18, 19].foldl (fun (a : State) l =>
    if a.portUp l then
      a.sendVia (some l) (a.farMember l) msgControl a.sendEpoch 0 (controlHead Notice.epochMark.code)
        [Notice.epochMark.code, a.board.boardId, a.board.refHops, (a.board.refOffset % 2 ^ 32).toNat, a.tick.number % 2 ^ 32, a.tick.number / 2 ^ 32]
    else a) s

/-- R29: tick N + 1 begins. -/
def State.tickBegin (s : State) : State :=
  let old := s.tick.periodNs
  let s1 := { s with
    tick := s.tick.nextTick
    cutPidx := []
    msixSent := []
    shadow := s.shadow ++ s.shadowNext
    shadowNext := []
    board := { s.board with steer := 0 } }
  let s2 := (List.range Config.panels).foldl (fun (a : State) p => a.setPanel p ((a.panel p).nextTick old)) s1
  let low := (List.range Config.panels).any (fun p => decide ((s2.panel p).governor < 16))
  let s3 := { s2 with adm := { s2.adm with
    governorActed := low
    governedAt := if low then some s2.tick.number else s2.adm.governedAt } }
  s3.switchLinkKeys.takeContexts.sendBeats.sendEpochMarks.startRecopies.writeTables.startMoves

/-- TICK_BEGIN, R29: only a commit's end begins a tick. -/
def execTickBegin (s : State) : Host.Outcome State Fault Refusal :=
  if !s.isReady || s.tick.phase != .commit then .next s else .next s.tickBegin

/-- TICK_PERIOD_CHANGE, R53. -/
def execTickPeriodChange (s : State) : Host.Outcome State Fault Refusal :=
  if !s.isReady then .next s else .next { s with tick := s.tick.applyStaged }

-- ---------------------------------------------------------------- the later instants

/-- R29: from the commit phase the next tick begins first; from the admission phase the run phase begins. -/
def State.toRun (s : State) : State :=
  let s1 := if s.tick.phase = .commit then s.tickBegin else s
  if s1.tick.phase = .admission then { s1 with tick := { s1.tick with phase := .run } } else s1

/-- RUN_PHASE_BEGIN, R29. -/
def execRunPhaseBegin (s : State) : Host.Outcome State Fault Refusal := if !s.isReady then .next s else .next s.toRun

/-- R29: C − G. -/
def State.toGuard (s : State) : State :=
  let s1 := s.toRun
  if s1.tick.phase = .run then s1.guardBand else s1

/-- GUARD_BAND_BEGIN, R29 to R32. -/
def execGuardBandBegin (s : State) : Host.Outcome State Fault Refusal := if !s.isReady then .next s else .next s.toGuard

/-- R40: C − 20 µs: what lies in the command spools belongs to this tick. -/
def State.toCutoff (s : State) : State :=
  let s1 := s.toGuard
  if s1.tick.cutoff then s1
  else { s1 with
    tick := { s1.tick with cutoff := true }
    cutPidx := (s1.spools.filter (fun p => p.2.kind = 0)).map (fun p => (p.1, p.2.pidx)) }

/-- COMMAND_CUTOFF, R40. -/
def execCommandCutoff (s : State) : Host.Outcome State Fault Refusal := if !s.isReady then .next s else .next s.toCutoff

end Sys2Proof.Machine
end

