-- ==== Sys2Proof/Machine/Measure.lean ====
section
/-! DEFINITION. What the Tailor measures by C (R66, R69, R76), the Tape (R390 to R392) and the admission trace (R84). -/

namespace Sys2Proof

/-- What one stitch ran; one that the telemetry does not name ran no cycle. -/
def CommitIn.runOf (m : CommitIn) (id : Nat) : StitchRun :=
  (m.runs.find? (fun x => x.stitch = id)).getD { stitch := id, busy := 0, cycles := 0, startNs := 0, tieNs := 0, waitNs := 0, stretch := 0 }

end Sys2Proof

namespace Sys2Proof.Machine

/-- The stitches that started in this tick, each with whether its needle still waits for it (R34). -/
def State.ranStitches (s : State) : List (RunStitch × Bool) :=
  s.finished.map (fun r => (r, false)) ++
  s.needles.filterMap (fun q => match q.2.run with | some r => some (r, q.2.busy) | none => none)

-- ---------------------------------------------------------------- droop and derate (R76, R82)

/-- R76: the time for which a panel's clock was stretched, up to C. -/
def Panel.stretchTotal (p : Panel) (c : Nat) : Nat := p.stretchNs + (if p.stretched then c - p.stretchAt else 0)

/-- R76, R82: a panel's derate and DROOP at a commit; a stretch that goes on counts from here toward the next one. -/
def Panel.derateStep (p : Panel) (c runNs : Nat) : Panel :=
  let t := p.stretchTotal c
  { p with
    derate := if runNs < 200 * t then Nat.max 500 (p.derate - 100) else if t = 0 then Nat.min 1000 (p.derate + 25) else p.derate
    droop := decide (t ≠ 0)
    stretchNs := 0
    stretchAt := if p.stretched then c else p.stretchAt }

/-- R76: every panel's derate. -/
def State.deratePanels (s : State) : State :=
  let run := runPhaseNs s.tick.periodNs s.tick.guardUs
  (List.range Config.panels).foldl (fun (a : State) p => a.setPanel p ((a.panel p).derateStep s.tick.commitNs run)) s

-- ---------------------------------------------------------------- energy (R66, R68, R69, R85)

/-- The stitches that ran on a panel. -/
def State.ranOn (s : State) (p : Nat) : List RunStitch :=
  (s.ranStitches.map Prod.fst).filter (fun r => r.needle / Config.needlesPerPanel = p)

/-- R68: a panel that ran no stitch gives its idle floor anew. -/
def State.idleFloors (s : State) (m : CommitIn) : State :=
  (List.range Config.panels).foldl (fun (a : State) p =>
    if (s.ranOn p).isEmpty then a.setPanel p { a.panel p with idleMw := (m.panelUj.getD p 0 : Rat) * 1000000 / s.tick.periodNs } else a) s

/-- R66: a stitch's share of its panel's energy, in mJ: what lies above the idle floor, by busy needle-cycles. -/
def State.shareMj (s : State) (m : CommitIn) (r : RunStitch) : Rat :=
  let p := r.needle / Config.needlesPerPanel
  let all : Nat := ((s.ranOn p).map (fun x => (m.runOf x.st.id).busy)).foldl (· + ·) 0
  let above := (m.panelUj.getD p 0 : Rat) / 1000 - (s.panel p).idleMw * s.tick.periodNs / 1000000000
  if all = 0 then 0 else above * (m.runOf r.st.id).busy / all

/-- The mean of some quantities. -/
def meanOf (l : List Rat) : Rat := l.foldl (· + ·) 0 / l.length

/-- R66: a pair's estimate after the stitches of it that finished. -/
def State.learn (s : State) (m : CommitIn) (done : List RunStitch) (e : Estimate) : Estimate :=
  let mine := done.filter (fun r => r.st.ctx = e.ctx && r.st.program = e.program)
  if mine.isEmpty then e
  else
    let energy : Rat := meanOf (mine.map (fun r => s.shareMj m r / clockFactor (s.panel (r.needle / Config.needlesPerPanel)).mhz))
    let cycles : Rat := meanOf (mine.map (fun r => ((m.runOf r.st.id).cycles : Rat)))
    { e with e := e.e + (energy - e.e) / 8, c := e.c + (cycles - e.c) / 8 }

/-- R66, R85: the measurements of tick N: estimates of the pairs with a finished stitch, and the energy measured for each context. -/
def State.measure (s : State) (m : CommitIn) : State :=
  let ran := s.ranStitches
  let done := (ran.filter (fun x => x.1.isFinished x.2)).map Prod.fst
  let s1 := { s with adm := { s.adm with estimates := s.adm.estimates.map (s.learn m done) } }
  let s2 := ran.foldl (fun (a : State) x => a.modCtx x.1.st.ctx (fun cx =>
    { cx with energy := { cx.energy with measuredMj := cx.energy.measuredMj + s.shareMj m x.1 } })) s1
  { (s2.idleFloors m).deratePanels with mod := { s2.mod with milliV := m.milliV } }

/-- R69: the module's energy of tick N, and the excess carried, under the limit in force after step 2. -/
def State.takeEnergy (s : State) (m : CommitIn) : State :=
  let e : Rat := (m.moduleUj : Rat) / 1000
  { s with adm := { s.adm with
    railsMj := (m.railsUj : Rat) / 1000
    measuredNs := s.tick.periodNs
    energyMj := e
    carry := max 0 (s.adm.carry / 2 + e - s.adm.limitMj s.tick.periodNs) } }

-- ---------------------------------------------------------------- the admission trace (R84)

/-- A quantity of mJ as a field of 16 bits, saturating. -/
def mj16 (q : Rat) : Nat := Nat.min 65535 (roundUnits q).toNat

/-- The panels that `p` selects, as a mask. -/
def State.panelMask (s : State) (p : Panel → Bool) : Nat :=
  ((List.range Config.panels).filter (fun i => p (s.panel i))).foldl (fun (a : Nat) i => a + 2 ^ i) 0

/-- R84: the record of this commit; MISSED is set as it is written. -/
def State.traceRecord (s : State) : List Byte :=
  let a := s.adm
  recordOf [s.tick.number % 2 ^ 32, s.tick.number / 2 ^ 32 % 2 ^ 16, mj16 a.budgetMj + mj16 a.charged * 2 ^ 16,
    mj16 a.energyMj + mj16 a.carry * 2 ^ 16,
    Nat.min 65535 a.admittedN + a.cutClass % 8 * 2 ^ 16 + a.stop % 4 * 2 ^ 19 + (if a.governorActed then 2 ^ 21 else 0) +
      s.panelMask (fun p => p.hot) * 2 ^ 22,
    Nat.min 65535 a.deferBudget + Nat.min 65535 a.deferPlace * 2 ^ 16, s.panelMask (fun p => p.droop), 0] 32

/-- R84: where the host has named a spool. -/
def State.traceAdmission (s : State) : State :=
  match s.adm.trace with
  | none => s
  | some i =>
    match FMap.get? s.spools i with
    | none => s
    | some sp =>
      s.emit { spool := i, gen := sp.gen, kind := .energyTrace, ctx := match sp.owner with | some c => c + 1 | none => 0, key := 0, bytes := s.traceRecord }

-- ---------------------------------------------------------------- the Tape (R390, R391)

/-- R390: a stitch's tag in its context. -/
def Train.tagOf (t : Train) (st : Stitch) : Nat :=
  match st.list with
  | none => if st.requests.isEmpty then 61 else 60
  | some _ => ((t.tapeMap.find? (fun p => p.1 = st.program)).map Prod.snd).getD 63

/-- What a context's stitches of this tick did, as the Tape counts them: the tag, the stitch, whether it finished, and its run. -/
structure TapeRun where
  tag : Nat
  needle : Nat
  finished : Bool
  run : StitchRun
  deriving DecidableEq, Repr

/-- The runs of a context. -/
def State.tapeRuns (s : State) (m : CommitIn) (c : Nat) (t : Train) : List TapeRun :=
  (s.ranStitches.filter (fun x => x.1.st.ctx = c)).map (fun x =>
    { tag := t.tagOf x.1.st, needle := x.1.needle, finished := x.1.isFinished x.2, run := m.runOf x.1.st.id })

/-- R391, R392: a run joins the totals of its tag and needle. -/
def addTotal (tick : Nat) (x : TapeRun) (l : List TapeTotal) : List TapeTotal :=
  let old := (l.find? (fun t => t.tag = x.tag && t.needle = x.needle)).getD
    { tag := x.tag, needle := x.needle, stitches := 0, dropped := 0, cycles := 0, waitNs := 0, firstTick := tick }
  let new : TapeTotal := { old with
    stitches := old.stitches + 1
    dropped := old.dropped + (if x.finished then 0 else 1)
    cycles := old.cycles + x.run.cycles
    waitNs := old.waitNs + x.run.waitNs }
  l.filter (fun t => !(t.tag = x.tag && t.needle = x.needle)) ++ [new]

/-- R391: the record of some runs of one tag. `needle` is none for the device record. -/
def tapeRecord (tick handle : Nat) (t : Train) (tag : Nat) (needle : Option Nat) (xs : List TapeRun) : List Byte :=
  let tots : List TapeTotal := t.totals.filter (fun x => x.tag = tag)
  let mine : List TapeTotal := match needle with | some n => tots.filter (fun (x : TapeTotal) => x.needle = n) | none => tots
  let sum := fun (f : TapeRun → Nat) => (xs.map f).foldl (· + ·) 0
  let least := fun (d : Nat) (l : List Nat) => match l with | [] => d | y :: r => r.foldl Nat.min y
  let ends := (xs.filter (fun x => x.finished)).map (fun x => x.run.tieNs)
  let cyc := sum (fun x => x.run.cycles)
  let phase := (mine.map (fun x => x.cycles)).foldl (· + ·) 0
  let first := least tick (tots.map (fun x => x.firstTick))
  let where_ := match needle with
    | some n => n % Config.needlesPerPanel * 2 ^ 7 + n / Config.needlesPerPanel * 2 ^ 13
    | none => 2 ^ 6
  recordOf [tick % 2 ^ 32, tick / 2 ^ 32 % 2 ^ 16, tag + where_, handle, t.lastStep % 2 ^ 32, (first - t.openedAt) % 2 ^ 32,
    least 0 (xs.map (fun x => x.run.startNs)) % 2 ^ 32,
    (if ends.isEmpty then 0xFFFFFFFF else ends.foldl Nat.max 0 % 2 ^ 32),
    Nat.min 65535 xs.length + Nat.min 65535 (xs.filter (fun x => !x.finished)).length * 2 ^ 16,
    cyc % 2 ^ 32, cyc / 2 ^ 32 % 2 ^ 32, Nat.min (2 ^ 32 - 1) (sum (fun x => x.run.stretch)), Nat.min (2 ^ 32 - 1) (sum (fun x => x.run.waitNs)),
    phase % 2 ^ 32, phase / 2 ^ 32 % 2 ^ 32, 0] 64

/-- R391: a context's records of this tick: the needle records by tag and needle, then the device records by tag. -/
def State.tapeRecords (s : State) (c : Nat) (t : Train) (xs : List TapeRun) : List (List Byte) :=
  let tags := (List.range 64).filter (fun g => xs.any (fun x => x.tag = g))
  let h := s.ctxHandleOf c
  tags.flatMap (fun g =>
    let mine := xs.filter (fun x => x.tag = g)
    ((List.range Config.needles).filter (fun n => mine.any (fun x => x.needle = n))).map (fun n =>
      tapeRecord s.tick.number h t g (some n) (mine.filter (fun x => x.needle = n)))) ++
  tags.map (fun g => tapeRecord s.tick.number h t g none (xs.filter (fun x => x.tag = g)))

/-- R391, R392: a context's totals, and its records where it has a Tape spool. -/
def State.tapeCtx (s : State) (m : CommitIn) (c : Nat) : State :=
  match s.ctx? c with
  | none => s
  | some cx =>
    let xs := s.tapeRuns m c cx.train
    let t := { cx.train with totals := xs.foldl (fun l x => addTotal s.tick.number x l) cx.train.totals }
    let s1 := s.modCtx c (fun x => { x with train := t })
    match t.tapeSpool.bind (fun i => (FMap.get? s.spools i).map (fun sp => (i, sp.gen))) with
    | none => s1
    | some (i, g) =>
      (s.tapeRecords c t xs).foldl (fun (a : State) b => a.emit { spool := i, gen := g, kind := .tape, ctx := c + 1, key := 0, bytes := b }) s1

/-- R391: every context's. -/
def State.tape (s : State) (m : CommitIn) : State := s.contexts.keys.foldl (fun (a : State) c => a.tapeCtx m c) s

end Sys2Proof.Machine
end

