-- ==== Sys2Proof/Machine/Completions.lean ====
section
/-! DEFINITION. Step 1 of a commit (R34 to R39, R241): stitches that finished and that are dropped, requests and steps. -/

namespace Sys2Proof.Machine

/-- R37: the selectors of the chunks that a finished stitch wrote flip. -/
def State.flipScratch (s : State) (id : Nat) : State :=
  (s.scratchWriters.filter (fun w => w.2.2.2 = id)).foldl (fun (a : State) w =>
    let key := w.2.1 * 2 ^ 32 + w.2.2.1
    a.modCtx w.1 (fun cx => { cx with
      selectors := if cx.selectors.contains key then cx.selectors.filter (· != key) else cx.selectors ++ [key] })) s

/-- R36, R155, R452: the status of a dropped stitch. -/
def RunStitch.dropStatus (r : RunStitch) : Nat :=
  match r.ended with
  | some (.faulted k _) => faultStatus k
  | some .withdrawn => stWithdrawn
  | _ => if r.withdraw then stWithdrawn else stLateDropped

/-- R452: the words of a run's completion. -/
def State.runWords (s : State) (r : RunStitch) (l : Nat) : List Nat :=
  let (fault, pc) := match r.ended with | some (.faulted k p) => (k, p) | _ => (0, 0)
  stitchWords r.user r.st.cls r.wroteOut r.remoteSent r.noncanon r.stockHold.isSome r.shFlags.toNat r.accFlags.toNat r.splits fault pc r.needle
    (spoolHandle (s.spoolGen l) l) r.st.entry

/-- R330: a stitch that met a HELD granule stays pending with its age and waits for the granule; one whose granule this commit has released already
(R331) is offered at once. -/
def State.waitGranule (s : State) (st : Stitch) (g : Nat × Nat) : State :=
  let held := match FMap.get? s.stock g.1 with
    | some k => (match FMap.getD k.states g.2 .resident with | .resident => false | _ => true)
    | none => false
  { s with adm := { s.adm with pending := s.adm.pending ++ [{ st with heldFor := if held then some g else none }] } }

/-- R36, R38, R155, R330: what follows the completion of a dropped stitch of a list. -/
def State.afterDrop (s : State) (r : RunStitch) (l : Nat) : State :=
  let clean := !r.wroteOut && !r.remoteSent
  let faulted : Bool := match r.ended with | some (.faulted _ _) => true | _ => false
  match r.stockHold, clean with
  | some g, true => s.waitGranule r.st g
  | _, _ =>
    let drops := ((FMap.get? s.lists l).map (fun x => x.drops)).getD 0 + 1
    let s1 := s.modList l (fun x => { x with drops := drops, headTaken := false })
    if r.st.repeatable && clean && !faulted && r.stockHold.isNone && decide (drops < 8) then s1 else s1.holdList l r.dropStatus

/-- R34 to R38, R388: the end of a stitch of a list. -/
def State.endListStitch (s : State) (r : RunStitch) (l : Nat) (ok : Bool) : State :=
  let c := r.st.ctx
  let s1 := s.putStitchEnd c l (if ok then stOk else r.dropStatus) r.st.program r.st.tag (s.runWords r l)
  if ok then (s1.advanceList l 1).optCommitted c l 1 else s1.afterDrop r l

/-- R403: from the baste to the finish of a turn, whether a context runs in the Basting layout. -/
def State.basting (s : State) (c : Nat) : Bool := s.turns.any (fun t => t.genCtx = c && t.phase = .basted)

/-- R341, R347, R330, R403: the end of a stitch that runs requests' steps. In the Basting layout USER 0xFFFF says that the step was not
taken. -/
def State.endStepStitch (s : State) (m : CommitIn) (r : RunStitch) (ok : Bool) : State :=
  if ok && r.user = 0xFFFF && s.basting r.st.ctx then s
  else if ok then r.st.requests.foldl (fun (a : State) i => (a.finishStep i m.logits).restartDraft i) s
  else match r.stockHold with
    | some g => s.waitGranule r.st g
    | none => s

/-- R239: a remote knot operation whose result did not come by C may have altered its knot before C, which counts as a write: whether it did
is not told here, a free value (assumption 72). -/
def State.knotsUnheard (s : State) (r : RunStitch) : RunStitch × State :=
  if r.unacked.any (fun m => m % 2 = 1) then
    let (x, s1) := s.drawUpTo 1
    ({ r with wroteOut := r.wroteOut || x = 1 }, s1)
  else (r, s)

/-- R34 to R37, R371: the end of a stitch at the commit. -/
def State.endStitch (s0 : State) (m : CommitIn) (x : RunStitch × Bool) : State :=
  let (r, s) := s0.knotsUnheard x.1
  let ok := r.isFinished x.2
  let s1 := (if ok then s.flipScratch r.st.id else s).sendContribNotices r ok
  match r.st.list with
  | some l => s1.endListStitch r l ok
  | none => s1.endStepStitch m r ok

/-- R39: the object that orders a stitch within its context. -/
def Stitch.objectKey (st : Stitch) : Nat := match st.list with | some l => l | none => 2 ^ 20 + st.id

/-- Puts a stitch in its place by object. -/
def insertRan (x : RunStitch × Bool) : List (RunStitch × Bool) → List (RunStitch × Bool)
  | [] => [x]
  | y :: t => if y.1.st.objectKey ≤ x.1.st.objectKey then y :: insertRan x t else x :: y :: t

/-- R39: step 1 for one context: refused entries, steps, stitches, requests, and the steps that are done. -/
def State.completeCtx (s : State) (m : CommitIn) (ran : List (RunStitch × Bool)) (c : Nat) : State :=
  let lists := s.lists.keys.filter (fun l => (FMap.get? s.spools l).bind (fun sp => sp.owner) = some c)
  let s1 := (lists.foldl (fun (a : State) l => a.settleRefused l) s).stepsStep1 c
  let mine := (ran.filter (fun x => x.1.st.ctx = c)).foldl (fun l x => insertRan x l) []
  let s2 := mine.foldl (fun (a : State) x => a.endStitch m x) s1
  let reqs := (s2.requests.filter (fun p => p.2.ctx = c)).map Prod.fst
  (reqs.foldl (fun (a : State) i => a.reqStep1 i) s2).finishSteps c

/-- R241: arrivals at barriers that have not filled are withdrawn. -/
def State.withdrawArrivals (s : State) : State :=
  { s with knots := s.knots.map (fun p => (p.1, match p.2.state with
      | .barrier t _ ph => { p.2 with state := .barrier t 0 ph, arrivals := [] }
      | _ => p.2)) }

/-- R49, R241: nothing that a stitch started outlives the commit. -/
def Needle.cleared (nd : Needle) : Needle :=
  { nd with run := none, xPend := [], mq := [], vq := [], kwait := none, knotOps := [], d0 := [], d1 := [] }

/-- R49: every needle's, and what the stitches wrote to scratch. -/
def State.clearRuns (s : State) : State :=
  { s with needles := s.needles.map (fun p => (p.1, p.2.cleared)), finished := [], scratchWriters := [] }

/-- R39: step 1. -/
def State.commitStep1 (s : State) (m : CommitIn) : State :=
  let ran := s.ranStitches
  let s1 := (s.measure m).releaseGranules.tape m
  let s2 := s1.contexts.keys.foldl (fun (a : State) c => a.completeCtx m ran c) s1
  ((s2.applyShadows 1).withdrawArrivals.findCycles.reportCycles.scoreAll.turnsStep1).clearRuns

end Sys2Proof.Machine
end

