-- ==== Sys2Proof/Machine/WinCmds.lean ====
section
/-! DEFINITION. The commands of the Prosor window (R508 to R514): how each is rebuilt as an Olukor command, its checks and its completion. -/

namespace Sys2Proof

open Sys2Proof.Machine

/-- Word `i` of a window command. -/
def WinReq.w (q : WinReq) (i : Nat) : Nat := (q.words.getD i 0).toNat

/-- R504: the fields of a window command. -/
def WinReq.op (q : WinReq) : Nat := bits (q.w 0) 0 8
def WinReq.seq (q : WinReq) : Nat := bits (q.w 0) 8 8
def WinReq.blocks (q : WinReq) : Nat := bits (q.w 1) 8 8
def WinReq.addr (q : WinReq) : Nat := q.w 2 + bits (q.w 1) 0 8 * 2 ^ 32
/-- ARGi. -/
def WinReq.arg (q : WinReq) (i : Nat) : Nat := q.w (3 + i)

/-- R512: the block of WEIGHT_LOAD that the window's form stands for: a head of 32 bytes and the descriptor of R222. -/
def WinReq.loadBlock (q : WinReq) : List Byte :=
  let src := 512 * q.arg 1
  let head := [bits (q.arg 0) 0 1, bits (q.arg 0) 16 10, 0, 0, 0, 0, 0, 0]
  let desc := [src % 2 ^ 32, src / 2 ^ 32, q.arg 3, q.arg 4, 512, bits (q.arg 2) 0 24, 512, 512, 0x33]
  wordsLE (head ++ desc ++ List.replicate 23 0)

/-- R512: whether the arguments of a window load are in range. -/
def WinReq.loadOk (q : WinReq) : Bool := q.arg 0 % 2 ^ 16 < 2 && q.arg 0 < 2 ^ 26 && q.arg 2 < 2 ^ 24 && q.arg 2 != 0

end Sys2Proof

namespace Sys2Proof.Machine

/-- R511: how a window command carries its parameters. -/
inductive WinForm where
  | bare | args | words | block | out | argsOut | load
  deriving DecidableEq, Repr

/-- A row of R511: W_OPCODE, how it carries its parameters, the Olukor command, and the limit of the last column. -/
structure WinRow where
  op : Nat
  form : WinForm
  row : CmdRow
  limit : State → CmdReq → Bool

/-- R510, R511: whether the window command's own bits and PB_BLOCKS are in range. -/
def State.winFormOk (s : State) (q : WinReq) (w : WinRow) : Bool :=
  q.w 0 < 2 ^ 16 && q.w 1 < 2 ^ 16 && q.w 2 % 2 ^ 9 = 0 &&
  (match w.form with
   | .words => q.blocks != 0
   | .block =>
     (match Sys2Proof.Machine.blockBytes w.row.op (fun _ => 0) (fun off => Mem.readLE s.host (q.addr + off) 4) with
      | some n => n ≤ 512 * q.blocks
      | none => true)
   | .load => q.loadOk
   | _ => true)

/-- R511: the Olukor command that the device builds: CTX 0, CMD_TAG the sequence number. -/
def State.winBuild (s : State) (q : WinReq) (w : WinRow) : CmdReq :=
  let args := (List.range 5).map q.arg
  let area := [q.addr % 2 ^ 32, q.addr / 2 ^ 32]
  -- the words at 0x04, 0x08 to 0x2C, 0x30 to 0x38 and 0x3C
  let mid : List Nat := match w.form with
    | .args => args | .argsOut => args
    | .words => (List.range 10).map (fun i => Mem.readLE s.host (q.addr + 4 * i) 4)
    | _ => []
  let tail : List Nat := match w.form with
    | .out => area ++ [512 * q.blocks] | .argsOut => area ++ [512 * q.blocks]
    | .block => area
    | _ => []
  let words := [0] ++ mid ++ List.replicate (10 - mid.length) 0 ++ tail ++ List.replicate (4 - tail.length) 0
  let block : List Byte := match w.form with
    | .block =>
      (match Sys2Proof.Machine.blockBytes w.row.op (fun _ => 0) (fun off => Mem.readLE s.host (q.addr + off) 4) with
       | some n => Mem.readN s.host q.addr n
       | none => [])
    | .load => q.loadBlock
    | _ => []
  { origin := .window q.ctx q.ctx, port := q.port, num := s.nextCmd, opcode := w.row.op, tag := q.seq, reserved := 0,
    params := words.map (BitVec.ofNat 32), block := block,
    readFailed := q.readFailed && (w.form = .words || w.form = .block) }

/-- R510: the checks 1 to 3 and 5, with the limits of R511. -/
def State.winGate (s : State) (q : WinReq) (w : Option WinRow) : Option Nat :=
  if s.thimble.approved then some stNotApproved
  else if !FMap.has s.contexts q.ctx then some stStale
  else if !s.window.enable.getLsbD q.ctx then some stDenied
  else match w with
    | none => some stBadOpcode
    | some w => if !s.winFormOk q w || !w.limit s (s.winBuild q w) then some stBadParam else none

/-- What a window command leaves: the state, the command as it was built, and its status and results unless it runs on. -/
abbrev WinResult := State × CmdReq × Option (Nat × List Nat)

/-- R510: a window command's effect. -/
def State.winAttempt (s : State) (q : WinReq) (w : WinRow) : WinResult :=
  let r := s.winBuild q w
  match s.winGate q (some w) with
  | some st => (s, r, some (st, []))
  | none =>
    let s1 := { s with nextCmd := s.nextCmd + 1 }
    let (s2, res) := s1.attempt w.row r
    (s2, r, res)

/-- R507: a long-running window command stays outstanding under its number. -/
def State.winStarted (s : State) (c num : Nat) : State :=
  { s with window := { s.window with
      outstanding := s.window.outstanding.map (fun x => if x.ctx = c then { x with started := some num } else x) } }

/-- R513: the completion of a window command, or its place among the long-running ones. -/
def State.winSettle (p : WinResult) (q : WinReq) (w : WinRow) : State :=
  match p.2.2 with
  | some (st, res) => (p.1.countStale st).winDone q.ctx q.seq st w.op res
  | none => { p.1 with running := p.1.running ++ [p.2.1] }.winStarted q.ctx p.2.1.num

/-- R507: a window command is outstanding until its entry is written. -/
def State.winNote (s : State) (q : WinReq) : State :=
  if s.window.busyCtx q.ctx then s
  else
    let x : WinCmd := { ctx := q.ctx, words := q.words, port := q.port, at_ := s.tick.number, started := none }
    { s with window := { s.window with outstanding := s.window.outstanding ++ [x] } }

/-- R508, R510: applies a window command. -/
def State.winPerform (s : State) (q : WinReq) (w : WinRow) : State :=
  let s1 := s.winNote q
  State.winSettle (s1.winAttempt q w) q w

/-- What a row of the window does. -/
def runWin (w : WinRow) (q : WinReq) (s : State) : Host.Outcome State Fault Refusal :=
  if 64 ≤ q.ctx then .fault .noSuchUnit else if !s.isReady then .next s else .next (s.winPerform q w)

/-- R511: no limit. -/
def noLimit (_ : State) (_ : CmdReq) : Bool := true

/-- R511: REQ_OPEN through the window: no garment request, and a bobbin of 8-byte records. -/
def limitReqOpen (s : State) (r : CmdReq) : Bool :=
  !bit (r.bw 0) 27 &&
  (match FMap.get? s.spools (r.bw 4 % 2 ^ 20) with
   | some sp => sp.gen != r.bw 4 / 2 ^ 20 || sp.esize = 0
   | none => true)

/-- R511: SPOOL_OPEN through the window. -/
def limitSpoolOpen (_ : State) (r : CmdReq) : Bool :=
  let kind := r.f 0x20 8 4
  r.w 0x0C < 2 ^ 8 && r.w 0x14 < 2 ^ 8 && (kind = 4 || (kind = 3 && r.f 0x20 0 3 = 0))

/-- R511: the rows. -/
def winNop : WinRow := { op := 0x01, form := .bare, row := rowNop, limit := noLimit }
def winDevInfo : WinRow := { op := 0x02, form := .out, row := rowDevInfo, limit := noLimit }
def winCtxPause : WinRow := { op := 0x03, form := .bare, row := rowCtxPause, limit := noLimit }
def winCtxResume : WinRow := { op := 0x04, form := .bare, row := rowCtxResume, limit := noLimit }
def winCtxSegmentSet : WinRow := { op := 0x05, form := .words, row := rowCtxSegmentSet, limit := noLimit }
def winProgSet : WinRow := { op := 0x06, form := .words, row := rowProgSet, limit := noLimit }
def winPatternSet : WinRow := { op := 0x07, form := .block, row := rowPatternSet, limit := noLimit }
def winPatternClose : WinRow := { op := 0x08, form := .args, row := rowPatternClose, limit := noLimit }
def winListHold : WinRow := { op := 0x09, form := .args, row := rowListHold, limit := noLimit }
def winListRelease : WinRow := { op := 0x0A, form := .args, row := rowListRelease, limit := noLimit }
def winWeightLoad : WinRow := { op := 0x0B, form := .load, row := rowWeightLoad, limit := noLimit }
def winGenCfg : WinRow := { op := 0x0C, form := .words, row := rowGenCfg, limit := noLimit }
def winReqOpen : WinRow := { op := 0x0D, form := .block, row := rowReqOpen, limit := limitReqOpen }
def winReqPause : WinRow := { op := 0x0E, form := .args, row := rowReqPause, limit := noLimit }
def winReqResume : WinRow := { op := 0x0F, form := .args, row := rowReqResume, limit := noLimit }
def winReqCancel : WinRow := { op := 0x10, form := .args, row := rowReqCancel, limit := noLimit }
def winKnotOpen : WinRow := { op := 0x11, form := .args, row := rowKnotOpen, limit := noLimit }
def winKnotSet : WinRow := { op := 0x12, form := .args, row := rowKnotSet, limit := noLimit }
def winKnotRead : WinRow := { op := 0x13, form := .argsOut, row := rowKnotRead, limit := noLimit }
def winKnotClose : WinRow := { op := 0x14, form := .args, row := rowKnotClose, limit := noLimit }
def winSpoolOpen : WinRow := { op := 0x15, form := .words, row := rowSpoolOpen, limit := limitSpoolOpen }
def winSpoolClose : WinRow := { op := 0x16, form := .args, row := rowSpoolClose, limit := noLimit }

/-- R511: the window's commands. -/
def winTable : List WinRow :=
  [winNop, winDevInfo, winCtxPause, winCtxResume, winCtxSegmentSet, winProgSet, winPatternSet, winPatternClose, winListHold, winListRelease,
   winWeightLoad, winGenCfg, winReqOpen, winReqPause, winReqResume, winReqCancel, winKnotOpen, winKnotSet, winKnotRead, winKnotClose,
   winSpoolOpen, winSpoolClose]

/-- WIN_NOP, R508, R510, R511. -/
def execWinNop (w : WinReq) (s : State) : Host.Outcome State Fault Refusal := runWin winNop w s

/-- WIN_DEV_INFO, R508, R510, R511. -/
def execWinDevInfo (w : WinReq) (s : State) : Host.Outcome State Fault Refusal := runWin winDevInfo w s

/-- WIN_CTX_PAUSE, R508, R510, R511. -/
def execWinCtxPause (w : WinReq) (s : State) : Host.Outcome State Fault Refusal := runWin winCtxPause w s

/-- WIN_CTX_RESUME, R508, R510, R511. -/
def execWinCtxResume (w : WinReq) (s : State) : Host.Outcome State Fault Refusal := runWin winCtxResume w s

/-- WIN_CTX_SEGMENT_SET, R508, R510, R511. -/
def execWinCtxSegmentSet (w : WinReq) (s : State) : Host.Outcome State Fault Refusal := runWin winCtxSegmentSet w s

/-- WIN_PROG_SET, R508, R510, R511. -/
def execWinProgSet (w : WinReq) (s : State) : Host.Outcome State Fault Refusal := runWin winProgSet w s

/-- WIN_PATTERN_SET, R508, R510, R511. -/
def execWinPatternSet (w : WinReq) (s : State) : Host.Outcome State Fault Refusal := runWin winPatternSet w s

/-- WIN_PATTERN_CLOSE, R508, R510, R511. -/
def execWinPatternClose (w : WinReq) (s : State) : Host.Outcome State Fault Refusal := runWin winPatternClose w s

/-- WIN_LIST_HOLD, R508, R510, R511. -/
def execWinListHold (w : WinReq) (s : State) : Host.Outcome State Fault Refusal := runWin winListHold w s

/-- WIN_LIST_RELEASE, R508, R510, R511. -/
def execWinListRelease (w : WinReq) (s : State) : Host.Outcome State Fault Refusal := runWin winListRelease w s

/-- WIN_WEIGHT_LOAD, R508, R510, R511. -/
def execWinWeightLoad (w : WinReq) (s : State) : Host.Outcome State Fault Refusal := runWin winWeightLoad w s

/-- WIN_GEN_CFG, R508, R510, R511. -/
def execWinGenCfg (w : WinReq) (s : State) : Host.Outcome State Fault Refusal := runWin winGenCfg w s

/-- WIN_REQ_OPEN, R508, R510, R511. -/
def execWinReqOpen (w : WinReq) (s : State) : Host.Outcome State Fault Refusal := runWin winReqOpen w s

/-- WIN_REQ_PAUSE, R508, R510, R511. -/
def execWinReqPause (w : WinReq) (s : State) : Host.Outcome State Fault Refusal := runWin winReqPause w s

/-- WIN_REQ_RESUME, R508, R510, R511. -/
def execWinReqResume (w : WinReq) (s : State) : Host.Outcome State Fault Refusal := runWin winReqResume w s

/-- WIN_REQ_CANCEL, R508, R510, R511. -/
def execWinReqCancel (w : WinReq) (s : State) : Host.Outcome State Fault Refusal := runWin winReqCancel w s

/-- WIN_KNOT_OPEN, R508, R510, R511. -/
def execWinKnotOpen (w : WinReq) (s : State) : Host.Outcome State Fault Refusal := runWin winKnotOpen w s

/-- WIN_KNOT_SET, R508, R510, R511. -/
def execWinKnotSet (w : WinReq) (s : State) : Host.Outcome State Fault Refusal := runWin winKnotSet w s

/-- WIN_KNOT_READ, R508, R510, R511. -/
def execWinKnotRead (w : WinReq) (s : State) : Host.Outcome State Fault Refusal := runWin winKnotRead w s

/-- WIN_KNOT_CLOSE, R508, R510, R511. -/
def execWinKnotClose (w : WinReq) (s : State) : Host.Outcome State Fault Refusal := runWin winKnotClose w s

/-- WIN_SPOOL_OPEN, R508, R510, R511. -/
def execWinSpoolOpen (w : WinReq) (s : State) : Host.Outcome State Fault Refusal := runWin winSpoolOpen w s

/-- WIN_SPOOL_CLOSE, R508, R510, R511. -/
def execWinSpoolClose (w : WinReq) (s : State) : Host.Outcome State Fault Refusal := runWin winSpoolClose w s

/-- R508: the window command that a doorbell left, as it takes effect. -/
def WinCmd.req (x : WinCmd) : WinReq := { ctx := x.ctx, port := x.port, words := x.words, readFailed := false }

/-- R513: the bytes of a completion entry. -/
def WinDone.bytes (d : WinDone) : List Byte :=
  recordOf ([d.seq + d.status * 2 ^ 8 + d.op * 2 ^ 16, d.commit % 2 ^ 32, d.commit / 2 ^ 32 % 2 ^ 16] ++
    (d.results ++ List.replicate (5 - d.results.length) 0).take 5) 64

/-- R513: after C of the commit the entries are written, and their commands are outstanding no longer. -/
def State.writeWinDone (s : State) : State :=
  s.window.done.foldl (fun (a : State) d =>
    { a with
      host := match a.window.page with | some p => Mem.writeN a.host (p + 64 * d.ctx) d.bytes | none => a.host
      window := { a.window with
        seq := FMap.set a.window.seq d.ctx d.seq
        outstanding := a.window.outstanding.filter (fun x => x.ctx != d.ctx) } }) { s with window := { s.window with done := [] } }

end Sys2Proof.Machine
end

