-- ==== Sys2Proof/Machine/Tables.lean ====
section
/-! DEFINITION. Step 2 of a commit (R39, R45): the staging commands of the tick, and the tables that become current. -/

namespace Sys2Proof.Machine

-- ---------------------------------------------------------------- the opcode table (R465)

/-- R465: the commands. -/
def cmdTable : List CmdRow :=
  [rowNop, rowDevInfo, rowTickSet, rowPowerLimit, rowEnergyTrace, rowEnergyRead, rowCtxOpen, rowCtxClose, rowCtxPause, rowCtxResume,
   rowCtxSegmentSet, rowCtxPriority, rowProgSet, rowHemGrant, rowHemRevoke, rowPatternSet, rowPatternRead, rowPatternClose] ++
  [rowListHold, rowListRelease, rowWeightLoad, rowStockMap, rowStockUnmap, rowGenCfg, rowReqOpen, rowReqPause, rowReqResume, rowReqCancel,
   rowDraftSet, rowStepBegin, rowStepMode, rowAccEvery, rowLedgerRead, rowReshard] ++
  [rowCkptSave, rowCkptRestore, rowRiskSet, rowRecall, rowKnotOpen, rowKnotSet, rowKnotRead, rowKnotClose, rowKnotCycles, rowSpoolOpen,
   rowSpoolRead, rowSpoolClose, rowGarmentOpen, rowGarmentClose, rowArraySet, rowSpareSet, rowSpareSubstitute] ++
  [rowPatchStage, rowPatchActivate, rowNeedleFence, rowChannelMove, rowLaneRecal, rowGussetSet, rowThimbleUpdate, rowTapeSet, rowTapeRead,
   rowArbCounters, rowLinkStatus, rowMemStatus, rowMemLogRead, rowMemScrub, rowMemPpr, rowMemLaneSet, rowBoltInstall, rowBoltRemove,
   rowBoltStatus]

/-- R447: the row of a fetched command: an opcode that the table has not ends with BAD_OPCODE. -/
def rowOf (op : Nat) : CmdRow :=
  (cmdTable.find? (fun r => r.op = op)).getD { op := op, mgmt := false, stages := false, act := fun _ s => s.fail stBadOpcode }

/-- The row of a window command. -/
def winRowOf (op : Nat) : Option WinRow := winTable.find? (fun w => w.op = op)

-- ---------------------------------------------------------------- the commands of a tick (R39 to R41, R508)

/-- R40, R41: the commands of this tick, in the order of their fetch: of the management owner, or of one context. -/
def State.commandsOf (s : State) (o : Origin) : List CmdReq :=
  (s.fetched.filter (fun p => decide (p.1 ≤ s.tick.number) && p.2.origin = o)).map Prod.snd

/-- R508: the window command of a context that takes effect at this commit, unless it has done so already. -/
def State.windowOf (s : State) (c : Nat) : Option WinCmd :=
  s.window.outstanding.find? (fun x => x.ctx = c && decide (x.at_ ≤ s.tick.number) && x.started.isNone && !s.window.done.any (fun d => d.ctx = c))

/-- What step 2 found of the staging commands, for their completions in step 3: by number, and of a context's window command. -/
structure Kept where
  own : List (Nat × Option (Nat × List Nat))
  win : List (Nat × CmdReq × Option (Nat × List Nat))

/-- R39, R45: the commands of one spool that stage a table. -/
def State.stageOwn (s : State) (k : Kept) (o : Origin) : State × Kept :=
  ((s.commandsOf o).filter (fun r => (rowOf r.opcode).stages)).foldl (fun (a : State × Kept) r =>
    let (s1, res) := a.1.attempt (rowOf r.opcode) r
    (s1, { a.2 with own := a.2.own ++ [(r.num, res)] })) (s, k)

/-- R39, R45, R508: the window command of a context, where it stages a table. -/
def State.stageWin (s : State) (k : Kept) (c : Nat) : State × Kept :=
  match s.windowOf c with
  | none => (s, k)
  | some x =>
    match winRowOf x.req.op with
    | none => (s, k)
    | some w =>
      if !w.row.stages then (s, k)
      else
        let (s1, r, res) := s.winAttempt x.req w
        (s1, { k with win := k.win ++ [(c, r, res)] })

/-- R39, R45: the staging commands of this tick: the management owner's, then each context's. -/
def State.stageCommands (s : State) : State × Kept :=
  let p := s.stageOwn { own := [], win := [] } .mgmt
  p.1.contexts.keys.foldl (fun (a : State × Kept) c =>
    let b := a.1.stageWin a.2 c
    b.1.stageOwn b.2 (.context c)) p

-- ---------------------------------------------------------------- the switch (R45)

/-- R45: a staged entry becomes current. -/
def State.applyEntry (s : State) : Staged → State
  | .seg c i d => s.modCtx c (fun x => { x with segs := if d.valid then FMap.set x.segs i d else FMap.del x.segs i })
  | .prog c id p => s.modCtx c (fun x =>
    { x with progs := (match p with | some v => FMap.set x.progs id v | none => FMap.del x.progs id), progVersion := x.progVersion + 1 })
  | .ceiling c v => s.modCtx c (fun x => { x with ceiling := v })
  | .genCfg c g => s.modCtx c (fun x => { x with genCfg := some g })
  | .draft r d => s.applyDraft r d
  | .stepMode c m => s.modCtx c (fun x => { x with train := { x.train with mode := m } })
  | .accEvery c n => s.modCtx c (fun x => { x with train := { x.train with accEvery := n } })
  | .tape c sp pairs => s.modCtx c (fun x => { x with train := { x.train with tapeSpool := sp, tapeMap := pairs } })
  | .power l r t => { s with adm := { s.adm with limit := l, reserve := r, tlim := t } }
  | .freq p code => s.setPanel p { s.panel p with freqCode := code }
  | .risk c h l hint => s.modCtx c (fun x => { x with risk := { x.risk with high := h, low := l, hint := hint } })
  | .spareMask m => { s with board := { s.board with spareMask := m } }
  | .winEnable hi v => { s with window := { s.window with enable := putHalf s.window.enable hi v } }
  | .winPage hi v =>
    { s with window :=
      if hi then { s.window with pageHi := BitVec.ofNat 32 v } else { s.window with pageLo := BitVec.ofNat 32 v } }

/-- Puts a staged entry behind those of its context and of lower ones. -/
def insertStaged (e : Staged) : List Staged → List Staged
  | [] => [e]
  | x :: t => if x.ctx ≤ e.ctx then x :: insertStaged e t else e :: x :: t

/-- R40, R81, R82: what POWER_CFG and PANEL_THERMn read: a write that waits for the next tick, or else what is in force. -/
def State.restage (s : State) : State :=
  let s1 := { s with adm := { s.adm with
    limitStaged := s.adm.limit
    reserveStaged := s.adm.reserve
    tlimStaged := s.adm.tlim
    panels := s.adm.panels.map (fun (p : Nat × Panel) => (p.1, { p.2 with freqStaged := p.2.freqCode })) } }
  s1.shadowNext.foldl (fun (a : State) (e : Staged) => match e with
    | .power l r t => { a with adm := { a.adm with limitStaged := l, reserveStaged := r, tlimStaged := t } }
    | .freq p code => a.setFreq p code
    | _ => a) s1

/-- R39, R45: the shadow copies become current, by context and then in command order. -/
def State.switchTables (s : State) : State :=
  ((s.shadow.foldl (fun l e => insertStaged e l) []).foldl (fun (a : State) e => a.applyEntry e) { s with shadow := [] }).restage

/-- R292, R294: the staged Patterns that are zeroed become current. -/
def State.activatePatterns (s : State) : State :=
  s.contexts.foldl (fun (a : State) p =>
    (p.2.patternStages.filter (fun q => (q.2.zeroed).elim false (fun n => decide (n ≤ s.tick.number)))).foldl (fun (b : State) q => b.activatePattern p.1 q.1 q.2) a) s

/-- R39: step 2. -/
def State.commitStep2 (s : State) : State × Kept :=
  let (s1, k) := s.stageCommands
  let s2 := (s1.commitTailor.activatePatterns.commitMoves.switchTables.applyShadows 2).turnsStep2.commitSubs
  (s2.contexts.keys.foldl (fun (a : State) c => a.applyRestore c) s2, k)

end Sys2Proof.Machine
end

