-- ==== Sys2Proof/Machine/Thermal.lean ====
section
/-! DEFINITION. Temperatures, supply droop and the cap governor (R72 to R78, R275, R607, R608, R618). -/

namespace Sys2Proof.Machine

/-- Replaces a sensor's reading (R618). -/
def State.sensor (s : State) (id : Nat) (v : Int) : State :=
  { s with mod := { s.mod with sensors := FMap.set s.mod.sensors id v } }

/-- Whether the die has power (R605, R608, R614, R615). -/
def State.dieRuns (s : State) : Bool := match s.mod.state with | .unpowered => false | .held => false | .thermtrip => false | _ => true

-- ---------------------------------------------------------------- temperatures (R72, R74, R275, R607, R608)

/-- R275: what a die's temperature asks for; each action is removed 3 °C below its threshold. -/
def Die.at_ (d : Die) (t : Nat) : Die :=
  { tempC := t, refresh2 := 85 ≤ t || (d.refresh2 && 82 < t), slow := 95 ≤ t || (d.slow && 92 < t) }

/-- A die that was not read yet. -/
def Die.cold : Die := { tempC := 0, refresh2 := false, slow := false }

/-- R275: a reading of one of a stack's twelve dies. -/
def State.dieTemp (s : State) (k die t : Nat) : State :=
  let c := s.controller k
  let s1 := s.setController k { c with dies := FMap.set c.dies die ((FMap.getD c.dies die Die.cold).at_ t) }
  if 105 ≤ t then s1.thermtrip else s1

/-- DIE_TEMP_READ, R275. -/
def execDieTempRead (stk die tempC : Nat) (s : State) : Host.Outcome State Fault Refusal :=
  if 24 ≤ stk || 12 ≤ die then .fault .noSuchUnit
  else if !s.dieRuns then .next s else .next (s.dieTemp stk die tempC)

/-- R72, R74: a panel's hottest hotspot. -/
def State.hotspotRead (s : State) (p : Nat) (v : Int) : State :=
  let s1 := s.setPanel p { s.panel p with hotspot := v }
  if 110000 ≤ v then s1.thermtrip else s1

/-- HOTSPOT_READ, R72. -/
def execHotspotRead (panel : Nat) (milliC : Int) (s : State) : Host.Outcome State Fault Refusal :=
  if Config.panels ≤ panel then .fault .noSuchUnit
  else if !s.dieRuns then .next s else .next (s.hotspotRead panel milliC)

/-- COOLANT_MEASURE, R607: the inlet is the temperature of R72; `flow` is in hundredths of a litre per minute. -/
def execCoolantMeasure (inletMilliC outletMilliC : Int) (flow : Nat) (s : State) : Host.Outcome State Fault Refusal :=
  if !s.mod.v48 then .next s
  else
    .next (((({ s with adm := { s.adm with inletMilliC := inletMilliC } }.sensor 0x10 (inletMilliC / 100)).sensor 0x11 (outletMilliC / 100)).sensor
      0x12 flow))

/-- SENSOR_REFRESH, R618, R608: the readings of the Chalk; a Bolt die at 95 °C trips. -/
def execSensorRefresh (centiVolts deciAmps watts : Nat) (boltC : Int) (s : State) : Host.Outcome State Fault Refusal :=
  if !s.mod.v48 then .next s
  else
    let s1 := ((s.sensor 0x01 centiVolts).sensor 0x02 deciAmps).sensor 0x03 watts
    if !s.dieRuns then .next s1
    else
      let s2 := s1.sensor 0x31 boltC
      .next (if 95 ≤ boltC then s2.thermtrip else s2)

-- ---------------------------------------------------------------- droop (R75, R76)

/-- DROOP_DETECT, R75: the rail fell below 94 %: the panel's clock is stretched from the instant `at_` of the tick, in ns. -/
def execDroopDetect (panel at_ : Nat) (s : State) : Host.Outcome State Fault Refusal :=
  if Config.panels ≤ panel then .fault .noSuchUnit
  else
    let p := s.panel panel
    if !s.isReady || p.stretched then .next s else .next (s.setPanel panel { p with stretched := true, stretchAt := at_ })

/-- DROOP_RECOVER, R75: the rail is above 97 % again. -/
def execDroopRecover (panel at_ : Nat) (s : State) : Host.Outcome State Fault Refusal :=
  if Config.panels ≤ panel then .fault .noSuchUnit
  else
    let p := s.panel panel
    if !s.isReady || !p.stretched then .next s
    else .next (s.setPanel panel { p with stretched := false, stretchNs := p.stretchNs + (at_ - p.stretchAt) })

-- ---------------------------------------------------------------- the cap governor (R77, R78)

/-- R77: the threshold in mW: 1.05 L, and never above 3.6 kW. -/
def Admission.capMw (a : Admission) : Nat := Nat.min (a.limit * 10500) 3600000

/-- R77: the governor lowers every panel's clock to a factor of its choice, from 4/16 up, and never above the one in force. R76 does
not say whether this counts as stretched time for d_p and DROOP: it does not here (assumption 25). -/
def State.govern (s : State) : State :=
  let cur := (List.range Config.panels).foldl (fun (m : Nat) p => Nat.min m (s.panel p).governor) 16
  let (d, s1) := s.drawUpTo (Nat.min 15 cur - 4)
  let f := 4 + d
  let s2 := (List.range Config.panels).foldl (fun (a : State) p => a.setPanel p { a.panel p with governor := f }) s1
  { s2 with adm := { s2.adm with governorActed := true, governedAt := some s2.tick.number } }

/-- GOVERNOR_ACT, R77: the window's mean, in mW. -/
def execGovernorAct (meanMw : Nat) (s : State) : Host.Outcome State Fault Refusal :=
  if !s.isReady || meanMw ≤ s.adm.capMw then .next s else .next s.govern

/-- GOVERNOR_RESTORE, R77: the window's mean has fallen below L. -/
def execGovernorRestore (meanMw : Nat) (s : State) : Host.Outcome State Fault Refusal :=
  if !s.isReady || s.adm.limit * 10000 ≤ meanMw then .next s
  else .next ((List.range Config.panels).foldl (fun (a : State) p => a.setPanel p { a.panel p with governor := 16 }) s)

end Sys2Proof.Machine
end

