-- ==== Sys2Proof/Machine/Commit.lean ====
section
/-! DEFINITION. Steps 3 and 4 of a commit, what follows them (R39, R42), and COMMIT. -/

namespace Sys2Proof.Machine

-- ---------------------------------------------------------------- commands (R39, R44, R447)

/-- R44, R447: a command of this tick takes effect and completes; one that staged a table in step 2 completes here. -/
def State.runCmd (s : State) (k : Kept) (r : CmdReq) : State :=
  let s1 := { s with fetched := s.fetched.filter (fun p => p.2.num != r.num) }
  match k.own.find? (fun p => p.1 = r.num) with
  | none => State.settle (s1.attempt (rowOf r.opcode) r) r
  | some p =>
    match s1.gate (rowOf r.opcode) r with
    | some st => State.settle (s1.fail st) r
    | none => State.settle (s1, p.2) r

/-- R508, R510: a context's window command takes effect and completes. -/
def State.runWindow (s : State) (k : Kept) (c : Nat) : State :=
  match s.windowOf c with
  | none => s
  | some x =>
    let q := x.req
    match winRowOf q.op with
    | none => s.winDone c q.seq ((s.winGate q none).getD stBadOpcode) q.op []
    | some w =>
      match k.win.find? (fun p => p.1 = c) with
      | some p => State.winSettle (s, p.2) q w
      | none => State.winSettle (s.winAttempt q w) q w

/-- R39: step 3 for one context: what it lost, its checkpoint, and its commands in doorbell order. -/
def State.ctxCommands (s : State) (k : Kept) (c : Nat) : State :=
  let s1 := ((s.pauseLosses c).ckptStep3 c).runWindow k c
  (s1.commandsOf (.context c)).foldl (fun (a : State) r => a.runCmd k r) s1

/-- R448: the completions of long-running commands that end at this commit. -/
def State.finishDue (s : State) : State :=
  s.due.foldl (fun (a : State) d => a.finishCmd d.1 d.2.1 d.2.2) { s with due := [] }

/-- R39, R44: what ends of itself at this commit, before the commands. -/
def State.naturalEnds (s : State) : State :=
  let s1 := s.switchThimble.finishDue.turnLosses.turnsStep3.settleOpens.settleRestores
  let s2 := s1.commitInstalls.commitFills.limitHolds.fillTimeouts.garmentsLive.garmentTimeouts
  (s2.endTrainings.loseChannels.commitNeedles.commitUpdate.commitLosses.applyShadows 3).closeFatal

/-- R39: step 3. -/
def State.commitStep3 (s : State) (k : Kept) : State :=
  let s1 := s.openMgmt.naturalEnds
  let s2 := (s1.commandsOf .mgmt).foldl (fun (a : State) r => a.runCmd k r) s1
  let s3 := s2.contexts.keys.foldl (fun (a : State) c => a.ctxCommands k c) s2
  s3.clearHostPoison.closeFailedSpools.startWantedMoves.closeMgmt.endCloses

-- ---------------------------------------------------------------- what a commit leaves (R42, R82, R421, R440, R443, R618)

/-- R421: the board's master marks the next tick on every Thread link. -/
def State.sendMarks (s : State) : State :=
  if !s.tick.isMaster then s
  else
    let (n, code) := s.tick.following
    (List.range 16).foldl (fun (a : State) l =>
      if (a.link l).carries then
        a.sendVia (some l) (a.farMember l) msgControl a.sendEpoch 0 (controlHead Notice.mark.code) [Notice.mark.code, n % 2 ^ 32, n / 2 ^ 32, code, n % 256]
      else a) s

/-- R443: the state that a context's page shows: 0 none, 1 open, 2 paused, 3 quiesced, and WAITING of R433. -/
def State.pageWord (s : State) (c : Nat) : Word :=
  match s.ctx? c with
  | none => 0
  | some cx =>
    let st := match cx.state with | .open_ => 1 | .paused => 2 | .quiesced => 3
    BitVec.ofNat 32 (st + (if s.waits cx then 4 else 0))

/-- R440, R443, R436: the registers that a commit updates. -/
def State.showRegisters (s : State) : State :=
  let s1 := (dedup (s.pages.keys ++ s.contexts.keys)).foldl (fun (a : State) c =>
    a.setPage (some c) { a.page (some c) with ctxStatus := a.pageWord c }) s
  { s1 with
    mgmtPage := { s1.mgmtPage with ctxStatus := if s1.mgmt.isOpen then 1 else 0 }
    devStatus := BitVec.ofNat 32 s1.devWord
    boardState := BitVec.ofNat 32 s1.boardWord
    tick := { s1.tick with committed := true, past := true } }

/-- R82, R618: the temperatures that a commit takes. -/
def State.takeTemps (s : State) : State :=
  let s1 := (List.range Config.panels).foldl (fun (a : State) p =>
    let c := roundUnits (((a.panel p).hotspot : Rat) / 1000)
    (a.setPanel p { a.panel p with tempC := Nat.min 255 c.toNat }).sensor (0x20 + p) c) s
  let dies := s1.controllers.flatMap (fun k => k.2.dies.map (fun d => d.2.tempC))
  match dies with
  | [] => s1
  | d :: t => s1.sensor 0x30 (t.foldl max d)

/-- R42: after step 4: the trace, pools and summary, every record due, the links, and the registers. -/
def State.afterCommit (s : State) : State :=
  let s1 := s.traceAdmission.reportPools.ceSummary.writeWinDone.flushAll
  let s2 := ({ s1 with closedNow := [] }.endMoves.repairOffline.takeTemps.electMaster.sendMarks.keepBasting.dropDead).commitArray
  s2.showRegisters

/-- R39: commit N. -/
def State.commit (s : State) (m : CommitIn) : State :=
  let s1 := { s.endLining with tick := { s.tick with phase := .commit } }
  let s1a := m.deadMirrors.foldl (fun (a : State) p => a.recopyChunk p.1 p.2) (s1.takeCorrections m.corrected)
  let s2 := s1a.expireHolds.dropUsers.countBeats.declareSilent
  let (s3, k) := (s2.commitStep1 m).commitStep2
  let s4 := (s3.takeEnergy m).commitStep3 k
  (s4.admission m.unread).afterCommit

/-- COMMIT, R29, R39. -/
def execCommit (m : CommitIn) (s : State) : Host.Outcome State Fault Refusal :=
  if !s.isReady then .next s else .next (s.toCutoff.commit m)

end Sys2Proof.Machine
end

