-- ==== Sys2Proof/Machine/Module.lean ====
section
/-! DEFINITION. The module: power, resets, cold bring-up and the management bus (chapter 25). -/

namespace Sys2Proof.Machine

-- ---------------------------------------------------------------- power and resets (R604, R605, R608, R609)

/-- R267, R287: what a stack keeps of a channel over a reset: its hard repairs. The rest comes from the repair record at training. -/
def Channel.kept (c : Channel) : Channel := { Channel.trained with hppr := c.hppr }

/-- R587, R582: what the Thimble keeps over a reset: the slots, the OWR, MODE and its pending record, both firmware slots and the record
counters. Serial numbers of keys are never given twice. -/
def Thimble.kept (t0 : Thimble) : Thimble :=
  let t := t0.switchSlot
  { Thimble.reset with
    slots := t.slots
    owr := t.owr
    modeApproved := t.modeApproved
    modeNext := t.modeNext
    fwActive := t.fwActive
    fwVersions := t.fwVersions
    version := t.version
    counters := t.counters
    nextKey := t.nextKey
    nextSession := t.nextSession }

/-- R615, R618: the module's pins, and the Chalk's own state, over a reset. -/
def Module.kept (m : Module) (st : ModState) : Module :=
  { Module.reset with
    state := st
    v48 := m.v48
    pwrOk := m.pwrOk
    modResetN := m.modResetN
    perst0N := m.perst0N
    perst1N := m.perst1N
    thermtripN := m.thermtripN
    failCause := if st = .thermtrip then m.failCause else 0
    sensors := m.sensors.filter (fun p => !dieSensor p.1)
    staticAddr := m.staticAddr
    dynAddr := m.dynAddr
    ibi := m.ibi
    eids := FMap.del (FMap.del m.eids 1) 2
    milliV := m.milliV
    pldm := m.pldm }

/-- R577, R587, R605, R609: the device without its die: what persists, everything else as after reset. Host memory is the host's. -/
def State.powerDown (s : State) (st : ModState) : State :=
  { State.reset with
    pending := s.pending
    freeCtr := s.freeCtr
    host := s.host
    channels := s.channels.map (fun (p : Nat × Channel) => (p.1, p.2.kept))
    repair := s.repair
    bolt0 := s.bolt0
    bolt1 := s.bolt1
    images := s.images
    tailor := { Tailor.reset with service := s.tailor.service }
    thimble := s.thimble.kept
    board := { Board.reset with array := s.board.array }
    mod := s.mod.kept st }

/-- R605, R608, R609: the module goes to HELD; a latched THERMTRIP_N stays. One DOWN heartbeat leaves on every link that carries flits (R427). -/
def State.hold (s : State) : State :=
  if !s.mod.v48 then s
  else
    let a := s.powerDown (if s.mod.thermtripN then .held else .thermtrip)
    { a with board := { a.board with outgoing := (s.beats true).board.outgoing.drop s.board.outgoing.length } }

/-- PWR_OK_FALL, R605. -/
def execPwrOkFall (s : State) : Host.Outcome State Fault Refusal := .next { s with mod := { s.mod with pwrOk := false } }.hold

/-- INPUT_VOLTAGE_FAULT, R604: as PWR_OK falling. -/
def execInputVoltageFault (s : State) : Host.Outcome State Fault Refusal := .next s.hold

/-- MOD_RESET_ASSERT, R609: for 10 us or more. -/
def execModResetAssert (s : State) : Host.Outcome State Fault Refusal := .next { s with mod := { s.mod with modResetN := false } }.hold

/-- INPUT_48V_APPLIED, R615, R617: the Chalk starts; its static address follows the POS_ID straps. -/
def execInput48vApplied (posId : Nat) (s : State) : Host.Outcome State Fault Refusal :=
  if s.mod.v48 then .next s
  else .next { s with mod := { s.mod with v48 := true, state := .held, staticAddr := 0x30 + posId % 16 } }

/-- INPUT_48V_REMOVED, R605, R608: the Chalk stops and THERMTRIP_N is released. -/
def execInput48vRemoved (s : State) : Host.Outcome State Fault Refusal :=
  let a := s.powerDown .unpowered
  .next { a with mod := { Module.reset with
    pwrOk := s.mod.pwrOk
    modResetN := s.mod.modResetN
    perst0N := s.mod.perst0N
    perst1N := s.mod.perst1N } }

-- ---------------------------------------------------------------- bring-up (R612 to R614)

/-- BRINGUP_START, R612, R417: PWR_OK and MOD_RESET_N are both high: the straps are sampled and step 1 begins. The host ports whose PERSTn_N
is high train. -/
def State.startBringup (s : State) (posId boardId : Nat) : State :=
  let a := s.powerDown (.step 1)
  let bad := (9 ≤ posId % 16 && posId % 16 ≤ 14) || 2 ≤ boardId / 16 % 4
  { a with
    board := { a.board with
      strapPos := posId % 16
      boardId := boardId % 16
      boardHi := boardId / 16 % 4
      posId := if bad then 0xF else posId % 16 }
    mod := { a.mod with pwrOk := true, modResetN := true, port0 := a.mod.perst0N, port1 := a.mod.perst1N } }

/-- BRINGUP_START, R612: not without 48 V, nor while THERMTRIP_N is latched. -/
def execBringupStart (posId boardId : Nat) (s : State) : Host.Outcome State Fault Refusal :=
  if !s.mod.v48 || !s.mod.thermtripN then .next s else .next (s.startBringup posId boardId)

/-- R601: a reference missing at step 1 leaves the device on its own: no link trains. -/
def State.stepPower (s : State) (refOk : Bool) : State :=
  if refOk || s.board.posId = 0xF then s
  else { s with mod := { s.mod with refLost := 1 }, board := { s.board with posId := 0xF } }

/-- R577, R596: MODE as the Thimble reads it: a mode record takes effect; a change of mode destroys the OWR, and ZEROISE clears the owner's
slots and the record counters. -/
def Thimble.readMode (t : Thimble) : Thimble :=
  match t.modeNext with
  | none => { t with approved := t.modeApproved }
  | some (a, z) =>
    let t1 := { t with modeNext := none, approved := a, modeApproved := a, owr := if a = t.modeApproved then t.owr else none }
    if z then { t1 with slots := t1.slots.filter (fun p => decide (p.1 < 16)), counters := [] } else t1

/-- R582: the device data key and the shared-stock key are generated. -/
def Thimble.generate (t : Thimble) : Thimble :=
  { t with deviceKey := some t.nextKey, stockKey := some (t.nextKey + 1), nextKey := t.nextKey + 2 }

/-- R19, R565, R613: the clusters that booted, and the overlay of the service area where its signature verifies. -/
def State.stepTailor (s : State) (a b : Bool) : State :=
  let ok : Bool := match s.tailor.service with | some o => s.checkOverlay o = stOk | none => false
  let t := { s.tailor with
    clusterA := if a then .active else .fenced
    clusterB := if !b then .fenced else if a then .standby else .active
    activeB := !a
    active := if ok then s.tailor.service else none }
  { s with tailor := t }

/-- R271, R272, R298, R613: a channel at bring-up: trained by its repair record; a gusset by the record's list, unless training fences it. -/
def State.bringUpChannel (s : State) (l : List ChanTraining) (ch : Nat) : State :=
  let found := l.filter (fun x => x.ch = ch)
  let s1 := s.trainChannel ch (found.flatMap ChanTraining.failing)
  let c := s1.channel ch
  let bad := found.any ChanTraining.failed || decide (2 < c.erased.length)
  s1.setChannel ch { c with
    state := if bad then .fenced else if (s.repair.gussets.getD []).contains ch then .gusset else .online }

/-- R297, R298: gussets are taken one at a time up to `n` more, while there are channels. -/
def State.fillGussets (s : State) : Nat → State
  | 0 => s
  | n + 1 => match s.addGussets s.gussetLevel 1 with
    | some a => a.fillGussets n
    | none => s

/-- R613: a needle or a Sleeve bank that failed its self-test; a second bank of a needle fences it (R542). -/
def State.needleFails (s : State) (n : Nat) : State := if Config.needles ≤ n then s else s.setNeedle n { s.needle n with fenced := true }
def State.bankFails (s : State) (n bank : Nat) : State :=
  let nd := s.needle n
  if Config.needles ≤ n || 12 ≤ bank || nd.banks.contains bank then s
  else s.setNeedle n { nd with banks := nd.banks ++ [bank], fenced := nd.fenced || !nd.banks.isEmpty }

/-- R68, R72: a panel's constants. -/
def State.calibrate (s : State) (x : Calibration) : State :=
  if Config.panels ≤ x.panel then s
  else s.setPanel x.panel { s.panel x.panel with idleMw := x.idleMw, rMilliK := x.rMilliK, tauUs := x.tauUs }

/-- R271, R298, R612, R613: step 4: the stacks are trained, the first bring-up chooses the gussets, needles and panels are tested. -/
def State.stepMemory (s : State) (r : Bringup) : State :=
  let here := s.channels.keys ++ s.repair.chans.keys ++ s.repair.gussets.getD [] ++ r.channels.map ChanTraining.ch
  let s1 := (dedup (here.filter (fun ch => decide (ch < 768)))).foldl (fun (a : State) ch => a.bringUpChannel r.channels ch) s
  let s2 := if s1.repair.gussets.isSome then s1 else s1.fillGussets s1.gussetReserve
  let failed := r.needles ++ r.panels.flatMap (fun p => (List.range 48).map (fun i => 48 * p + i))
  let s3 := failed.foldl (fun (a : State) n => a.needleFails n) s2
  let s4 := r.banks.foldl (fun (a : State) x => a.bankFails x.1 x.2) s3
  r.calibrations.foldl (fun (a : State) x => a.calibrate x) s4

/-- R334, R613: an image when Bolt stacks failed their check: their granules cannot be read, and those with no other copy are DAMAGED. -/
def BoltImage.without (b : BoltImage) (stackIds : List Nat) : BoltImage :=
  let gs := List.range b.granules
  let lost := (List.range b.copies).flatMap (fun c => (gs.filter (fun g => stackIds.contains (b.stackOf c (b.blockOf g)))).map (fun g => (c, g)))
  let bad := b.bad ++ lost.filter (fun x => !b.bad.contains x)
  let gone := gs.filter (fun g => !b.damaged.contains g && (List.range b.copies).all (fun c => bad.contains (c, g)))
  { b with
    bad := bad
    damaged := b.damaged ++ gone
    state := if gone.isEmpty then b.state else .damaged }

/-- R320: an image whose manifest the Bolt check cannot verify supplies nothing: every granule of it is damaged (assumption 80). -/
def State.checkImage (s : State) (b : BoltImage) : BoltImage :=
  if s.checkManifest b.manifest = stOk then b else { b with damaged := List.range b.granules, state := .damaged }

/-- R320, R573, R613: step 5, the Bolt check: interrupted installs are discarded and replaced versions freed, and the signature of every
manifest is verified; the granules are not. -/
def State.stepBolt (s : State) (stackIds : List Nat) : State :=
  let s1 := (s.images.filter (fun b => b.state = .installing || b.pinned)).foldl (fun (a : State) b => a.dropImage b) s
  let s2 := if stackIds.isEmpty then s1 else { s1 with images := s1.images.map (fun b => b.without stackIds) }
  { s2 with images := s2.images.map s2.checkImage }

/-- R416, R422, R612: step 6: every link that may train starts. -/
def State.startLinks (s : State) : State :=
  let s1 := { s with board := { s.board with arrayNow := s.board.array } }
  allLinks.foldl (fun (a : State) l => if a.mayTrain l then a.setLink l { a.link l with state := .training } else a) s1

/-- R416: a link that has not trained by the end of step 6 is DOWN. -/
def State.stopLinks (s : State) : State :=
  { s with links := s.links.map (fun (p : Nat × Link) => (p.1, if p.2.state = .training then { p.2 with state := .down } else p.2)) }

/-- R613: every fence made during bring-up is reported at READY; EV_STRAP for straps that no position has (R417). -/
def State.reportFences (s : State) : State :=
  let ns := (s.needles.filter (fun p => p.2.fenced)).map Prod.fst
  let s1 := ns.foldl (fun (a : State) n => a.evFence 0 3 false (needleIdent n) [] ns.length) s
  let banks := s1.needles.flatMap (fun p => p.2.banks.map (fun b => (p.1, b)))
  let s2 := banks.foldl (fun (a : State) x => a.evFence 1 3 false (needleIdent x.1 + x.2 * 2 ^ 16) [] banks.length) s1
  let chs := (List.range 768).filter (fun c => (s2.channel c).state = .fenced)
  let s3 := chs.foldl (fun (a : State) c => a.evFence 2 3 false c [] chs.length) s2
  let cl := [0, 1].filter (fun k => s3.tailor.cluster k = .fenced)
  let s4 := cl.foldl (fun (a : State) k => a.evFence 11 3 false k [] cl.length) s3
  if s4.board.strapBad then s4.evStrap 0x1F else s4

/-- R51, R54, R69, R257, R555, R612: READY: the first tick starts, at the number after the one taken from the board or the array, or at 0 for a device
that times itself; nothing is carried, and a pool that is empty now is reported when it refills. -/
def State.becomeReady (s : State) : State :=
  let live := if s.board.posId ≤ 8 && !s.board.live.contains s.board.posId then s.board.live ++ [s.board.posId] else s.board.live
  let s1 := { s with
    mod := { s.mod with state := .ready }
    board := { s.board with live := live }
    bolt0 := { s.bolt0 with corrected := 0, unreadable := 0 }
    bolt1 := { s.bolt1 with corrected := 0, unreadable := 0 }
    staleEpoch := 0
    staleGen := 0
    staleLast := 0 }
  let m := if live.isEmpty then s.board.posId else s1.board.masterPos
  let s2 := { s1 with tick := { s.tick with
    number := if s.tick.freeRun then 0 else (s.tick.number + 1) % 2 ^ 48
    isMaster := decide (m = s.board.posId)
    masterPos := m } }
  let s3 := s2.reportFences
  { s3 with
    devStatus := BitVec.ofNat 32 s3.devWord
    boardState := BitVec.ofNat 32 s3.boardWord
    adm := { s3.adm with carry := 0 }
    fences := { s3.fences with poolEmpty := s3.emptyPools } }

/-- R612: the step that follows step `k`; step 6 is skipped on a module that runs alone. -/
def State.nextStep (s : State) (k : Nat) : State :=
  if k = 5 && s.board.posId != 0xF then { s with mod := { s.mod with state := .step 6 } }.startLinks
  else if k = 5 then { s with mod := { s.mod with state := .step 7 } }
  else if 7 ≤ k then s.becomeReady
  else { s with mod := { s.mod with state := .step (k + 1) } }

/-- R612 to R614: a step of bring-up ends: its work, what failed in it, and the step that follows. -/
def State.endStep (s : State) (r : Bringup) : State :=
  match s.mod.state with
  | .step k =>
    if !r.logicOk then s.withdraw 3
    else if k = 1 then (s.stepPower r.refOk).nextStep 1
    else if k = 2 then
      (if !r.thimbleOk then s.thimbleFails else { s with thimble := s.thimble.readMode.generate }.nextStep 2)
    else if k = 3 then
      (if !r.clusterA && !r.clusterB then s.withdraw 2 else (s.stepTailor r.clusterA r.clusterB).nextStep 3)
    else if k = 4 then (s.stepMemory r).nextStep 4
    else if k = 5 then (s.stepBolt r.bolts).nextStep 5
    else if k = 6 then s.stopLinks.nextStep 6
    else s.nextStep k
  | _ => s

/-- BRINGUP_STEP_DONE, R612. -/
def execBringupStepDone (r : Bringup) (s : State) : Host.Outcome State Fault Refusal := .next (s.endStep r)

/-- BRINGUP_STEP_TIMEOUT, R612: what the step has not finished is among its failures. -/
def execBringupStepTimeout (r : Bringup) (s : State) : Host.Outcome State Fault Refusal := .next (s.endStep r)

-- ---------------------------------------------------------------- host ports and the reference (R601, R610, R615)

/-- Replaces whether a port's link is up. -/
def Module.setPort (m : Module) (port : Nat) (up : Bool) : Module := if port = 1 then { m with port0 := up } else { m with port1 := up }
/-- Replaces a PERSTn_N pin. -/
def Module.setPerst (m : Module) (port : Nat) (high : Bool) : Module := if port = 1 then { m with perst0N := high } else { m with perst1N := high }

/-- R610: a port's reset: its link, its configuration space with the DOE mailbox, its IDE keys, and the MSI-X table. -/
def State.resetPort (s : State) (port : Nat) : State :=
  let t := s.thimble
  { s with
    mod := ((s.mod.setPerst port false).setPort port false)
    thimble := { t with
      ide := t.ide.filter (fun p => p.1 / 16 != port)
      ports := FMap.del t.ports port
      sessions := t.sessions.filter (fun x => x.port != port)
      answers := FMap.del t.answers port }
    msix := s.msix.filter (fun p => p.1 / 2048 != port)
    msixPending := s.msixPending.filter (fun v => v / 2048 != port) }

/-- PERST_ASSERT, R610, R611. -/
def execPerstAssert (port : Nat) (s : State) : Host.Outcome State Fault Refusal :=
  if port = 0 || 2 < port then .fault .noSuchUnit else .next (s.resetPort port)

/-- PERST_DEASSERT, R610, R615: the port's link trains in every state but those without power or reset. -/
def execPerstDeassert (port : Nat) (s : State) : Host.Outcome State Fault Refusal :=
  if port = 0 || 2 < port then .fault .noSuchUnit
  else
    let up := match s.mod.state with | .unpowered => false | .held => false | .thermtrip => false | _ => true
    .next { s with mod := (s.mod.setPerst port true).setPort port up }

/-- CONFIG_REQUEST, R615: RRS until READY or until bring-up fails, a normal answer from then on. -/
def execConfigRequest (port : Nat) (s : State) : Host.Outcome State Fault Refusal :=
  if port = 0 || 2 < port then .fault .noSuchUnit
  else if !s.hostPortUp port then .next s
  else .next { s with mod := { s.mod with config := FMap.set s.mod.config port (s.isReady || s.mod.state.isOut) } }

/-- TICK_REF_LOSS, R601. -/
def execTickRefLoss (s : State) : Host.Outcome State Fault Refusal :=
  if !s.isReady || s.mod.refLost != 0 then .next s else .next { s with mod := { s.mod with refLost := 2 } }

/-- TICK_REF_RETURN, R601. -/
def execTickRefReturn (s : State) : Host.Outcome State Fault Refusal :=
  if !s.isReady || s.mod.refLost != 2 then .next s else .next { s with mod := { s.mod with refLost := 0 } }

-- ---------------------------------------------------------------- I3C, MCTP, PLDM (R617, R618)

/-- I3C_DYNAMIC_ADDRESS, R617. -/
def execI3cDynamicAddress (addr : Nat) (s : State) : Host.Outcome State Fault Refusal :=
  if !s.mod.v48 then .next s else .next { s with mod := { s.mod with dynAddr := some (addr % 128) } }

/-- I3C_INTERRUPT_ENABLE, R617. -/
def execI3cInterruptEnable (on : Bool) (s : State) : Host.Outcome State Fault Refusal :=
  if !s.mod.v48 then .next s else .next { s with mod := { s.mod with ibi := on } }

/-- R617: whether a binding carries MCTP: I3C (0) whenever 48 V is there, a host port's (1, 2) from READY. -/
def State.bindingUp (s : State) (b : Nat) : Bool := if b = 0 then s.mod.v48 else s.isReady && s.hostPortUp b

/-- Does something on a binding. -/
def State.onBinding (s : State) (b : Nat) (f : State → State) : Host.Outcome State Fault Refusal :=
  if 2 < b then .fault .noSuchUnit else if !s.bindingUp b then .next s else .next (f s)

/-- MCTP_ENDPOINT_ID_ASSIGN, R617. -/
def execMctpEndpointIdAssign (binding eid : Nat) (s : State) : Host.Outcome State Fault Refusal :=
  s.onBinding binding (fun a => { a with mod := { a.mod with eids := FMap.set a.mod.eids binding (eid % 256) } })

/-- A PLDM answer on a binding. -/
def State.pldmAnswer (s : State) (b : Nat) (x : PldmAnswer) : State := { s with mod := { s.mod with pldm := FMap.set s.mod.pldm b x } }

/-- PLDM_BASE_REQUEST, R617: the types supported. -/
def execPldmBaseRequest (binding : Nat) (s : State) : Host.Outcome State Fault Refusal :=
  s.onBinding binding (fun a => a.pldmAnswer binding (.types [0, 2, 4]))

/-- R618: MODULE_STATE. -/
def ModState.code : ModState → Nat
  | .unpowered => 0 | .held => 0 | .step k => k | .ready => 7 | .withdrawn => 8 | .failed => 9 | .thermtrip => 10

/-- R618: the identifiers of the sensors. -/
def sensorIds : List Nat :=
  [0x01, 0x02, 0x03, 0x10, 0x11, 0x12, 0x20, 0x21, 0x22, 0x23, 0x24, 0x25, 0x30, 0x31, 0x40, 0x41, 0x42, 0x43]

/-- R618: what a sensor reads; none where its source does not run. -/
def State.reading (s : State) (id : Nat) : Option Int :=
  if id = 0x40 then some s.mod.state.code
  else if id = 0x41 then some s.mod.failCause
  else if id = 0x42 then some s.mod.refLost
  else if id = 0x43 then some (s.board.strapPos % 16 + (s.board.boardId % 16 + s.board.boardHi % 4 * 16) * 2 ^ 4 : Nat)
  else FMap.get? s.mod.sensors id

/-- PLDM_PLATFORM_REQUEST, R618. -/
def execPldmPlatformRequest (binding sensor : Nat) (s : State) : Host.Outcome State Fault Refusal :=
  s.onBinding binding (fun a => a.pldmAnswer binding (
    if !sensorIds.contains sensor then .unknown
    else match a.reading sensor with | some v => .reading v | none => .unavailable))

/-- PLDM_FRU_REQUEST, R617. -/
def execPldmFruRequest (binding : Nat) (s : State) : Host.Outcome State Fault Refusal :=
  s.onBinding binding (fun a => a.pldmAnswer binding (.fru (wordsLE orderingWords) (Config.serial % 2 ^ 64) 0x30 a.thimble.version))

end Sys2Proof.Machine
end

