-- ==== Sys2Proof/Machine/Dispatch.lean ====
section
/-! DEFINITION. The dispatch: one arm per constructor, each a direct call of its meaning. -/

namespace Sys2Proof.Machine

/-- What a command or event does to everything but the queue. -/
def exec (i : Instr) (s : State) : Host.Outcome State Fault Refusal :=
  match i with
  | .tickBegin => Sys2Proof.Machine.execTickBegin s
  | .stitchStart n => Sys2Proof.Machine.execStitchStart n s
  | .nextStitchStart n => Sys2Proof.Machine.execNextStitchStart n s
  | .runPhaseBegin => Sys2Proof.Machine.execRunPhaseBegin s
  | .guardBandBegin => Sys2Proof.Machine.execGuardBandBegin s
  | .commandCutoff => Sys2Proof.Machine.execCommandCutoff s
  | .commit m => Sys2Proof.Machine.execCommit m s
  | .requestExpiry req => Sys2Proof.Machine.execRequestExpiry req s
  | .ledgerDeadline ctx buf => Sys2Proof.Machine.execLedgerDeadline ctx buf s
  | .granuleHoldLimit => Sys2Proof.Machine.execGranuleHoldLimit s
  | .gussetHoldExpiry => Sys2Proof.Machine.execGussetHoldExpiry s
  | .reshardStageTimeout => Sys2Proof.Machine.execReshardStageTimeout s
  | .garmentOpenTimeout => Sys2Proof.Machine.execGarmentOpenTimeout s
  | .stockFillStageTimeout => Sys2Proof.Machine.execStockFillStageTimeout s
  | .recallDeadline ctx => Sys2Proof.Machine.execRecallDeadline ctx s
  | .heartbeatSilence => Sys2Proof.Machine.execHeartbeatSilence s
  | .evCeSummary => Sys2Proof.Machine.execEvCeSummary s
  | .evKnotCycle => Sys2Proof.Machine.execEvKnotCycle s
  | .granuleRecopyRetry img g fetched => Sys2Proof.Machine.execGranuleRecopyRetry img g fetched s
  | .listDropLimit spl => Sys2Proof.Machine.execListDropLimit spl s
  | .draftOffCountExpiry req => Sys2Proof.Machine.execDraftOffCountExpiry req s
  | .pinErase chan pin => Sys2Proof.Machine.execPinErase chan pin s
  | .linkAuthFence link => Sys2Proof.Machine.execLinkAuthFence link s
  | .pincushionBankFence stk bank tagParity users => Sys2Proof.Machine.execPincushionBankFence stk bank tagParity users s
  | .tickPeriodChange => Sys2Proof.Machine.execTickPeriodChange s
  | .spareSubstituteSwitch => Sys2Proof.Machine.execSpareSubstituteSwitch s
  | .scrubRead chan errs => Sys2Proof.Machine.execScrubRead chan errs s
  | .dieTempRead stk die tempC => Sys2Proof.Machine.execDieTempRead stk die tempC s
  | .hotspotRead panel milliC => Sys2Proof.Machine.execHotspotRead panel milliC s
  | .coolantMeasure inletMilliC outletMilliC flow => Sys2Proof.Machine.execCoolantMeasure inletMilliC outletMilliC flow s
  | .sensorRefresh centiVolts deciAmps watts boltC => Sys2Proof.Machine.execSensorRefresh centiVolts deciAmps watts boltC s
  | .linkTrainRetry link => Sys2Proof.Machine.execLinkTrainRetry link s
  | .linkTrainingDone link t => Sys2Proof.Machine.execLinkTrainingDone link t s
  | .linkKeyGenerationChange link commit incoming => Sys2Proof.Machine.execLinkKeyGenerationChange link commit incoming s
  | .droopDetect panel at_ => Sys2Proof.Machine.execDroopDetect panel at_ s
  | .droopRecover panel at_ => Sys2Proof.Machine.execDroopRecover panel at_ s
  | .governorAct meanMw => Sys2Proof.Machine.execGovernorAct meanMw s
  | .governorRestore meanMw => Sys2Proof.Machine.execGovernorRestore meanMw s
  | .commandFetch page readFailed blockFailed => Sys2Proof.Machine.execCommandFetch page readFailed blockFailed s
  | .cmdDbWrite page port value => Sys2Proof.Machine.execCmdDbWrite page port value s
  | .cplDbWrite page port value => Sys2Proof.Machine.execCplDbWrite page port value s
  | .evtDbWrite page port value => Sys2Proof.Machine.execEvtDbWrite page port value s
  | .spoolDbWrite page port value => Sys2Proof.Machine.execSpoolDbWrite page port value s
  | .tickNowLoRead => Sys2Proof.Machine.execTickNowLoRead s
  | .powerCfgWrite value => Sys2Proof.Machine.execPowerCfgWrite value s
  | .panelThermWrite panel value => Sys2Proof.Machine.execPanelThermWrite panel value s
  | .mgmtCtrlOpen port => Sys2Proof.Machine.execMgmtCtrlOpen port s
  | .mgmtCtrlClose port => Sys2Proof.Machine.execMgmtCtrlClose port s
  | .registerWrite port bar off size value write => Sys2Proof.Machine.execRegisterWrite port bar off size value write s
  | .winSlotWrite wslot word port value whole => Sys2Proof.Machine.execWinSlotWrite wslot word port value whole s
  | .winEnableWrite port hi value => Sys2Proof.Machine.execWinEnableWrite port hi value s
  | .winPageWrite port hi value => Sys2Proof.Machine.execWinPageWrite port hi value s
  | .winNop w => Sys2Proof.Machine.execWinNop w s
  | .winDevInfo w => Sys2Proof.Machine.execWinDevInfo w s
  | .winCtxPause w => Sys2Proof.Machine.execWinCtxPause w s
  | .winCtxResume w => Sys2Proof.Machine.execWinCtxResume w s
  | .winCtxSegmentSet w => Sys2Proof.Machine.execWinCtxSegmentSet w s
  | .winProgSet w => Sys2Proof.Machine.execWinProgSet w s
  | .winPatternSet w => Sys2Proof.Machine.execWinPatternSet w s
  | .winPatternClose w => Sys2Proof.Machine.execWinPatternClose w s
  | .winListHold w => Sys2Proof.Machine.execWinListHold w s
  | .winListRelease w => Sys2Proof.Machine.execWinListRelease w s
  | .winWeightLoad w => Sys2Proof.Machine.execWinWeightLoad w s
  | .winGenCfg w => Sys2Proof.Machine.execWinGenCfg w s
  | .winReqOpen w => Sys2Proof.Machine.execWinReqOpen w s
  | .winReqPause w => Sys2Proof.Machine.execWinReqPause w s
  | .winReqResume w => Sys2Proof.Machine.execWinReqResume w s
  | .winReqCancel w => Sys2Proof.Machine.execWinReqCancel w s
  | .winKnotOpen w => Sys2Proof.Machine.execWinKnotOpen w s
  | .winKnotSet w => Sys2Proof.Machine.execWinKnotSet w s
  | .winKnotRead w => Sys2Proof.Machine.execWinKnotRead w s
  | .winKnotClose w => Sys2Proof.Machine.execWinKnotClose w s
  | .winSpoolOpen w => Sys2Proof.Machine.execWinSpoolOpen w s
  | .winSpoolClose w => Sys2Proof.Machine.execWinSpoolClose w s
  | .nop r => Sys2Proof.Machine.execNop r s
  | .devInfo r => Sys2Proof.Machine.execDevInfo r s
  | .tickSet r => Sys2Proof.Machine.execTickSet r s
  | .powerLimit r => Sys2Proof.Machine.execPowerLimit r s
  | .energyTrace r => Sys2Proof.Machine.execEnergyTrace r s
  | .energyRead r => Sys2Proof.Machine.execEnergyRead r s
  | .ctxOpen r => Sys2Proof.Machine.execCtxOpen r s
  | .ctxClose r => Sys2Proof.Machine.execCtxClose r s
  | .ctxPause r => Sys2Proof.Machine.execCtxPause r s
  | .ctxResume r => Sys2Proof.Machine.execCtxResume r s
  | .ctxSegmentSet r => Sys2Proof.Machine.execCtxSegmentSet r s
  | .ctxPriority r => Sys2Proof.Machine.execCtxPriority r s
  | .progSet r => Sys2Proof.Machine.execProgSet r s
  | .hemGrant r => Sys2Proof.Machine.execHemGrant r s
  | .hemRevoke r => Sys2Proof.Machine.execHemRevoke r s
  | .patternSet r => Sys2Proof.Machine.execPatternSet r s
  | .patternZeroed ctx num => Sys2Proof.Machine.execPatternZeroed ctx num s
  | .patternRead r => Sys2Proof.Machine.execPatternRead r s
  | .patternClose r => Sys2Proof.Machine.execPatternClose r s
  | .listHold r => Sys2Proof.Machine.execListHold r s
  | .listRelease r => Sys2Proof.Machine.execListRelease r s
  | .weightLoad r => Sys2Proof.Machine.execWeightLoad r s
  | .weightLoadDone cmd rows status fetched => Sys2Proof.Machine.execWeightLoadDone cmd rows status fetched s
  | .stockMap r => Sys2Proof.Machine.execStockMap r s
  | .stockMapFilled img fetched => Sys2Proof.Machine.execStockMapFilled img fetched s
  | .fillMessageReceive img fillId receivers granule bytes => Sys2Proof.Machine.execFillMessageReceive img fillId receivers granule bytes s
  | .stockUnmap r => Sys2Proof.Machine.execStockUnmap r s
  | .boltInstall r => Sys2Proof.Machine.execBoltInstall r s
  | .boltInstallVerified img => Sys2Proof.Machine.execBoltInstallVerified img s
  | .boltRemove r => Sys2Proof.Machine.execBoltRemove r s
  | .boltStatus r => Sys2Proof.Machine.execBoltStatus r s
  | .genCfg r => Sys2Proof.Machine.execGenCfg r s
  | .reqOpen r => Sys2Proof.Machine.execReqOpen r s
  | .reqPause r => Sys2Proof.Machine.execReqPause r s
  | .pauseCopyDone req => Sys2Proof.Machine.execPauseCopyDone req s
  | .reqResume r => Sys2Proof.Machine.execReqResume r s
  | .resumeCopyDone req readFailed => Sys2Proof.Machine.execResumeCopyDone req readFailed s
  | .reqCancel r => Sys2Proof.Machine.execReqCancel r s
  | .draftSet r => Sys2Proof.Machine.execDraftSet r s
  | .garmentRequestUpdate u => Sys2Proof.Machine.execGarmentRequestUpdate u s
  | .stepBegin r => Sys2Proof.Machine.execStepBegin r s
  | .stepMode r => Sys2Proof.Machine.execStepMode r s
  | .accEvery r => Sys2Proof.Machine.execAccEvery r s
  | .ledgerRead r => Sys2Proof.Machine.execLedgerRead r s
  | .reshard r => Sys2Proof.Machine.execReshard r s
  | .reshardStart gar turn => Sys2Proof.Machine.execReshardStart gar turn s
  | .bastingMoveAck gar turn move status => Sys2Proof.Machine.execBastingMoveAck gar turn move status s
  | .bastingMessage m => Sys2Proof.Machine.execBastingMessage m s
  | .turnBaste gar turn => Sys2Proof.Machine.execTurnBaste gar turn s
  | .turnFinish gar turn => Sys2Proof.Machine.execTurnFinish gar turn s
  | .turnAbortReceive gar turn member => Sys2Proof.Machine.execTurnAbortReceive gar turn member s
  | .stagedReceive gar turn member => Sys2Proof.Machine.execStagedReceive gar turn member s
  | .ckptSave r => Sys2Proof.Machine.execCkptSave r s
  | .ckptStreamDone ctx failed => Sys2Proof.Machine.execCkptStreamDone ctx failed s
  | .ckptBlockWrite ctx block failed => Sys2Proof.Machine.execCkptBlockWrite ctx block failed s
  | .ckptRestore r => Sys2Proof.Machine.execCkptRestore r s
  | .restoreBlockFetch ctx block readFailed => Sys2Proof.Machine.execRestoreBlockFetch ctx block readFailed s
  | .restoreDone ctx => Sys2Proof.Machine.execRestoreDone ctx s
  | .riskSet r => Sys2Proof.Machine.execRiskSet r s
  | .recallCtx r => Sys2Proof.Machine.execRecall r s
  | .ckptWantReceive gar member => Sys2Proof.Machine.execCkptWantReceive gar member s
  | .knotOpen r => Sys2Proof.Machine.execKnotOpen r s
  | .knotSet r => Sys2Proof.Machine.execKnotSet r s
  | .knotRead r => Sys2Proof.Machine.execKnotRead r s
  | .knotClose r => Sys2Proof.Machine.execKnotClose r s
  | .knotCycles r => Sys2Proof.Machine.execKnotCycles r s
  | .spoolOpen r => Sys2Proof.Machine.execSpoolOpen r s
  | .spoolRead r => Sys2Proof.Machine.execSpoolRead r s
  | .spoolClose r => Sys2Proof.Machine.execSpoolClose r s
  | .garmentOpen r => Sys2Proof.Machine.execGarmentOpen r s
  | .joinReceive gar member => Sys2Proof.Machine.execJoinReceive gar member s
  | .garmentClose r => Sys2Proof.Machine.execGarmentClose r s
  | .arraySet r => Sys2Proof.Machine.execArraySet r s
  | .spareSet r => Sys2Proof.Machine.execSpareSet r s
  | .spareSubstitute r => Sys2Proof.Machine.execSpareSubstitute r s
  | .linkStatus r => Sys2Proof.Machine.execLinkStatus r s
  | .patchStage r => Sys2Proof.Machine.execPatchStage r s
  | .patchStaged => Sys2Proof.Machine.execPatchStaged s
  | .patchActivate r => Sys2Proof.Machine.execPatchActivate r s
  | .tailorResync clu => Sys2Proof.Machine.execTailorResync clu s
  | .needleFence r => Sys2Proof.Machine.execNeedleFence r s
  | .needleSelfTestDone n passed failing => Sys2Proof.Machine.execNeedleSelfTestDone n passed failing s
  | .channelMove r => Sys2Proof.Machine.execChannelMove r s
  | .channelCopyUnitAck chan unit errs destFailed => Sys2Proof.Machine.execChannelCopyUnitAck chan unit errs destFailed s
  | .channelMoveDrain chan => Sys2Proof.Machine.execChannelMoveDrain chan s
  | .channelRetrainDone chan failing passed => Sys2Proof.Machine.execChannelRetrainDone chan failing passed s
  | .laneRecal r => Sys2Proof.Machine.execLaneRecal r s
  | .laneRecalDone link ok => Sys2Proof.Machine.execLaneRecalDone link ok s
  | .gussetSet r => Sys2Proof.Machine.execGussetSet r s
  | .thimbleUpdate r => Sys2Proof.Machine.execThimbleUpdate r s
  | .thimbleRestartDone passed oldPassed => Sys2Proof.Machine.execThimbleRestartDone passed oldPassed s
  | .tapeSet r => Sys2Proof.Machine.execTapeSet r s
  | .tapeRead r => Sys2Proof.Machine.execTapeRead r s
  | .arbCounters r => Sys2Proof.Machine.execArbCounters r s
  | .memStatus r => Sys2Proof.Machine.execMemStatus r s
  | .memLogRead r => Sys2Proof.Machine.execMemLogRead r s
  | .memScrub r => Sys2Proof.Machine.execMemScrub r s
  | .memPpr r => Sys2Proof.Machine.execMemPpr r s
  | .memLaneSet r => Sys2Proof.Machine.execMemLaneSet r s
  | .add n f => Sys2Proof.Machine.execAdd n f s
  | .sub n f => Sys2Proof.Machine.execSub n f s
  | .and n f => Sys2Proof.Machine.execAnd n f s
  | .or n f => Sys2Proof.Machine.execOr n f s
  | .xor n f => Sys2Proof.Machine.execXor n f s
  | .shl n f => Sys2Proof.Machine.execShl n f s
  | .shr n f => Sys2Proof.Machine.execShr n f s
  | .sra n f => Sys2Proof.Machine.execSra n f s
  | .slt n f => Sys2Proof.Machine.execSlt n f s
  | .sltu n f => Sys2Proof.Machine.execSltu n f s
  | .min n f => Sys2Proof.Machine.execMin n f s
  | .max n f => Sys2Proof.Machine.execMax n f s
  | .mul n f => Sys2Proof.Machine.execMul n f s
  | .mulhu n f => Sys2Proof.Machine.execMulhu n f s
  | .divu n f => Sys2Proof.Machine.execDivu n f s
  | .remu n f => Sys2Proof.Machine.execRemu n f s
  | .addi n f => Sys2Proof.Machine.execAddi n f s
  | .andi n f => Sys2Proof.Machine.execAndi n f s
  | .ori n f => Sys2Proof.Machine.execOri n f s
  | .xori n f => Sys2Proof.Machine.execXori n f s
  | .shli n f => Sys2Proof.Machine.execShli n f s
  | .shri n f => Sys2Proof.Machine.execShri n f s
  | .srai n f => Sys2Proof.Machine.execSrai n f s
  | .slti n f => Sys2Proof.Machine.execSlti n f s
  | .li n f => Sys2Proof.Machine.execLi n f s
  | .lih n f => Sys2Proof.Machine.execLih n f s
  | .beq n f => Sys2Proof.Machine.execBeq n f s
  | .bne n f => Sys2Proof.Machine.execBne n f s
  | .blt n f => Sys2Proof.Machine.execBlt n f s
  | .bge n f => Sys2Proof.Machine.execBge n f s
  | .bltu n f => Sys2Proof.Machine.execBltu n f s
  | .bgeu n f => Sys2Proof.Machine.execBgeu n f s
  | .jal n f => Sys2Proof.Machine.execJal n f s
  | .jr n f => Sys2Proof.Machine.execJr n f s
  | .ld8u n f => Sys2Proof.Machine.execLd8u n f s
  | .ld16u n f => Sys2Proof.Machine.execLd16u n f s
  | .ld32u n f => Sys2Proof.Machine.execLd32u n f s
  | .ld64 n f => Sys2Proof.Machine.execLd64 n f s
  | .ld8s n f => Sys2Proof.Machine.execLd8s n f s
  | .ld16s n f => Sys2Proof.Machine.execLd16s n f s
  | .ld32s n f => Sys2Proof.Machine.execLd32s n f s
  | .st8 n f => Sys2Proof.Machine.execSt8 n f s
  | .st16 n f => Sys2Proof.Machine.execSt16 n f s
  | .st32 n f => Sys2Proof.Machine.execSt32 n f s
  | .st64 n f => Sys2Proof.Machine.execSt64 n f s
  | .nopInsn n f => Sys2Proof.Machine.execNopInsn n f s
  | .sync n f => Sys2Proof.Machine.execSync n f s
  | .qsync n f => Sys2Proof.Machine.execQsync n f s
  | .setvl n f => Sys2Proof.Machine.execSetvl n f s
  | .rdsr n f => Sys2Proof.Machine.execRdsr n f s
  | .tie n f => Sys2Proof.Machine.execTie n f s
  | .dma n f => Sys2Proof.Machine.execDma n f s
  | .dmaDescriptorStart n eng => Sys2Proof.Machine.execDmaDescriptorStart n eng s
  | .dmaSlotAcknowledged n eng slot status => Sys2Proof.Machine.execDmaSlotAcknowledged n eng slot status s
  | .dmastat n f => Sys2Proof.Machine.execDmastat n f s
  | .kadd n f => Sys2Proof.Machine.execKadd n f s
  | .karrive n f => Sys2Proof.Machine.execKarrive n f s
  | .kset n f => Sys2Proof.Machine.execKset n f s
  | .kclr n f => Sys2Proof.Machine.execKclr n f s
  | .kwait n f => Sys2Proof.Machine.execKwait n f s
  | .kwaitSatisfied n => Sys2Proof.Machine.execKwaitSatisfied n s
  | .kwaitGiveUp n => Sys2Proof.Machine.execKwaitGiveUp n s
  | .kread n f => Sys2Proof.Machine.execKread n f s
  | .knotOperationMessage m => Sys2Proof.Machine.execKnotOperationMessage m s
  | .wload n f => Sys2Proof.Machine.execWload n f s
  | .mmul n f => Sys2Proof.Machine.execMmul n f s
  | .promote n f => Sys2Proof.Machine.execPromote n f s
  | .aclr n f => Sys2Proof.Machine.execAclr n f s
  | .arel n f => Sys2Proof.Machine.execArel n f s
  | .aflags n f => Sys2Proof.Machine.execAflags n f s
  | .aload n f => Sys2Proof.Machine.execAload n f s
  | .astore n f => Sys2Proof.Machine.execAstore n f s
  | .tsave n f => Sys2Proof.Machine.execTsave n f s
  | .trestore n f => Sys2Proof.Machine.execTrestore n f s
  | .accSendAdd n f => Sys2Proof.Machine.execAccSendAdd n f s
  | .accSendImg n f => Sys2Proof.Machine.execAccSendImg n f s
  | .accSendAcknowledged n msg status torn => Sys2Proof.Machine.execAccSendAcknowledged n msg status torn s
  | .vaddF n f => Sys2Proof.Machine.execVaddF n f s
  | .vsubF n f => Sys2Proof.Machine.execVsubF n f s
  | .vmulF n f => Sys2Proof.Machine.execVmulF n f s
  | .vfmaF n f => Sys2Proof.Machine.execVfmaF n f s
  | .vfnmaF n f => Sys2Proof.Machine.execVfnmaF n f s
  | .vdivF n f => Sys2Proof.Machine.execVdivF n f s
  | .vsqrtF n f => Sys2Proof.Machine.execVsqrtF n f s
  | .vminF n f => Sys2Proof.Machine.execVminF n f s
  | .vmaxF n f => Sys2Proof.Machine.execVmaxF n f s
  | .vabsF n f => Sys2Proof.Machine.execVabsF n f s
  | .vnegF n f => Sys2Proof.Machine.execVnegF n f s
  | .vscalbF n f => Sys2Proof.Machine.execVscalbF n f s
  | .vcmpF n f => Sys2Proof.Machine.execVcmpF n f s
  | .vexp2 n f => Sys2Proof.Machine.execVexp2 n f s
  | .vlog2 n f => Sys2Proof.Machine.execVlog2 n f s
  | .vrcp n f => Sys2Proof.Machine.execVrcp n f s
  | .vrsqrt n f => Sys2Proof.Machine.execVrsqrt n f s
  | .vtanh n f => Sys2Proof.Machine.execVtanh n f s
  | .vaddI n f => Sys2Proof.Machine.execVaddI n f s
  | .vsubI n f => Sys2Proof.Machine.execVsubI n f s
  | .vmulI n f => Sys2Proof.Machine.execVmulI n f s
  | .vand n f => Sys2Proof.Machine.execVand n f s
  | .vor n f => Sys2Proof.Machine.execVor n f s
  | .vxor n f => Sys2Proof.Machine.execVxor n f s
  | .vshl n f => Sys2Proof.Machine.execVshl n f s
  | .vshr n f => Sys2Proof.Machine.execVshr n f s
  | .vsra n f => Sys2Proof.Machine.execVsra n f s
  | .vminI n f => Sys2Proof.Machine.execVminI n f s
  | .vmaxI n f => Sys2Proof.Machine.execVmaxI n f s
  | .vcmpI n f => Sys2Proof.Machine.execVcmpI n f s
  | .vsel n f => Sys2Proof.Machine.execVsel n f s
  | .vld n f => Sys2Proof.Machine.execVld n f s
  | .vst n f => Sys2Proof.Machine.execVst n f s
  | .vmld n f => Sys2Proof.Machine.execVmld n f s
  | .vmst n f => Sys2Proof.Machine.execVmst n f s
  | .vunpk n f => Sys2Proof.Machine.execVunpk n f s
  | .vpack n f => Sys2Proof.Machine.execVpack n f s
  | .vrand n f => Sys2Proof.Machine.execVrand n f s
  | .vredsumF n f => Sys2Proof.Machine.execVredsumF n f s
  | .vredmaxF n f => Sys2Proof.Machine.execVredmaxF n f s
  | .vredminF n f => Sys2Proof.Machine.execVredminF n f s
  | .vredsumI n f => Sys2Proof.Machine.execVredsumI n f s
  | .vredmaxI n f => Sys2Proof.Machine.execVredmaxI n f s
  | .vredminI n f => Sys2Proof.Machine.execVredminI n f s
  | .vscanF n f => Sys2Proof.Machine.execVscanF n f s
  | .vscanI n f => Sys2Proof.Machine.execVscanI n f s
  | .vperm n f => Sys2Proof.Machine.execVperm n f s
  | .vbfly n f => Sys2Proof.Machine.execVbfly n f s
  | .vtr8 n f => Sys2Proof.Machine.execVtr8 n f s
  | .vziplo n f => Sys2Proof.Machine.execVziplo n f s
  | .vziphi n f => Sys2Proof.Machine.execVziphi n f s
  | .vuzpe n f => Sys2Proof.Machine.execVuzpe n f s
  | .vuzpo n f => Sys2Proof.Machine.execVuzpo n f s
  | .vcompress n f => Sys2Proof.Machine.execVcompress n f s
  | .vexpand n f => Sys2Proof.Machine.execVexpand n f s
  | .vidx n f => Sys2Proof.Machine.execVidx n f s
  | .vmpfx n f => Sys2Proof.Machine.execVmpfx n f s
  | .vcvt n f => Sys2Proof.Machine.execVcvt n f s
  | .viext n f => Sys2Proof.Machine.execViext n f s
  | .vmand n f => Sys2Proof.Machine.execVmand n f s
  | .vmor n f => Sys2Proof.Machine.execVmor n f s
  | .vmxor n f => Sys2Proof.Machine.execVmxor n f s
  | .vmandn n f => Sys2Proof.Machine.execVmandn n f s
  | .vmnot n f => Sys2Proof.Machine.execVmnot n f s
  | .vmlen n f => Sys2Proof.Machine.execVmlen n f s
  | .vmpop n f => Sys2Proof.Machine.execVmpop n f s
  | .vmfirst n f => Sys2Proof.Machine.execVmfirst n f s
  | .vext n f => Sys2Proof.Machine.execVext n f s
  | .vmov n f => Sys2Proof.Machine.execVmov n f s
  | .routerMessage b => Sys2Proof.Machine.execRouterMessage b s
  | .memoryReadRequest chan burst source hint errs owner area bid => Sys2Proof.Machine.execMemoryReadRequest chan burst source hint errs owner area bid s
  | .granuleRecopyDone img g fetched => Sys2Proof.Machine.execGranuleRecopyDone img g fetched s
  | .memoryWriteRequest chan burst hint bytes errs owner issuer bid => Sys2Proof.Machine.execMemoryWriteRequest chan burst hint bytes errs owner issuer bid s
  | .remoteAccumulation m => Sys2Proof.Machine.execRemoteAccumulation m s
  | .fixedSummationDone ctx buf tile => Sys2Proof.Machine.execFixedSummationDone ctx buf tile s
  | .checksumCompare ctx buf tile => Sys2Proof.Machine.execChecksumCompare ctx buf tile s
  | .divisorWrite ctx buf => Sys2Proof.Machine.execDivisorWrite ctx buf s
  | .contributionNotice m => Sys2Proof.Machine.execContributionNotice m s
  | .stepCompleteNotice ctx step attempt member sealed_ => Sys2Proof.Machine.execStepCompleteNotice ctx step attempt member sealed_ s
  | .stepAbortNotice ctx step attempt member => Sys2Proof.Machine.execStepAbortNotice ctx step attempt member s
  | .peerSegmentAccess a => Sys2Proof.Machine.execPeerSegmentAccess a s
  | .flitReceive link f => Sys2Proof.Machine.execFlitReceive link f s
  | .nakReceive link seq => Sys2Proof.Machine.execNakReceive link seq s
  | .laneFault link lane rate => Sys2Proof.Machine.execLaneFault link lane rate s
  | .laneFlit link lane boundary => Sys2Proof.Machine.execLaneFlit link lane boundary s
  | .heartbeatReceive link h => Sys2Proof.Machine.execHeartbeatReceive link h s
  | .tickMarkReceive link tick period ahead => Sys2Proof.Machine.execTickMarkReceive link tick period ahead s
  | .epochMarkReceive link board hops tick offset ahead => Sys2Proof.Machine.execEpochMarkReceive link board hops tick offset ahead s
  | .linkElectricalIdle link => Sys2Proof.Machine.execLinkElectricalIdle link s
  | .lossNoticeReceive link pos board sender => Sys2Proof.Machine.execLossNoticeReceive link pos board sender s
  | .selvedgePortFence link => Sys2Proof.Machine.execSelvedgePortFence link s
  | .needleParityError n => Sys2Proof.Machine.execNeedleParityError n s
  | .instructionStoreParity n => Sys2Proof.Machine.execInstructionStoreParity n s
  | .sleeveUe n off saving => Sys2Proof.Machine.execSleeveUe n off saving s
  | .pincushionLineUe chan burst => Sys2Proof.Machine.execPincushionLineUe chan burst s
  | .knotCopyUe knot both => Sys2Proof.Machine.execKnotCopyUe knot both s
  | .contextKeyIntegrityFail ctx => Sys2Proof.Machine.execContextKeyIntegrityFail ctx s
  | .tailorMismatch clu => Sys2Proof.Machine.execTailorMismatch clu s
  | .liningHeaderError router => Sys2Proof.Machine.execLiningHeaderError router s
  | .thimbleError => Sys2Proof.Machine.execThimbleError s
  | .tickLogicError => Sys2Proof.Machine.execTickLogicError s
  | .hostPortWriteFailure w => Sys2Proof.Machine.execHostPortWriteFailure w s
  | .hostReadPoison n seg off => Sys2Proof.Machine.execHostReadPoison n seg off s
  | .pwrOkFall => Sys2Proof.Machine.execPwrOkFall s
  | .inputVoltageFault => Sys2Proof.Machine.execInputVoltageFault s
  | .modResetAssert => Sys2Proof.Machine.execModResetAssert s
  | .bringupStart posId boardId => Sys2Proof.Machine.execBringupStart posId boardId s
  | .bringupStepTimeout r => Sys2Proof.Machine.execBringupStepTimeout r s
  | .perstAssert port => Sys2Proof.Machine.execPerstAssert port s
  | .perstDeassert port => Sys2Proof.Machine.execPerstDeassert port s
  | .tickRefLoss => Sys2Proof.Machine.execTickRefLoss s
  | .tickRefReturn => Sys2Proof.Machine.execTickRefReturn s
  | .configRequest port => Sys2Proof.Machine.execConfigRequest port s
  | .i3cDynamicAddress addr => Sys2Proof.Machine.execI3cDynamicAddress addr s
  | .pldmBaseRequest binding => Sys2Proof.Machine.execPldmBaseRequest binding s
  | .pldmPlatformRequest binding sensor => Sys2Proof.Machine.execPldmPlatformRequest binding sensor s
  | .pldmFruRequest binding => Sys2Proof.Machine.execPldmFruRequest binding s
  | .getVersion port => Sys2Proof.Machine.execGetVersion port s
  | .getCapabilities port => Sys2Proof.Machine.execGetCapabilities port s
  | .negotiateAlgorithms port algs => Sys2Proof.Machine.execNegotiateAlgorithms port algs s
  | .getDigests port => Sys2Proof.Machine.execGetDigests port s
  | .getCertificate port slot off len => Sys2Proof.Machine.execGetCertificate port slot off len s
  | .challenge port slot nonce => Sys2Proof.Machine.execChallenge port slot nonce s
  | .getMeasurements port index nonce sign => Sys2Proof.Machine.execGetMeasurements port index nonce sign s
  | .keyExchange port => Sys2Proof.Machine.execKeyExchange port s
  | .finish port session macOk => Sys2Proof.Machine.execFinish port session macOk s
  | .keyUpdate port session => Sys2Proof.Machine.execKeyUpdate port session s
  | .heartbeat port session => Sys2Proof.Machine.execHeartbeat port session s
  | .endSession port session => Sys2Proof.Machine.execEndSession port session s
  | .ideKm port session stream op => Sys2Proof.Machine.execIdeKm port session stream op s
  | .input48vApplied posId => Sys2Proof.Machine.execInput48vApplied posId s
  | .input48vRemoved => Sys2Proof.Machine.execInput48vRemoved s
  | .bringupStepDone r => Sys2Proof.Machine.execBringupStepDone r s
  | .laneEyeMarginLow link lane => Sys2Proof.Machine.execLaneEyeMarginLow link lane s
  | .boltPageRead img version copy page errs1 errs2 digest1 digest2 => Sys2Proof.Machine.execBoltPageRead img version copy page errs1 errs2 digest1 digest2 s
  | .boltPageProgram img version copy block erase failed installing => Sys2Proof.Machine.execBoltPageProgram img version copy block erase failed installing s
  | .tailorSelfTestDone clu passed => Sys2Proof.Machine.execTailorSelfTestDone clu passed s
  | .thimbleUpdateVerified written => Sys2Proof.Machine.execThimbleUpdateVerified written s
  | .olukorAreaRebuildDone ctx chunk copy => Sys2Proof.Machine.execOlukorAreaRebuildDone ctx chunk copy s
  | .tailorTableFailure ctx => Sys2Proof.Machine.execTailorTableFailure ctx s
  | .garmentRequestAck req member => Sys2Proof.Machine.execGarmentRequestAck req member s
  | .layersReadyNotice gar turn member => Sys2Proof.Machine.execLayersReadyNotice gar turn member s
  | .fillStageNotice img version fillId pos => Sys2Proof.Machine.execFillStageNotice img version fillId pos s
  | .peerGranuleRequest member img version g bolt => Sys2Proof.Machine.execPeerGranuleRequest member img version g bolt s
  | .mctpEndpointIdAssign binding eid => Sys2Proof.Machine.execMctpEndpointIdAssign binding eid s
  | .i3cInterruptEnable on => Sys2Proof.Machine.execI3cInterruptEnable on s

end Sys2Proof.Machine
end

