-- ==== Sys2Proof/WellFormed.lean ====
section
/-! DEFINITION. Which commands and events name only units the device has (R5, R6, R15): the numbers of needles, panels,
links, channels, stacks, ports, contexts, requests, spools, knots and images lie in their ranges. Host ports are 1 and 2 (R610),
Thread links 0 to 15 and Selvedge ports 16 to 19 (R435). -/

namespace Sys2Proof

/-- Every unit the command or event names exists. -/
def Instr.wf : Instr → Bool
  | .tickBegin => true
  | .stitchStart n => decide (n < Config.needles)
  | .nextStitchStart n => decide (n < Config.needles)
  | .runPhaseBegin => true
  | .guardBandBegin => true
  | .commandCutoff => true
  | .commit _ => true
  | .requestExpiry req => decide (req < Config.requests)
  | .ledgerDeadline ctx _ => decide (ctx < Config.contexts)
  | .granuleHoldLimit => true
  | .gussetHoldExpiry => true
  | .reshardStageTimeout => true
  | .garmentOpenTimeout => true
  | .stockFillStageTimeout => true
  | .recallDeadline ctx => decide (ctx < Config.contexts)
  | .heartbeatSilence => true
  | .evCeSummary => true
  | .evKnotCycle => true
  | .granuleRecopyRetry img _ _ => decide (img < 1024)
  | .listDropLimit spl => decide (spl < Config.spools)
  | .draftOffCountExpiry req => decide (req < Config.requests)
  | .pinErase chan pin => decide (chan < 768) && decide (pin < 72)
  | .linkAuthFence link => decide (link < 20)
  | .pincushionBankFence stk bank _ _ => decide (stk < 24) && decide (bank < 16)
  | .tickPeriodChange => true
  | .spareSubstituteSwitch => true
  | .scrubRead chan _ => decide (chan < 768)
  | .dieTempRead stk die _ => decide (stk < 24) && decide (die < 12)
  | .hotspotRead panel _ => decide (panel < Config.panels)
  | .coolantMeasure _ _ _ => true
  | .sensorRefresh _ _ _ _ => true
  | .linkTrainRetry link => decide (link < 20)
  | .linkTrainingDone link _ => decide (link < 20)
  | .linkKeyGenerationChange link _ _ => decide (link < 20)
  | .droopDetect panel _ => decide (panel < Config.panels)
  | .droopRecover panel _ => decide (panel < Config.panels)
  | .governorAct _ => true
  | .governorRestore _ => true
  | .commandFetch _ _ _ => true
  | .cmdDbWrite _ port _ => decide (0 < port) && decide (port < 3)
  | .cplDbWrite _ port _ => decide (0 < port) && decide (port < 3)
  | .evtDbWrite _ port _ => decide (0 < port) && decide (port < 3)
  | .spoolDbWrite _ port _ => decide (0 < port) && decide (port < 3)
  | .tickNowLoRead => true
  | .powerCfgWrite _ => true
  | .panelThermWrite panel _ => decide (panel < Config.panels)
  | .mgmtCtrlOpen port => decide (0 < port) && decide (port < 3)
  | .mgmtCtrlClose port => decide (0 < port) && decide (port < 3)
  | .registerWrite port _ _ _ _ _ => decide (0 < port) && decide (port < 3)
  | .winSlotWrite wslot word port _ _ => decide (wslot < 64) && decide (0 < port) && decide (port < 3) && decide (word < 8)
  | .winEnableWrite port _ _ => decide (0 < port) && decide (port < 3)
  | .winPageWrite port _ _ => decide (0 < port) && decide (port < 3)
  | .winNop w => decide (w.ctx < 64)
  | .winDevInfo w => decide (w.ctx < 64)
  | .winCtxPause w => decide (w.ctx < 64)
  | .winCtxResume w => decide (w.ctx < 64)
  | .winCtxSegmentSet w => decide (w.ctx < 64)
  | .winProgSet w => decide (w.ctx < 64)
  | .winPatternSet w => decide (w.ctx < 64)
  | .winPatternClose w => decide (w.ctx < 64)
  | .winListHold w => decide (w.ctx < 64)
  | .winListRelease w => decide (w.ctx < 64)
  | .winWeightLoad w => decide (w.ctx < 64)
  | .winGenCfg w => decide (w.ctx < 64)
  | .winReqOpen w => decide (w.ctx < 64)
  | .winReqPause w => decide (w.ctx < 64)
  | .winReqResume w => decide (w.ctx < 64)
  | .winReqCancel w => decide (w.ctx < 64)
  | .winKnotOpen w => decide (w.ctx < 64)
  | .winKnotSet w => decide (w.ctx < 64)
  | .winKnotRead w => decide (w.ctx < 64)
  | .winKnotClose w => decide (w.ctx < 64)
  | .winSpoolOpen w => decide (w.ctx < 64)
  | .winSpoolClose w => decide (w.ctx < 64)
  | .nop _ => true
  | .devInfo _ => true
  | .tickSet _ => true
  | .powerLimit _ => true
  | .energyTrace _ => true
  | .energyRead _ => true
  | .ctxOpen _ => true
  | .ctxClose _ => true
  | .ctxPause _ => true
  | .ctxResume _ => true
  | .ctxSegmentSet _ => true
  | .ctxPriority _ => true
  | .progSet _ => true
  | .hemGrant _ => true
  | .hemRevoke _ => true
  | .patternSet _ => true
  | .patternZeroed ctx _ => decide (ctx < Config.contexts)
  | .patternRead _ => true
  | .patternClose _ => true
  | .listHold _ => true
  | .listRelease _ => true
  | .weightLoad _ => true
  | .weightLoadDone _ _ _ _ => true
  | .stockMap _ => true
  | .stockMapFilled img _ => decide (img < 1024)
  | .fillMessageReceive img _ _ _ _ => decide (img < 1024)
  | .stockUnmap _ => true
  | .boltInstall _ => true
  | .boltInstallVerified img => decide (img < 1024)
  | .boltRemove _ => true
  | .boltStatus _ => true
  | .genCfg _ => true
  | .reqOpen _ => true
  | .reqPause _ => true
  | .pauseCopyDone req => decide (req < Config.requests)
  | .reqResume _ => true
  | .resumeCopyDone req _ => decide (req < Config.requests)
  | .reqCancel _ => true
  | .draftSet _ => true
  | .garmentRequestUpdate u => decide (u.req < Config.requests) && decide (u.ctx < Config.contexts)
  | .stepBegin _ => true
  | .stepMode _ => true
  | .accEvery _ => true
  | .ledgerRead _ => true
  | .reshard _ => true
  | .reshardStart gar _ => decide (gar < 65536)
  | .bastingMoveAck gar _ _ _ => decide (gar < 65536)
  | .bastingMessage _ => true
  | .turnBaste gar _ => decide (gar < 65536)
  | .turnFinish gar _ => decide (gar < 65536)
  | .turnAbortReceive gar _ _ => decide (gar < 65536)
  | .stagedReceive gar _ _ => decide (gar < 65536)
  | .ckptSave _ => true
  | .ckptStreamDone ctx _ => decide (ctx < Config.contexts)
  | .ckptBlockWrite ctx _ _ => decide (ctx < Config.contexts)
  | .ckptRestore _ => true
  | .restoreBlockFetch ctx _ _ => decide (ctx < Config.contexts)
  | .restoreDone ctx => decide (ctx < Config.contexts)
  | .riskSet _ => true
  | .recallCtx _ => true
  | .ckptWantReceive gar _ => decide (gar < 65536)
  | .knotOpen _ => true
  | .knotSet _ => true
  | .knotRead _ => true
  | .knotClose _ => true
  | .knotCycles _ => true
  | .spoolOpen _ => true
  | .spoolRead _ => true
  | .spoolClose _ => true
  | .garmentOpen _ => true
  | .joinReceive gar _ => decide (gar < 65536)
  | .garmentClose _ => true
  | .arraySet _ => true
  | .spareSet _ => true
  | .spareSubstitute _ => true
  | .linkStatus _ => true
  | .patchStage _ => true
  | .patchStaged => true
  | .patchActivate _ => true
  | .tailorResync clu => decide (clu < 2)
  | .needleFence _ => true
  | .needleSelfTestDone n _ _ => decide (n < Config.needles)
  | .channelMove _ => true
  | .channelCopyUnitAck chan unit _ _ => decide (chan < 768) && decide (unit < 64)
  | .channelMoveDrain chan => decide (chan < 768)
  | .channelRetrainDone chan _ _ => decide (chan < 768)
  | .laneRecal _ => true
  | .laneRecalDone link _ => decide (link < 20)
  | .gussetSet _ => true
  | .thimbleUpdate _ => true
  | .thimbleRestartDone _ _ => true
  | .tapeSet _ => true
  | .tapeRead _ => true
  | .arbCounters _ => true
  | .memStatus _ => true
  | .memLogRead _ => true
  | .memScrub _ => true
  | .memPpr _ => true
  | .memLaneSet _ => true
  | .add n _ => decide (n < Config.needles)
  | .sub n _ => decide (n < Config.needles)
  | .and n _ => decide (n < Config.needles)
  | .or n _ => decide (n < Config.needles)
  | .xor n _ => decide (n < Config.needles)
  | .shl n _ => decide (n < Config.needles)
  | .shr n _ => decide (n < Config.needles)
  | .sra n _ => decide (n < Config.needles)
  | .slt n _ => decide (n < Config.needles)
  | .sltu n _ => decide (n < Config.needles)
  | .min n _ => decide (n < Config.needles)
  | .max n _ => decide (n < Config.needles)
  | .mul n _ => decide (n < Config.needles)
  | .mulhu n _ => decide (n < Config.needles)
  | .divu n _ => decide (n < Config.needles)
  | .remu n _ => decide (n < Config.needles)
  | .addi n _ => decide (n < Config.needles)
  | .andi n _ => decide (n < Config.needles)
  | .ori n _ => decide (n < Config.needles)
  | .xori n _ => decide (n < Config.needles)
  | .shli n _ => decide (n < Config.needles)
  | .shri n _ => decide (n < Config.needles)
  | .srai n _ => decide (n < Config.needles)
  | .slti n _ => decide (n < Config.needles)
  | .li n _ => decide (n < Config.needles)
  | .lih n _ => decide (n < Config.needles)
  | .beq n _ => decide (n < Config.needles)
  | .bne n _ => decide (n < Config.needles)
  | .blt n _ => decide (n < Config.needles)
  | .bge n _ => decide (n < Config.needles)
  | .bltu n _ => decide (n < Config.needles)
  | .bgeu n _ => decide (n < Config.needles)
  | .jal n _ => decide (n < Config.needles)
  | .jr n _ => decide (n < Config.needles)
  | .ld8u n _ => decide (n < Config.needles)
  | .ld16u n _ => decide (n < Config.needles)
  | .ld32u n _ => decide (n < Config.needles)
  | .ld64 n _ => decide (n < Config.needles)
  | .ld8s n _ => decide (n < Config.needles)
  | .ld16s n _ => decide (n < Config.needles)
  | .ld32s n _ => decide (n < Config.needles)
  | .st8 n _ => decide (n < Config.needles)
  | .st16 n _ => decide (n < Config.needles)
  | .st32 n _ => decide (n < Config.needles)
  | .st64 n _ => decide (n < Config.needles)
  | .nopInsn n _ => decide (n < Config.needles)
  | .sync n _ => decide (n < Config.needles)
  | .qsync n _ => decide (n < Config.needles)
  | .setvl n _ => decide (n < Config.needles)
  | .rdsr n _ => decide (n < Config.needles)
  | .tie n _ => decide (n < Config.needles)
  | .dma n _ => decide (n < Config.needles)
  | .dmaDescriptorStart n eng => decide (n < Config.needles) && decide (eng < 2)
  | .dmaSlotAcknowledged n eng slot _ => decide (n < Config.needles) && decide (eng < 2) && decide (slot < 16)
  | .dmastat n _ => decide (n < Config.needles)
  | .kadd n _ => decide (n < Config.needles)
  | .karrive n _ => decide (n < Config.needles)
  | .kset n _ => decide (n < Config.needles)
  | .kclr n _ => decide (n < Config.needles)
  | .kwait n _ => decide (n < Config.needles)
  | .kwaitSatisfied n => decide (n < Config.needles)
  | .kwaitGiveUp n => decide (n < Config.needles)
  | .kread n _ => decide (n < Config.needles)
  | .knotOperationMessage (.ask _ _ _ _ _ _ _) => true
  | .knotOperationMessage (.result n _ _ _) => decide (n < Config.needles)
  | .wload n _ => decide (n < Config.needles)
  | .mmul n _ => decide (n < Config.needles)
  | .promote n _ => decide (n < Config.needles)
  | .aclr n _ => decide (n < Config.needles)
  | .arel n _ => decide (n < Config.needles)
  | .aflags n _ => decide (n < Config.needles)
  | .aload n _ => decide (n < Config.needles)
  | .astore n _ => decide (n < Config.needles)
  | .tsave n _ => decide (n < Config.needles)
  | .trestore n _ => decide (n < Config.needles)
  | .accSendAdd n _ => decide (n < Config.needles)
  | .accSendImg n _ => decide (n < Config.needles)
  | .accSendAcknowledged n _ _ _ => decide (n < Config.needles)
  | .vaddF n _ => decide (n < Config.needles)
  | .vsubF n _ => decide (n < Config.needles)
  | .vmulF n _ => decide (n < Config.needles)
  | .vfmaF n _ => decide (n < Config.needles)
  | .vfnmaF n _ => decide (n < Config.needles)
  | .vdivF n _ => decide (n < Config.needles)
  | .vsqrtF n _ => decide (n < Config.needles)
  | .vminF n _ => decide (n < Config.needles)
  | .vmaxF n _ => decide (n < Config.needles)
  | .vabsF n _ => decide (n < Config.needles)
  | .vnegF n _ => decide (n < Config.needles)
  | .vscalbF n _ => decide (n < Config.needles)
  | .vcmpF n _ => decide (n < Config.needles)
  | .vexp2 n _ => decide (n < Config.needles)
  | .vlog2 n _ => decide (n < Config.needles)
  | .vrcp n _ => decide (n < Config.needles)
  | .vrsqrt n _ => decide (n < Config.needles)
  | .vtanh n _ => decide (n < Config.needles)
  | .vaddI n _ => decide (n < Config.needles)
  | .vsubI n _ => decide (n < Config.needles)
  | .vmulI n _ => decide (n < Config.needles)
  | .vand n _ => decide (n < Config.needles)
  | .vor n _ => decide (n < Config.needles)
  | .vxor n _ => decide (n < Config.needles)
  | .vshl n _ => decide (n < Config.needles)
  | .vshr n _ => decide (n < Config.needles)
  | .vsra n _ => decide (n < Config.needles)
  | .vminI n _ => decide (n < Config.needles)
  | .vmaxI n _ => decide (n < Config.needles)
  | .vcmpI n _ => decide (n < Config.needles)
  | .vsel n _ => decide (n < Config.needles)
  | .vld n _ => decide (n < Config.needles)
  | .vst n _ => decide (n < Config.needles)
  | .vmld n _ => decide (n < Config.needles)
  | .vmst n _ => decide (n < Config.needles)
  | .vunpk n _ => decide (n < Config.needles)
  | .vpack n _ => decide (n < Config.needles)
  | .vrand n _ => decide (n < Config.needles)
  | .vredsumF n _ => decide (n < Config.needles)
  | .vredmaxF n _ => decide (n < Config.needles)
  | .vredminF n _ => decide (n < Config.needles)
  | .vredsumI n _ => decide (n < Config.needles)
  | .vredmaxI n _ => decide (n < Config.needles)
  | .vredminI n _ => decide (n < Config.needles)
  | .vscanF n _ => decide (n < Config.needles)
  | .vscanI n _ => decide (n < Config.needles)
  | .vperm n _ => decide (n < Config.needles)
  | .vbfly n _ => decide (n < Config.needles)
  | .vtr8 n _ => decide (n < Config.needles)
  | .vziplo n _ => decide (n < Config.needles)
  | .vziphi n _ => decide (n < Config.needles)
  | .vuzpe n _ => decide (n < Config.needles)
  | .vuzpo n _ => decide (n < Config.needles)
  | .vcompress n _ => decide (n < Config.needles)
  | .vexpand n _ => decide (n < Config.needles)
  | .vidx n _ => decide (n < Config.needles)
  | .vmpfx n _ => decide (n < Config.needles)
  | .vcvt n _ => decide (n < Config.needles)
  | .viext n _ => decide (n < Config.needles)
  | .vmand n _ => decide (n < Config.needles)
  | .vmor n _ => decide (n < Config.needles)
  | .vmxor n _ => decide (n < Config.needles)
  | .vmandn n _ => decide (n < Config.needles)
  | .vmnot n _ => decide (n < Config.needles)
  | .vmlen n _ => decide (n < Config.needles)
  | .vmpop n _ => decide (n < Config.needles)
  | .vmfirst n _ => decide (n < Config.needles)
  | .vext n _ => decide (n < Config.needles)
  | .vmov n _ => decide (n < Config.needles)
  | .routerMessage b => decide (b.fits = true)
  | .memoryReadRequest chan _ _ _ _ _ _ _ => decide (chan < 768)
  | .granuleRecopyDone img _ _ => decide (img < 1024)
  | .memoryWriteRequest chan _ _ _ _ _ _ _ => decide (chan < 768)
  | .remoteAccumulation _ => true
  | .fixedSummationDone ctx _ _ => decide (ctx < Config.contexts)
  | .checksumCompare ctx _ _ => decide (ctx < Config.contexts)
  | .divisorWrite ctx _ => decide (ctx < Config.contexts)
  | .contributionNotice _ => true
  | .stepCompleteNotice ctx _ _ _ _ => decide (ctx < Config.contexts)
  | .stepAbortNotice ctx _ _ _ => decide (ctx < Config.contexts)
  | .peerSegmentAccess _ => true
  | .flitReceive link _ => decide (link < 20)
  | .nakReceive link _ => decide (link < 20)
  | .laneFault link lane _ => decide (link < 20) && decide (lane < 9)
  | .laneFlit link lane boundary => decide (link < 20) && decide (lane < 9) && decide (boundary < 4096)
  | .heartbeatReceive link _ => decide (link < 20)
  | .tickMarkReceive link _ _ _ => decide (link < 16)
  | .epochMarkReceive link _ _ _ _ _ => decide (link < 20) && decide (16 ≤ link)
  | .linkElectricalIdle link => decide (link < 20)
  | .lossNoticeReceive link _ _ _ => decide (link < 20)
  | .selvedgePortFence link => decide (link < 20) && decide (16 ≤ link)
  | .needleParityError n => decide (n < Config.needles)
  | .instructionStoreParity n => decide (n < Config.needles)
  | .sleeveUe n off _ => decide (n < Config.needles) && decide (off < 0x300000)
  | .pincushionLineUe chan _ => decide (chan < 768)
  | .knotCopyUe knot _ => decide (knot < Config.knots)
  | .contextKeyIntegrityFail ctx => decide (ctx < Config.contexts)
  | .tailorMismatch clu => decide (clu < 2)
  | .liningHeaderError router => decide (router < 96)
  | .thimbleError => true
  | .tickLogicError => true
  | .hostPortWriteFailure (.spool _) => true
  | .hostPortWriteFailure (.store n _ _) => decide (n < Config.needles)
  | .hostReadPoison n _ _ => decide (n < Config.needles)
  | .pwrOkFall => true
  | .inputVoltageFault => true
  | .modResetAssert => true
  | .bringupStart _ _ => true
  | .bringupStepTimeout _ => true
  | .perstAssert port => decide (0 < port) && decide (port < 3)
  | .perstDeassert port => decide (0 < port) && decide (port < 3)
  | .tickRefLoss => true
  | .tickRefReturn => true
  | .configRequest port => decide (0 < port) && decide (port < 3)
  | .i3cDynamicAddress _ => true
  | .pldmBaseRequest binding => decide (binding < 3)
  | .pldmPlatformRequest binding _ => decide (binding < 3)
  | .pldmFruRequest binding => decide (binding < 3)
  | .getVersion port => decide (0 < port) && decide (port < 3)
  | .getCapabilities port => decide (0 < port) && decide (port < 3)
  | .negotiateAlgorithms port _ => decide (0 < port) && decide (port < 3)
  | .getDigests port => decide (0 < port) && decide (port < 3)
  | .getCertificate port _ _ _ => decide (0 < port) && decide (port < 3)
  | .challenge port _ _ => decide (0 < port) && decide (port < 3)
  | .getMeasurements port _ _ _ => decide (0 < port) && decide (port < 3)
  | .keyExchange port => decide (0 < port) && decide (port < 3)
  | .finish port _ _ => decide (0 < port) && decide (port < 3)
  | .keyUpdate port _ => decide (0 < port) && decide (port < 3)
  | .heartbeat port _ => decide (0 < port) && decide (port < 3)
  | .endSession port _ => decide (0 < port) && decide (port < 3)
  | .ideKm port _ _ _ => decide (0 < port) && decide (port < 3)
  | .input48vApplied _ => true
  | .input48vRemoved => true
  | .bringupStepDone _ => true
  | .laneEyeMarginLow link lane => decide (link < 20) && decide (lane < 8)
  | .boltPageRead img _ copy _ _ _ _ _ => decide (img < 1024) && decide (copy < 2)
  | .boltPageProgram img _ copy _ _ _ _ => decide (img < 1024) && decide (copy < 2)
  | .tailorSelfTestDone clu _ => decide (clu < 2)
  | .thimbleUpdateVerified _ => true
  | .olukorAreaRebuildDone ctx _ _ => decide (ctx < Config.contexts)
  | .tailorTableFailure ctx => decide (ctx < Config.contexts)
  | .garmentRequestAck req _ => decide (req < Config.requests)
  | .layersReadyNotice gar _ _ => decide (gar < 65536)
  | .fillStageNotice img _ _ pos => decide (img < 1024) && decide (pos < 9)
  | .peerGranuleRequest _ img _ _ _ => decide (img < 1024)
  | .mctpEndpointIdAssign binding _ => decide (binding < 3)
  | .i3cInterruptEnable _ => true

end Sys2Proof
end

