-- ==== Sys2Proof/Safety.lean ====
section
/-! DEFINITION. The terms the statements use: the machine's invariant, what it is for an instruction to issue, and what an
instruction leaves unchanged. -/

namespace Sys2Proof.Machine

/-- Host memory, the plaintext of its ciphered units and the stacks' memory are in canonical form. -/
def State.memWf (s : State) : Bool := Mem.wf s.stack && Mem.wf s.host && Mem.wf s.hemPlain

/-- The invariant every step keeps: the memories are in canonical form and every waiting command is well formed. -/
def State.Inv (s : State) : Prop := s.memWf = true ∧ ∀ c ∈ s.pending, c.wf = true

/-- The outcome is a next state of which `P` holds. -/
def Gives (o : Host.Outcome State Fault Refusal) (P : State → Prop) : Prop := ∃ t, o = .next t ∧ P t

/-- Everything but needle `n` is as before: every other needle, every register and table outside the needles, and every byte
of host memory and of the stacks. -/
def OnlyNeedle (s t : State) (n : Nat) : Prop :=
  t = { s with needles := t.needles } ∧ (∀ m, m ≠ n → t.needle m = s.needle m) ∧
  (∀ a, Mem.read t.host a = Mem.read s.host a) ∧ (∀ a, Mem.read t.stack a = Mem.read s.stack a)

/-- Needle `n` runs a stitch that has not ended, and its next word lies in the image with a GROUP and OP that are assigned (R137, R144, R152,
R155). -/
def Issuing (s : State) (n : Nat) : Prop :=
  n < Config.needles ∧ (∃ r, (s.needle n).run = some r ∧ r.ended = none) ∧ (s.needle n).pc < (s.needle n).imageLen ∧
    (s.needle n).atAssigned = true

/-- The X registers that an instruction names exist and none is pending (R137, R139). -/
def Named (s : State) (n : Nat) (rs : List Nat) : Prop := ∀ r ∈ rs, r < 32 ∧ r ∉ (s.needle n).xPend

/-- The needle went on to its next instruction and, of all its state, at most the X registers changed: X[rd] is `v`, unless rd
is X0, which discards the write (R134). -/
def XResult (s t : State) (n rd : Nat) (v : DWord) : Prop :=
  OnlyNeedle s t n ∧ t.needle n = { s.needle n with x := (t.needle n).x, pc := (s.needle n).pc + 1 } ∧
  ∀ q, (t.needle n).getX q = if q = rd ∧ rd ≠ 0 then v else (s.needle n).getX q

/-- Element `e`, `w` bits wide, of a V register (R182). -/
def vElem (w : Nat) (v : VReg) (e : Nat) : Nat := v.toNat / 2 ^ (w * e) % 2 ^ w

/-- R183: whether element `e` is active under VL and the mask the instruction names. -/
def vActive (nd : Needle) (f : FmtR) (e : Nat) : Bool := decide (e < nd.vl) && ((nd.getM f.msk.toNat).getLsbD e != f.minv)

/-- Needle `n` issues and nothing waits in its vector queue; the element width is one SETVL can set (R135, R137). -/
def VIssuing (s : State) (n : Nat) : Prop := Issuing s n ∧ (s.needle n).vq = [] ∧ (s.needle n).ew < 3

/-- The needle went on to its next instruction and, of all its state, at most its V registers changed: of V[rd], the elements
that `sel` names are `g` of their index, modulo 2^w; every other element and register is as before. -/
def VWrites (s t : State) (n : Nat) (f : FmtR) (sel : Nat → Bool) (g : Nat → Nat) : Prop :=
  let nd := s.needle n
  let w := ewWidth nd.ew
  OnlyNeedle s t n ∧ t.needle n = { nd with v := (t.needle n).v, pc := nd.pc + 1 } ∧
  (∀ q, q ≠ f.rd.toNat → (t.needle n).getV q = nd.getV q) ∧
  ∀ e, e < 2048 / w →
    vElem w ((t.needle n).getV f.rd.toNat) e = if sel e then g e % 2 ^ w else vElem w (nd.getV f.rd.toNat) e

/-- R183: a V destination takes the results in its active elements. -/
def VResult (s t : State) (n : Nat) (f : FmtR) (g : Nat → Nat) : Prop := VWrites s t n f (vActive (s.needle n) f) g

/-- R195, R196: a reduction or scan writes every element below VL. -/
def VBelow (s t : State) (n : Nat) (f : FmtR) (g : Nat → Nat) : Prop := VWrites s t n f (fun e => decide (e < (s.needle n).vl)) g

/-- The needle went on and at most its M registers changed: of M[rd], unless rd is M0, which discards the write (R134), bit
`e` is `g e`; every other register is as before. -/
def MWrites (s t : State) (n rd : Nat) (g : Nat → Bool) : Prop :=
  OnlyNeedle s t n ∧ t.needle n = { s.needle n with m := (t.needle n).m, pc := (s.needle n).pc + 1 } ∧
  (∀ q, q ≠ rd → (t.needle n).getM q = (s.needle n).getM q) ∧
  (rd ≠ 0 → ∀ e, e < 256 → ((t.needle n).getM rd).getLsbD e = g e)

/-- R183: a compare writes the active bits, keeps the others below VL and clears those from VL on. -/
def MCompare (s t : State) (n : Nat) (f : FmtR) (g : Nat → Bool) : Prop :=
  let nd := s.needle n
  MWrites s t n f.rd.toNat (fun e => decide (e < nd.vl) && decide (e < 2048 / ewWidth nd.ew) &&
    (if vActive nd f e then g e else (nd.getM f.rd.toNat).getLsbD e))

/-- Needle `n` issues, nothing waits in its matrix queue and no KWAIT is outstanding (R137, R240). -/
def MIssuing (s : State) (n : Nat) : Prop := Issuing s n ∧ (s.needle n).mq = [] ∧ (s.needle n).kwait = none

/-- The needle's stitch has not ended. -/
def Alive (s : State) (n : Nat) : Prop := ∃ r, (s.needle n).run = some r ∧ r.ended = none

/-- From `s1` on, needle `n` took tile `ti` as `u`, went on to its next instruction, and of its run record only ACC_FLAGS,
SH_FLAGS, the split count and the non-canonical mark may differ (R114, R116, R146); nothing else changed. -/
def TileResult (s1 t : State) (n ti : Nat) (u : Tile) : Prop :=
  let nd := s1.needle n
  OnlyNeedle s1 t n ∧ (t.needle n).tile ti = u ∧ (∀ k, k ≠ ti → (t.needle n).tile k = nd.tile k) ∧
  t.needle n = { nd with tiles := (t.needle n).tiles, run := (t.needle n).run, pc := nd.pc + 1 } ∧
  ∃ r r', nd.run = some r ∧ (t.needle n).run = some r' ∧
    r' = { r with accFlags := r'.accFlags, shFlags := r'.shFlags, splits := r'.splits, noncanon := r'.noncanon }

-- ---------------------------------------------------------------- commands

/-- The module takes work, the entry and its block were read, and the command's own context, if it has one, is not closing
(R447, R459, R472). -/
def Admits (s : State) (r : CmdReq) : Prop :=
  s.isReady = true ∧ r.readFailed = false ∧ ∀ c cx, originCtx r.origin = some c → s.ctx? c = some cx → cx.closing = false

/-- A well-formed device-scoped entry (R12, R460). -/
def DevReq (s : State) (r : CmdReq) (form : CmdForm) (allow : List (Nat × Nat)) : Prop :=
  Admits s r ∧ formOk r form allow = true ∧ r.w 0x04 = 0

/-- A well-formed context-scoped entry that acts on the open context `c` (R12, R460). -/
def CtxReq (s : State) (r : CmdReq) (form : CmdForm) (allow : List (Nat × Nat)) (c : Nat) (cx : Context) : Prop :=
  Admits s r ∧ formOk r form allow = true ∧ s.cmdCtx r = .ok c ∧ s.ctx? c = some cx

/-- The command leaves `u`, with its completion of status OK and its result words due (R448, R450). -/
def Done (o : Host.Outcome State Fault Refusal) (op : Nat) (r : CmdReq) (u : State) (res : List Nat) : Prop :=
  o = .next (u.complete { r with opcode := op } 0x00 res)

/-- The command is turned away with a status and changes nothing but its own completion (R463). -/
def Turned (o : Host.Outcome State Fault Refusal) (op : Nat) (r : CmdReq) (s : State) (status : Nat) : Prop :=
  o = .next (s.complete { r with opcode := op } status [])

/-- The command writes records to its output buffer, all of which fit, and no other byte (R462). -/
def Reports (o : Host.Outcome State Fault Refusal) (op : Nat) (r : CmdReq) (s : State) (recs : List (List Byte)) : Prop :=
  Done o op r { s with host := Mem.writeN s.host (r.d 0x30) recs.flatten } [recs.length, recs.length]

/-- The command's staged table entry waits for the commit's step 2 (R45). -/
def Stages (o : Host.Outcome State Fault Refusal) (op : Nat) (r : CmdReq) (s : State) (es : List Staged) : Prop :=
  Done o op r { s with shadow := s.shadow ++ es } []

/-- A long-running command has started: the state it leaves holds it among the running ones, with no completion yet (R448). -/
def Started (o : Host.Outcome State Fault Refusal) (op : Nat) (r : CmdReq) (u : State) : Prop :=
  o = .next { u with running := u.running ++ [{ r with opcode := op }] }

/-- The command leaves a state of which `P` holds, with its completion of status OK and its result words due (R448, R450). -/
def DoneWith (o : Host.Outcome State Fault Refusal) (op : Nat) (r : CmdReq) (res : List Nat) (P : State → Prop) : Prop :=
  ∃ u : State, Done o op r u res ∧ P u

/-- A long-running command has started and left a state of which `P` holds (R448). -/
def StartedWith (o : Host.Outcome State Fault Refusal) (op : Nat) (r : CmdReq) (P : State → Prop) : Prop :=
  ∃ u : State, Started o op r u ∧ P u

/-- One message of these words left for a member under the next number (R211). -/
def Sent (s t : State) (dest kind : Nat) (words : List Nat) : Prop :=
  t.board.nextMsg = s.board.nextMsg + 1 ∧ ∃ m, t.board.outgoing = s.board.outgoing ++ [m] ∧ m.id = s.board.nextMsg ∧ m.dest = dest ∧
    m.kind = kind ∧ m.words = words

/-- The memories are as before. -/
def SameMemory (s t : State) : Prop := t.host = s.host ∧ t.stack = s.stack

end Sys2Proof.Machine
end

