-- ==== Sys2Proof/Certificates/Slice0/Obligations.lean ====
section
/-! DEFINITION. The statements for the provers. -/

open Sys2Proof Sys2Proof.Machine

/-- A step takes the command at the front of the queue: it is exec of that command on the state with the queue's rest. On an
empty queue the block idles (assumption 1). -/
def Obligations.StepRunsFrontCommand : Prop :=
  (∀ (c : Instr) (rest : List Instr) (s : State), step { s with pending := c :: rest } = exec c { s with pending := rest }) ∧
  ∀ s : State, s.pending = [] → step s = .next s

/-- R26, R28, R74, R273, R297, R433, R440, R442: the machine after reset meets the invariant, and its settings and registers read what the
manual states for them; the module is without its input, so it is not READY, and the Tailor's cluster A is active. -/
def Obligations.ResetMeetsInvariant : Prop :=
  State.reset.Inv ∧ State.reset.pending = [] ∧ State.reset.isReady = false ∧
  State.reset.tick.periodCode = 12 ∧ State.reset.tick.guardUs = 40 ∧ State.reset.tick.number = 0 ∧ State.reset.tick.hiLatch = 0 ∧
  State.reset.adm.tlim = 95 ∧ State.reset.gussetReserve = 8 ∧ State.reset.gussetHold = 0 ∧ State.reset.board.spareMask = 2 ^ 8 ∧
  State.reset.devStatus = 0x00000300 ∧ State.reset.mgmt.setup = 0 ∧ State.reset.mgmt.isOpen = false ∧ State.reset.mgmt.err = false ∧
  State.reset.staleEpoch = 0 ∧ State.reset.staleGen = 0 ∧ State.reset.staleLast = 0 ∧ State.reset.tailor.activeB = false ∧
  State.reset.contexts = [] ∧ State.reset.requests = [] ∧ State.reset.knots = [] ∧ State.reset.spools = []

/-- From every state that meets the invariant the machine takes a step, and the invariant still holds: a queue of well-formed
commands never stops the machine. Every well-formed command has a next state from every state, whether or not it meets the invariant. -/
def Obligations.StepsKeepInvariantAndNeverStop : Prop :=
  (∀ s : State, s.Inv → ∃ t, step s = .next t ∧ t.Inv) ∧
  ∀ (i : Instr) (s : State), i.wf = true → ∃ t, exec i s = .next t

-- ---------------------------------------------------------------- the scalar unit

/-- R145, groups 0x0 and 0x1: rd takes the operation of rs1 and rs2, or of rs1 and the sign-extended immediate; X0 discards the write; nothing
else of the needle changes but the pc. -/
def Obligations.ScalarOperations : Prop :=
  (∀ (s : State) (n : Nat) (f : FmtR), Issuing s n → Named s n [f.rd.toNat, f.rs1.toNat, f.rs2.toNat] →
    f.rs3 = 0 → f.msk = 0 → f.minv = false → f.func = 0 →
    let a := (s.needle n).getX f.rs1.toNat
    let b := (s.needle n).getX f.rs2.toNat
    let res (v : DWord) (t : State) : Prop := XResult s t n f.rd.toNat v
    Gives (exec (.add n f) s) (res (a + b)) ∧
    Gives (exec (.sub n f) s) (res (a - b)) ∧
    Gives (exec (.and n f) s) (res (a &&& b)) ∧
    Gives (exec (.or n f) s) (res (a ||| b)) ∧
    Gives (exec (.xor n f) s) (res (a ^^^ b)) ∧
    Gives (exec (.shl n f) s) (res (a <<< (b.toNat % 64))) ∧
    Gives (exec (.shr n f) s) (res (a >>> (b.toNat % 64))) ∧
    Gives (exec (.sra n f) s) (res (a.sshiftRight (b.toNat % 64))) ∧
    Gives (exec (.slt n f) s) (res (if a.toInt < b.toInt then 1 else 0)) ∧
    Gives (exec (.sltu n f) s) (res (if a.toNat < b.toNat then 1 else 0)) ∧
    Gives (exec (.min n f) s) (res (if a.toInt < b.toInt then a else b)) ∧
    Gives (exec (.max n f) s) (res (if a.toInt < b.toInt then b else a)) ∧
    Gives (exec (.mul n f) s) (res (BitVec.ofNat 64 (a.toNat * b.toNat))) ∧
    Gives (exec (.mulhu n f) s) (res (BitVec.ofNat 64 (a.toNat * b.toNat / 2 ^ 64))) ∧
    Gives (exec (.divu n f) s) (res (if b = 0 then BitVec.ofNat 64 (2 ^ 64 - 1) else BitVec.ofNat 64 (a.toNat / b.toNat))) ∧
    Gives (exec (.remu n f) s) (res (if b = 0 then a else BitVec.ofNat 64 (a.toNat % b.toNat)))) ∧
  (∀ (s : State) (n : Nat) (f : FmtI), Issuing s n → Named s n [f.rd.toNat, f.rs1.toNat] →
    let a := (s.needle n).getX f.rs1.toNat
    let d := (s.needle n).getX f.rd.toNat
    let i := f.imm.signExtend 64
    let res (v : DWord) (t : State) : Prop := XResult s t n f.rd.toNat v
    Gives (exec (.addi n f) s) (res (a + i)) ∧
    Gives (exec (.andi n f) s) (res (a &&& i)) ∧
    Gives (exec (.ori n f) s) (res (a ||| i)) ∧
    Gives (exec (.xori n f) s) (res (a ^^^ i)) ∧
    Gives (exec (.slti n f) s) (res (if a.toInt < i.toInt then 1 else 0)) ∧
    (f.imm.toNat < 64 →
      Gives (exec (.shli n f) s) (res (a <<< f.imm.toNat)) ∧
      Gives (exec (.shri n f) s) (res (a >>> f.imm.toNat)) ∧
      Gives (exec (.srai n f) s) (res (a.sshiftRight f.imm.toNat))) ∧
    (f.rs1 = 0 → Gives (exec (.li n f) s) (res i)) ∧
    (f.rs1 = 0 → f.imm.toNat < 2 ^ 24 →
      Gives (exec (.lih n f) s) (res (BitVec.ofNat 64 (d.toNat % 2 ^ 40 + f.imm.toNat * 2 ^ 40)))))

/-- R145, group 0x2: a taken branch goes to pc plus OFF, one not taken to the next instruction; JAL leaves the byte address
of the next instruction in ra, and JR goes to X[ra] / 8. A target outside the image faults with ILLEGAL, and a JR target that
is no multiple of 8 with ALIGN. -/
def Obligations.BranchesAndJumps : Prop :=
  ∀ (s : State) (n : Nat) (f : FmtB), Issuing s n → Named s n [f.ra.toNat, f.rb.toNat] →
    let nd := s.needle n
    let a := nd.getX f.ra.toNat
    let b := nd.getX f.rb.toNat
    let target : Int := (nd.pc : Int) + f.off.toInt
    let inside : Prop := 0 ≤ target ∧ target < nd.imageLen
    let goes (p : Nat) (t : State) : Prop := OnlyNeedle s t n ∧ t.needle n = { nd with pc := p }
    let branches (o : Host.Outcome State Fault Refusal) (taken : Prop) : Prop :=
      (¬ taken → Gives o (goes (nd.pc + 1))) ∧ (taken → inside → Gives o (goes target.toNat)) ∧
      (taken → ¬ inside → o = .next (s.faultStitch n fkIllegal))
    branches (exec (.beq n f) s) (a = b) ∧
    branches (exec (.bne n f) s) (a ≠ b) ∧
    branches (exec (.blt n f) s) (a.toInt < b.toInt) ∧
    branches (exec (.bge n f) s) (b.toInt ≤ a.toInt) ∧
    branches (exec (.bltu n f) s) (a.toNat < b.toNat) ∧
    branches (exec (.bgeu n f) s) (b.toNat ≤ a.toNat) ∧
    (f.rb = 0 →
      (inside → Gives (exec (.jal n f) s) (fun t => OnlyNeedle s t n ∧
        t.needle n = { nd with x := (t.needle n).x, pc := target.toNat } ∧
        ∀ q, (t.needle n).getX q = if q = f.ra.toNat ∧ f.ra.toNat ≠ 0 then BitVec.ofNat 64 (8 * (nd.pc + 1)) else nd.getX q)) ∧
      (¬ inside → exec (.jal n f) s = .next (s.faultStitch n fkIllegal))) ∧
    (f.rb = 0 → f.off = 0 →
      (a.toNat % 8 = 0 → a.toNat / 8 < nd.imageLen → Gives (exec (.jr n f) s) (goes (a.toNat / 8))) ∧
      (a.toNat % 8 = 0 → nd.imageLen ≤ a.toNat / 8 → exec (.jr n f) s = .next (s.faultStitch n fkIllegal)) ∧
      (a.toNat % 8 ≠ 0 → exec (.jr n f) s = .next (s.faultStitch n fkAlign)))

/-- R129 to R131, R145: a scalar load reads the Sleeve at X[rs1] plus the immediate, aligned to its width and inside the
Sleeve's sound banks, and extends what it read to 64 bits.
R129 to R131, R145: a scalar store writes the low bytes of X[rd] to the Sleeve at X[rs1] plus the immediate, and no other
byte of it.
R129, R131, R133, R145: a scalar access that is not aligned faults with ALIGN, one outside the Sleeve's space with SPACE, one
in the X-window with XWIN and one beyond it with SLV_BOUND; an access to the Sleeve's first byte under a pending register
waits. -/
def Obligations.ScalarMemoryAccesses : Prop :=
  (∀ (s : State) (n : Nat) (f : FmtI) (off : Nat), Issuing s n → Named s n [f.rd.toNat, f.rs1.toNat] →
    let nd := s.needle n
    let addr := (nd.getX f.rs1.toNat + f.imm.signExtend 64).toNat
    addr = 2 ^ 56 + off → off < 0x300000 →
    let good (w : Nat) : Prop := off % w = 0 ∧ ∀ b ∈ nd.banks, b ≠ off / 0x40000
    let bytes (w : Nat) : Nat := Mem.readLE nd.sleeve off w
    let res (v : DWord) (t : State) : Prop := XResult s t n f.rd.toNat v
    (good 1 → Gives (exec (.ld8u n f) s) (res (BitVec.ofNat 64 (bytes 1)))) ∧
    (good 2 → Gives (exec (.ld16u n f) s) (res (BitVec.ofNat 64 (bytes 2)))) ∧
    (good 4 → Gives (exec (.ld32u n f) s) (res (BitVec.ofNat 64 (bytes 4)))) ∧
    (good 8 → Gives (exec (.ld64 n f) s) (res (BitVec.ofNat 64 (bytes 8)))) ∧
    (good 1 → Gives (exec (.ld8s n f) s) (res ((BitVec.ofNat 8 (bytes 1)).signExtend 64))) ∧
    (good 2 → Gives (exec (.ld16s n f) s) (res ((BitVec.ofNat 16 (bytes 2)).signExtend 64))) ∧
    (good 4 → Gives (exec (.ld32s n f) s) (res ((BitVec.ofNat 32 (bytes 4)).signExtend 64)))) ∧
  (∀ (s : State) (n : Nat) (f : FmtI) (off : Nat), Issuing s n → Named s n [f.rd.toNat, f.rs1.toNat] →
    let nd := s.needle n
    let addr := (nd.getX f.rs1.toNat + f.imm.signExtend 64).toNat
    addr = 2 ^ 56 + off → off < 0x300000 →
    let good (w : Nat) : Prop := off % w = 0 ∧ ∀ b ∈ nd.banks, b ≠ off / 0x40000
    let stored (w : Nat) (t : State) : Prop :=
      OnlyNeedle s t n ∧ t.needle n = { nd with sleeve := (t.needle n).sleeve, pc := nd.pc + 1 } ∧
      Mem.readLE (t.needle n).sleeve off w = (nd.getX f.rd.toNat).toNat % 256 ^ w ∧
      ∀ a, a < off ∨ off + w ≤ a → Mem.read (t.needle n).sleeve a = Mem.read nd.sleeve a
    (good 1 → Gives (exec (.st8 n f) s) (stored 1)) ∧
    (good 2 → Gives (exec (.st16 n f) s) (stored 2)) ∧
    (good 4 → Gives (exec (.st32 n f) s) (stored 4)) ∧
    (good 8 → Gives (exec (.st64 n f) s) (stored 8))) ∧
  (∀ (s : State) (n : Nat) (f : FmtI), Issuing s n → Named s n [f.rd.toNat, f.rs1.toNat] →
    let addr := ((s.needle n).getX f.rs1.toNat + f.imm.signExtend 64).toNat
    let faults (k : Nat) (o : Host.Outcome State Fault Refusal) : Prop := o = .next (s.faultStitch n k)
    (addr % 8 ≠ 0 → faults fkAlign (exec (.ld64 n f) s) ∧ faults fkAlign (exec (.st64 n f) s)) ∧
    (addr % 8 = 0 → addr / 2 ^ 56 ≠ 1 → faults fkSpace (exec (.ld64 n f) s) ∧ faults fkSpace (exec (.st64 n f) s)) ∧
    (addr % 8 = 0 → 2 ^ 56 + 0x300000 ≤ addr → addr < 2 ^ 56 + 0x300100 →
      faults fkXwin (exec (.ld64 n f) s) ∧ faults fkXwin (exec (.st64 n f) s)) ∧
    (addr % 8 = 0 → 2 ^ 56 + 0x300100 ≤ addr → addr < 2 ^ 56 + 0x400000 →
      faults fkSlvBound (exec (.ld64 n f) s) ∧ faults fkSlvBound (exec (.st64 n f) s)))

-- ---------------------------------------------------------------- the vector engine

/-- R183, R186: the integer operations of group 0x8, element by element, where nothing waits in the vector queue. -/
def Obligations.VectorIntegerOperations : Prop :=
  ∀ (s : State) (n : Nat) (f : FmtR), VIssuing s n → f.rs3 = 0 →
    let nd := s.needle n
    let w := ewWidth nd.ew
    let a := vElem w (nd.getV f.rs1.toNat)
    let b := vElem w (nd.getV f.rs2.toNat)
    let sg (c : Nat) : Int := if c < 2 ^ (w - 1) then c else (c : Int) - 2 ^ w
    let res (g : Nat → Nat) (t : State) : Prop := VResult s t n f g
    (f.func = 0 →
      Gives (exec (.vaddI n f) s) (res (fun e => a e + b e)) ∧
      Gives (exec (.vsubI n f) s) (res (fun e => a e + 2 ^ w - b e)) ∧
      Gives (exec (.vmulI n f) s) (res (fun e => a e * b e)) ∧
      Gives (exec (.vand n f) s) (res (fun e => Nat.land (a e) (b e))) ∧
      Gives (exec (.vor n f) s) (res (fun e => Nat.lor (a e) (b e))) ∧
      Gives (exec (.vxor n f) s) (res (fun e => Nat.xor (a e) (b e))) ∧
      Gives (exec (.vshl n f) s) (res (fun e => a e * 2 ^ (b e % w))) ∧
      Gives (exec (.vshr n f) s) (res (fun e => a e / 2 ^ (b e % w))) ∧
      Gives (exec (.vsra n f) s) (res (fun e => (sg (a e) / 2 ^ (b e % w) % 2 ^ w).toNat)) ∧
      Gives (exec (.vminI n f) s) (res (fun e => if sg (b e) < sg (a e) then b e else a e)) ∧
      Gives (exec (.vmaxI n f) s) (res (fun e => if sg (a e) < sg (b e) then b e else a e))) ∧
    (f.func = 0x10 →
      Gives (exec (.vminI n f) s) (res (fun e => if b e < a e then b e else a e)) ∧
      Gives (exec (.vmaxI n f) s) (res (fun e => if a e < b e then b e else a e)))

/-- R182, R186, R187: the floating-point operations of group 0x8 in the type that EW and FUNC[0] name, element by element. -/
def Obligations.VectorFloatOperations : Prop :=
  ∀ (s : State) (n : Nat) (f : FmtR) (F : Fmt), VIssuing s n →
    (f.func = 0 ∧ (s.needle n).ew = 2 ∧ F = .fp32 ∨ f.func = 0 ∧ (s.needle n).ew = 1 ∧ F = .bf16 ∨
      f.func = 1 ∧ (s.needle n).ew = 1 ∧ F = .fp16) →
    let nd := s.needle n
    let w := ewWidth nd.ew
    let code1 := vElem w (nd.getV f.rs1.toNat)
    let code2 := vElem w (nd.getV f.rs2.toNat)
    let a (e : Nat) : FVal := F.read (code1 e)
    let b (e : Nat) : FVal := F.read (code2 e)
    let c (e : Nat) : FVal := F.read (vElem w (nd.getV f.rs3.toNat) e)
    let res (g : Nat → FVal) (t : State) : Prop := VResult s t n f (fun e => F.encode (g e))
    Gives (exec (.vfmaF n f) s) (res (fun e => F.fma (a e) (b e) (c e))) ∧
    Gives (exec (.vfnmaF n f) s) (res (fun e => F.fma (a e).neg (b e) (c e))) ∧
    (f.rs3 = 0 →
      Gives (exec (.vaddF n f) s) (res (fun e => (F.add (a e) (b e)).1)) ∧
      Gives (exec (.vsubF n f) s) (res (fun e => (F.add (a e) (b e).neg).1)) ∧
      Gives (exec (.vmulF n f) s) (res (fun e => (F.round ((a e).mul (b e))).1)) ∧
      Gives (exec (.vdivF n f) s) (res (fun e => F.div (a e) (b e))) ∧
      Gives (exec (.vminF n f) s) (res (fun e => (a e).min2 (b e))) ∧
      Gives (exec (.vmaxF n f) s) (res (fun e => (a e).max2 (b e))) ∧
      Gives (exec (.vscalbF n f) s) (res (fun e => scalb F (a e) (sInt w (code2 e)))) ∧
      (f.rs2 = 0 →
        Gives (exec (.vsqrtF n f) s) (res (fun e => F.sqrt (a e))) ∧
        Gives (exec (.vabsF n f) s) (res (fun e => if (a e).sign then (a e).neg else a e)) ∧
        Gives (exec (.vnegF n f) s) (res (fun e => (a e).neg)) ∧
        Gives (exec (.vexp2 n f) s) (fun t => VResult s t n f (fun e => approxElem F .exp2 (code1 e))) ∧
        Gives (exec (.vlog2 n f) s) (fun t => VResult s t n f (fun e => approxElem F .log2 (code1 e))) ∧
        Gives (exec (.vrcp n f) s) (fun t => VResult s t n f (fun e => approxElem F .rcp (code1 e))) ∧
        Gives (exec (.vrsqrt n f) s) (fun t => VResult s t n f (fun e => approxElem F .rsqrt (code1 e))) ∧
        Gives (exec (.vtanh n f) s) (fun t => VResult s t n f (fun e => approxElem F .tanh (code1 e)))))

/-- R183, R186: the compares write a mask register by their condition code, VSEL selects by one, and VMOV copies. -/
def Obligations.VectorComparesSelectAndMove : Prop :=
  ∀ (s : State) (n : Nat) (f : FmtR), VIssuing s n →
    let nd := s.needle n
    let w := ewWidth nd.ew
    let a := vElem w (nd.getV f.rs1.toNat)
    let b := vElem w (nd.getV f.rs2.toNat)
    let sg (c : Nat) : Int := if c < 2 ^ (w - 1) then c else (c : Int) - 2 ^ w
    let cond := f.func.toNat / 2 % 8
    let holds (lt eq : Prop) (gt : Prop) : Prop :=
      (cond = 0 ∧ eq) ∨ (cond = 1 ∧ ¬ eq) ∨ (cond = 2 ∧ lt) ∨ (cond = 3 ∧ (lt ∨ eq)) ∨ (cond = 4 ∧ gt) ∨ (cond = 5 ∧ (gt ∨ eq))
    (f.rd.toNat < 16 → f.rs3 = 0 → f.func.toNat < 12 → f.func.toNat % 2 = 0 →
      Gives (exec (.vcmpI n f) s) (fun t => ∃ g : Nat → Bool, MCompare s t n f g ∧
        ∀ e, g e = true ↔ holds (sg (a e) < sg (b e)) (a e = b e) (sg (b e) < sg (a e)))) ∧
    (f.rd.toNat < 16 → f.rs3 = 0 → 16 ≤ f.func.toNat → f.func.toNat < 28 → f.func.toNat % 2 = 0 →
      Gives (exec (.vcmpI n f) s) (fun t => ∃ g : Nat → Bool, MCompare s t n f g ∧
        ∀ e, g e = true ↔ holds (a e < b e) (a e = b e) (b e < a e))) ∧
    (∀ F : Fmt, f.rd.toNat < 16 → f.rs3 = 0 → f.func.toNat < 12 →
      (f.func.toNat % 2 = 0 ∧ nd.ew = 2 ∧ F = .fp32 ∨ f.func.toNat % 2 = 0 ∧ nd.ew = 1 ∧ F = .bf16 ∨
        f.func.toNat % 2 = 1 ∧ nd.ew = 1 ∧ F = .fp16) →
      Gives (exec (.vcmpF n f) s) (fun t => MCompare s t n f (fun e => cmpF cond (F.read (a e)) (F.read (b e))))) ∧
    (f.rs3.toNat < 16 → f.func = 0 →
      Gives (exec (.vsel n f) s) (fun t => VResult s t n f (fun e => if (nd.getM f.rs3.toNat).getLsbD e then a e else b e))) ∧
    (f.rs2 = 0 → f.rs3 = 0 → f.func = 0 → Gives (exec (.vmov n f) s) (fun t => VResult s t n f a))

/-- R194: the permutations, element by element. -/
def Obligations.VectorPermutations : Prop :=
  ∀ (s : State) (n : Nat) (f : FmtR), VIssuing s n → f.rs3 = 0 →
    let nd := s.needle n
    let w := ewWidth nd.ew
    let N := 2048 / w
    let a := vElem w (nd.getV f.rs1.toNat)
    let b := vElem w (nd.getV f.rs2.toNat)
    let act := vActive nd f
    let before (e : Nat) : Nat := ((List.range e).filter act).length
    let res (g : Nat → Nat) (t : State) : Prop := VResult s t n f g
    (f.func = 0 →
      Gives (exec (.vperm n f) s) (res (fun e => if b e < N then a (b e) else 0)) ∧
      Gives (exec (.vziplo n f) s) (res (fun e => if e % 2 = 0 then a (e / 2) else b (e / 2))) ∧
      Gives (exec (.vziphi n f) s) (res (fun e => if e % 2 = 0 then a (N / 2 + e / 2) else b (N / 2 + e / 2))) ∧
      Gives (exec (.vuzpe n f) s) (res (fun e => if e < N / 2 then a (2 * e) else b (2 * (e - N / 2)))) ∧
      Gives (exec (.vuzpo n f) s) (res (fun e => if e < N / 2 then a (2 * e + 1) else b (2 * (e - N / 2) + 1)))) ∧
    (f.func = 0 → f.rs2 = 0 →
      Gives (exec (.vtr8 n f) s) (res (fun e => a (e / 64 * 64 + 8 * (e % 8) + e % 64 / 8))) ∧
      Gives (exec (.vexpand n f) s) (res (fun e => a (before e))) ∧
      Gives (exec (.vcompress n f) s) (fun t => ∃ g : Nat → Nat, VBelow s t n f g ∧
        (∀ e, e < N → act e = true → g (before e) = a e) ∧ ∀ k, before N ≤ k → g k = 0) ∧
      (f.rs1 = 0 → Gives (exec (.vidx n f) s) (res (fun e => e))) ∧
      (f.rs1.toNat < 16 → Gives (exec (.vmpfx n f) s) (res (fun e =>
        ((List.range e).filter (fun k => decide (k < nd.vl) && (nd.getM f.rs1.toNat).getLsbD k)).length)))) ∧
    (f.rs2 = 0 → ∀ k, k < 8 → f.func.toNat = 256 * k → 2 ^ k < N →
      Gives (exec (.vbfly n f) s) (res (fun e => a (Nat.xor e (2 ^ k)))))

/-- R195, R196: the integer reductions give the sum modulo 2^w, the largest and the smallest of the active elements, the
identity where none is active, and the integer scan gives the running sums; the floating-point ones use the fixed tree and the
doubling scan in FP32. -/
def Obligations.VectorReductionsAndScans : Prop :=
  ∀ (s : State) (n : Nat) (f : FmtR), VIssuing s n → f.rs2 = 0 → f.rs3 = 0 → (s.needle n).vl ≤ 2048 / ewWidth (s.needle n).ew →
    let nd := s.needle n
    let w := ewWidth nd.ew
    let a := vElem w (nd.getV f.rs1.toNat)
    let act := vActive nd f
    let sg (c : Nat) : Int := if c < 2 ^ (w - 1) then c else (c : Int) - 2 ^ w
    let sumTo (k : Nat) : Nat := (((List.range k).filter act).map a).sum
    let below (g : Nat → Nat) (t : State) : Prop := VBelow s t n f g
    (f.func = 0 →
      Gives (exec (.vredsumI n f) s) (below (fun _ => sumTo nd.vl)) ∧
      Gives (exec (.vscanI n f) s) (below (fun e => sumTo (e + 1))) ∧
      Gives (exec (.vredmaxI n f) s) (fun t => ∃ r, below (fun _ => r) t ∧ r < 2 ^ w ∧
        (∀ e, act e = true → sg (a e) ≤ sg r) ∧ ((∃ e, act e = true ∧ a e = r) ∨ ((∀ e, act e = false) ∧ r = 2 ^ (w - 1)))) ∧
      Gives (exec (.vredminI n f) s) (fun t => ∃ r, below (fun _ => r) t ∧ r < 2 ^ w ∧
        (∀ e, act e = true → sg r ≤ sg (a e)) ∧ ((∃ e, act e = true ∧ a e = r) ∨ ((∀ e, act e = false) ∧ r = 2 ^ (w - 1) - 1)))) ∧
    (f.func = 0x10 →
      Gives (exec (.vredmaxI n f) s) (fun t => ∃ r, below (fun _ => r) t ∧ r < 2 ^ w ∧
        (∀ e, act e = true → a e ≤ r) ∧ ((∃ e, act e = true ∧ a e = r) ∨ ((∀ e, act e = false) ∧ r = 0))) ∧
      Gives (exec (.vredminI n f) s) (fun t => ∃ r, below (fun _ => r) t ∧ r < 2 ^ w ∧
        (∀ e, act e = true → r ≤ a e) ∧ ((∃ e, act e = true ∧ a e = r) ∨ ((∀ e, act e = false) ∧ r = 2 ^ w - 1)))) ∧
    (∀ F : Fmt, (f.func = 0 ∧ nd.ew = 2 ∧ F = .fp32 ∨ f.func = 0 ∧ nd.ew = 1 ∧ F = .bf16 ∨ f.func = 1 ∧ nd.ew = 1 ∧ F = .fp16) →
      let x (ident : FVal) (e : Nat) : FVal := if act e then F.read (a e) else ident
      let leaves (ident : FVal) : List FVal := (List.range (2 ^ treeLevels nd.vl)).map (x ident)
      let tree (op : FVal → FVal → FVal) (ident : FVal) (_ : Nat) : Nat :=
        F.encode (F.round (treeFold op ident (treeLevels nd.vl) (leaves ident))).1
      let add (p q : FVal) : FVal := (fl32 p q).1
      Gives (exec (.vredsumF n f) s) (below (tree add (.fin true 0 0))) ∧
      Gives (exec (.vredmaxF n f) s) (below (tree FVal.max2 (.inf true))) ∧
      Gives (exec (.vredminF n f) s) (below (tree FVal.min2 (.inf false))) ∧
      Gives (exec (.vscanF n f) s) (below (fun e =>
        F.encode (F.round ((scanList add ((List.range nd.vl).map (x (.fin true 0 0)))).getD e (.fin true 0 0))).1)))

/-- R198: the mask operations bit by bit, VMLEN's first X[rs1] bits, and what VMPOP, VMFIRST and VEXT write to X[rd]. -/
def Obligations.MaskOperations : Prop :=
  ∀ (s : State) (n : Nat) (f : FmtR), VIssuing s n → f.rs3 = 0 → f.msk = 0 → f.minv = false →
    let nd := s.needle n
    let w := ewWidth nd.ew
    let bit1 (e : Nat) : Bool := (nd.getM f.rs1.toNat).getLsbD e
    let bit2 (e : Nat) : Bool := (nd.getM f.rs2.toNat).getLsbD e
    let res (g : Nat → Bool) (t : State) : Prop := MWrites s t n f.rd.toNat g
    let ones : List Nat := (List.range nd.vl).filter bit1
    (f.func = 0 → f.rd.toNat < 16 → f.rs1.toNat < 16 → f.rs2.toNat < 16 →
      Gives (exec (.vmand n f) s) (res (fun e => bit1 e && bit2 e)) ∧
      Gives (exec (.vmor n f) s) (res (fun e => bit1 e || bit2 e)) ∧
      Gives (exec (.vmxor n f) s) (res (fun e => bit1 e != bit2 e)) ∧
      Gives (exec (.vmandn n f) s) (res (fun e => bit1 e && !bit2 e)) ∧
      (f.rs2 = 0 → Gives (exec (.vmnot n f) s) (res (fun e => !bit1 e)))) ∧
    (f.func = 0 → f.rs2 = 0 → f.rd.toNat < 16 → Named s n [f.rs1.toNat] →
      Gives (exec (.vmlen n f) s) (res (fun e => decide (e < (nd.getX f.rs1.toNat).toNat)))) ∧
    (f.func = 0 → f.rs2 = 0 → f.rs1.toNat < 16 → Named s n [f.rd.toNat] →
      Gives (exec (.vmpop n f) s) (fun t => XResult s t n f.rd.toNat (BitVec.ofNat 64 ones.length)) ∧
      Gives (exec (.vmfirst n f) s) (fun t => XResult s t n f.rd.toNat
        (match ones with | [] => BitVec.allOnes 64 | e :: _ => BitVec.ofNat 64 e))) ∧
    (f.rs2 = 0 → Named s n [f.rd.toNat] → ∀ e, e < 2048 / w →
      let c := vElem w (nd.getV f.rs1.toNat) e
      (f.func.toNat = e → Gives (exec (.vext n f) s) (fun t => XResult s t n f.rd.toNat (BitVec.ofNat 64 c))) ∧
      (f.func.toNat = e + 256 → Gives (exec (.vext n f) s) (fun t => XResult s t n f.rd.toNat
        (BitVec.ofInt 64 (if c < 2 ^ (w - 1) then c else (c : Int) - 2 ^ w)))))

/-- R188, R189, R191: VLD puts into each active element the little-endian bytes read at base plus e strides; VMLD puts 32 bytes
into a mask register. An access that is not aligned, leaves its space or breaks a segment's check faults before anything is
read. R192: with 16 vector operations outstanding, a load from context space waits in the queue. -/
def Obligations.VectorLoads : Prop :=
  ∀ (s : State) (n : Nat) (f : FmtR) (r : RunStitch), VIssuing s n → (s.needle n).run = some r →
    let nd := s.needle n
    let w := ewWidth nd.ew
    let base := nd.getX f.rs1.toNat
    let stride : Int := if f.func.toNat % 2 = 1 then (w / 8 : Nat) else (nd.getX f.rs2.toNat).toInt
    let addr (e : Nat) : Nat := ((base.toNat + e * stride) % 2 ^ 64).toNat
    let es := (List.range (2048 / w)).filter (vActive nd f)
    let hint := f.func.toNat / 2 % 4
    let names := if f.func.toNat % 2 = 1 then [f.rs1.toNat] else [f.rs1.toNat, f.rs2.toNat]
    let window (e : Nat) : Prop := 2 ^ 56 + 0x300000 ≤ addr e ∧ addr e < 2 ^ 56 + 0x300100
    let reads := s.readAddrs nd r nd.x (w / 8) s.freeCtr (dedup (es.map addr))
    let mreads := s.readAddrs nd r [] 32 s.freeCtr [base.toNat]
    let out := nd.vecOut
    (f.rs3 = 0 → f.func.toNat < 8 → hint < 3 → (f.func.toNat % 2 = 1 → f.rs2 = 0) → Named s n names →
      (∀ e, e < nd.vl → window e → (addr e - 2 ^ 56 - 0x300000) / 8 ∉ nd.xPend) →
      (16 ≤ out → ∀ e, e < nd.vl → addr e < 2 ^ 48 → Gives (exec (.vld n f) s) (fun t => OnlyNeedle s t n ∧ ∃ q,
        t.needle n = { nd with vq := [q], pushes := nd.pushes + 1, pc := nd.pc + 1 } ∧ q.group = 0x9 ∧ q.op = 0x00 ∧ q.f = f)) ∧
      (out < 16 → ∀ k, firstFault nd (w / 8) (w / 8) .read reachLoad (es.map addr) = some k →
        exec (.vld n f) s = .next (s.faultStitch n k)) ∧
      (out < 16 → firstFault nd (w / 8) (w / 8) .read reachLoad (es.map addr) = none → s.encBreak n ((es.map addr).map (fun x => (x, w / 8))) = false →
        (joinReads reads).usable = true →
        Gives (exec (.vld n f) s) (fun t => VResult (s.afterReads n reads hint) t n f
          (fun e => match reads.find? (fun p => p.1 = addr e) with | some p => leNat p.2.bytes | none => 0)))) ∧
    (f.rd.toNat < 16 → f.rs2 = 0 → f.rs3 = 0 → f.msk = 0 → f.minv = false → f.func = 0 → Named s n [f.rs1.toNat] → out < 16 →
      (∀ k, firstFault nd 32 32 .read reachBoth [base.toNat] = some k → exec (.vmld n f) s = .next (s.faultStitch n k)) ∧
      (firstFault nd 32 32 .read reachBoth [base.toNat] = none → s.encBreak n [(base.toNat, 32)] = false →
        (joinReads mreads).usable = true →
        Gives (exec (.vmld n f) s) (fun t => MWrites (s.afterReads n mreads 0) t n f.rd.toNat
          (fun e => (leNat (joinReads mreads).bytes).testBit e))))

/-- R188 to R190: VST and VMST to the Sleeve write the active elements, or the mask register, at their addresses and no other
byte; an access that is not aligned or leaves the Sleeve faults and nothing is written. -/
def Obligations.VectorStoresToTheSleeve : Prop :=
  ∀ (s : State) (n : Nat) (f : FmtR), VIssuing s n →
    let nd := s.needle n
    let w := ewWidth nd.ew
    let base := (nd.getX f.rs1.toNat).toNat
    let src := vElem w (nd.getV f.rd.toNat)
    let act := vActive nd f
    let es := (List.range (2048 / w)).filter act
    let at_ (e : Nat) : Nat := base - 2 ^ 56 + e * (w / 8)
    let ok (a len : Nat) : Prop := a + len ≤ 0x300000 ∧ ∀ b ∈ nd.banks, ¬ (b * 0x40000 < a + len ∧ a < (b + 1) * 0x40000)
    let sleeveOnly (t : State) : Prop := OnlyNeedle s t n ∧
      (t.needle n).getX = nd.getX ∧ (t.needle n).v = nd.v ∧ (t.needle n).m = nd.m ∧ (t.needle n).pc = nd.pc + 1
    2 ^ 56 ≤ base → Named s n [f.rs1.toNat] →
    (f.rs2 = 0 → f.rs3 = 0 → f.func = 1 →
      (base % (w / 8) = 0 → (∀ e, act e = true → e < 2048 / w → ok (at_ e) (w / 8)) →
        Gives (exec (.vst n f) s) (fun t => sleeveOnly t ∧
          (∀ e, act e = true → e < 2048 / w → Mem.readLE (t.needle n).sleeve (at_ e) (w / 8) = src e) ∧
          ∀ a, (∀ e, act e = true → e < 2048 / w → a < at_ e ∨ at_ e + w / 8 ≤ a) →
            Mem.read (t.needle n).sleeve a = Mem.read nd.sleeve a)) ∧
      (es ≠ [] → base % (w / 8) ≠ 0 → base + 2048 < 2 ^ 64 → exec (.vst n f) s = .next (s.faultStitch n fkAlign))) ∧
    (f.rd.toNat < 16 → f.rs2 = 0 → f.rs3 = 0 → f.msk = 0 → f.minv = false → f.func = 0 →
      (base % 32 = 0 → ok (base - 2 ^ 56) 32 →
        Gives (exec (.vmst n f) s) (fun t => sleeveOnly t ∧
          Mem.readLE (t.needle n).sleeve (base - 2 ^ 56) 32 = (nd.getM f.rd.toNat).toNat ∧
          ∀ a, a < base - 2 ^ 56 ∨ base - 2 ^ 56 + 32 ≤ a → Mem.read (t.needle n).sleeve a = Mem.read nd.sleeve a)) ∧
      (base % 32 ≠ 0 → exec (.vmst n f) s = .next (s.faultStitch n fkAlign)))

/-- R193, R197, R200: VUNPK, VPACK, VCVT, VIEXT and VRAND. The conversions go through the SCW the descriptor or FUNC holds, and
join their flags to SH_FLAGS; VRAND takes element e of the generator at counter plus e. -/
def Obligations.VectorConversionsAndRandom : Prop :=
  ∀ (s : State) (n : Nat) (f : FmtR) (r : RunStitch), VIssuing s n → (s.needle n).run = some r → (s.needle n).vl ≤ 2048 / ewWidth (s.needle n).ew →
    let nd := s.needle n
    let w := ewWidth nd.ew
    let k0 := (nd.getX f.rs3.toNat).toNat
    let row := (nd.getX f.rs2.toNat).toNat % 2 ^ 32
    (∀ d, f.msk = 0 → f.minv = false → f.func = 0 → Named s n [f.rs1.toNat, f.rs2.toNat, f.rs3.toNat] → nd.vecOut < 16 →
      readOperand nd (nd.getX f.rs1.toNat).toNat = .ok d →
      let o := Operand.ofBytes d
      (unpackOk o.scw o.rowElems nd.ew k0 = false → exec (.vunpk n f) s = .next (s.faultStitch n fkScw)) ∧
      (packOk o.scw o.rowElems nd.ew k0 nd.vl = false → exec (.vpack n f) s = .next (s.faultStitch n fkScw)) ∧
      (unpackOk o.scw o.rowElems nd.ew k0 = true →
        let F := (Fmt.ofCode o.scw.src).getD .fp32
        let ranges := [(o.elemAddr row k0 F.width, bytesFor nd.vl F.width),
          (o.scaleAddr row k0 (o.scw.srcBlock.getD 1), scaleCount nd.vl o.scw.srcBlock)]
        let os := s.readRanges nd r s.freeCtr ranges
        let out := o.scw.convertRow o.draw (row * o.rowElems + k0) (F.unpack (os.headD (0, ReadOut.plain [])).2.bytes nd.vl)
          (((os.getD 1 (0, ReadOut.plain [])).2.bytes).map BitVec.toNat) []
        rangesFault nd (ranges.map (fun p => (p.1, p.2, Need.read))) = none → s.encBreak n ranges = false → (joinReads os).usable = true →
        Gives (exec (.vunpk n f) s) (fun t => VBelow ((s.afterReads n os 0).joinShFlags n out.flags) t n f (fun e => out.codes.getD e 0))) ∧
      (packOk o.scw o.rowElems nd.ew k0 nd.vl = true → o.scw.dstScale = 0 →
        let F := (Fmt.ofCode o.scw.dst).getD .fp32
        let a := o.elemAddr row k0 F.width
        let len := bytesFor nd.vl F.width
        let out := o.scw.convertRow o.draw (row * o.rowElems + k0) ((List.range nd.vl).map (vElem w (nd.getV f.rd.toNat))) [] []
        let bs := (F.pack out.codes).take len
        (∀ b ∈ nd.banks, ¬ (b * 0x40000 < a - 2 ^ 56 + len ∧ a - 2 ^ 56 < (b + 1) * 0x40000)) →
        2 ^ 56 ≤ a → a - 2 ^ 56 + len ≤ 0x300000 →
        Gives (exec (.vpack n f) s) (fun t =>
          Mem.readN (t.needle n).sleeve (a - 2 ^ 56) bs.length = bs ∧
          (∀ c, c < a - 2 ^ 56 ∨ a - 2 ^ 56 + bs.length ≤ c → Mem.read (t.needle n).sleeve c = Mem.read nd.sleeve c) ∧
          (t.needle n).x = nd.x ∧ (t.needle n).v = nd.v ∧ (t.needle n).m = nd.m ∧ (t.needle n).pc = nd.pc + 1 ∧
          (t.needle n).run.map RunStitch.shFlags = some (r.shFlags ||| out.flags)))) ∧
    (f.rs2 = 0 → f.rs3 = 0 → f.func.toNat < 2 ^ 13 →
      let g := f.func.toNat
      let c := cvtScw g
      let ws := ((Fmt.ofCode c.src).getD .fp32).width
      let wd := ((Fmt.ofCode c.dst).getD .fp32).width
      let cnt := 2048 / Nat.max ws wd
      let act := activeList cnt nd.vl (nd.getM f.msk.toNat) f.minv
      let src := slice (vElems ws (nd.getV f.rs1.toNat)) (if ws < wd then bits g 11 2 * cnt else 0) cnt
      let out := c.convertRow (fun _ => 0) 0 ((List.zip act src).map (fun p => if p.1 then p.2 else 0)) [] []
      (cvtOk g nd.ew = false → exec (.vcvt n f) s = .next (s.faultStitch n fkScw)) ∧
      (cvtOk g nd.ew = true → Gives (exec (.vcvt n f) s) (fun t =>
        OnlyNeedle s t n ∧ (t.needle n).x = nd.x ∧ (t.needle n).m = nd.m ∧ (t.needle n).pc = nd.pc + 1 ∧
        (t.needle n).run = some { r with shFlags := r.shFlags ||| out.flags } ∧
        (∀ q, q ≠ f.rd.toNat → (t.needle n).getV q = nd.getV q) ∧
        ∀ i, i < 2048 / wd → vElem wd ((t.needle n).getV f.rd.toNat) i =
          let p := if wd < ws then bits g 11 2 * cnt else 0
          if p ≤ i ∧ i < p + cnt ∧ act.getD (i - p) false = true then out.codes.getD (i - p) 0 % 2 ^ wd
          else vElem wd (nd.getV f.rd.toNat) i))) ∧
    (f.rs2 = 0 → f.rs3 = 0 → iextOk f.func.toNat nd.ew = true → funcIn f 0x183F = true →
      let g := f.func.toNat
      let ws := ewWidth (bits g 0 2)
      let wd := ewWidth (bits g 2 2)
      let cnt := 2048 / Nat.max ws wd
      let act := activeList cnt nd.vl (nd.getM f.msk.toNat) f.minv
      Gives (exec (.viext n f) s) (fun t =>
        OnlyNeedle s t n ∧ t.needle n = { nd with v := (t.needle n).v, pc := nd.pc + 1 } ∧
        (∀ q, q ≠ f.rd.toNat → (t.needle n).getV q = nd.getV q) ∧
        ∀ i, i < 2048 / wd → vElem wd ((t.needle n).getV f.rd.toNat) i =
          let p := if wd < ws then bits g 11 2 * cnt else 0
          let o := if ws < wd then bits g 11 2 * cnt else 0
          if p ≤ i ∧ i < p + cnt ∧ act.getD (i - p) false = true then
            iextElem g ws wd (vElem ws (nd.getV f.rs1.toNat) (i - p + o)) % 2 ^ wd
          else vElem wd (nd.getV f.rd.toNat) i)) ∧
    (f.rs3 = 0 → (f.func = 0 ∨ f.func = 1 ∧ nd.ew = 2) →
      Gives (exec (.vrand n f) s) (fun t => VResult s t n f (fun e =>
        randElem nd.ew (f.func == 1)
          (genG ((nd.getV f.rs1.toNat).toNat % 2 ^ 64) (((nd.getV f.rs2.toNat).toNat % 2 ^ 48 + e) % 2 ^ 48)))))

-- ---------------------------------------------------------------- the matrix engine

/-- R116, R172 to R174: ACLR starts a live cleared tile, in canonical or hold mode as FUNC says, with the cursor from X[rs1]; AREL
releases one; AFLAGS puts the control word into X[rd] and joins the tile's flags to ACC_FLAGS.
R161, R163, R164: WLOAD converts NLEN rows of KLEN elements through the SCW and puts them into slab W0 or W1 with their
scales; an SCW that breaks R163 faults with SCW. -/
def Obligations.TilesAndWeightSlabs : Prop :=
  (∀ (s : State) (n : Nat) (f : FmtR), MIssuing s n → f.msk = 0 → f.minv = false → f.rs2 = 0 → f.rs3 = 0 →
    let nd := s.needle n
    let ti := f.func.toNat % 8
    (f.rd = 0 → f.func.toNat < 32 → Named s n [f.rs1.toNat] →
      let canon := f.func.toNat / 8 % 2 = 1
      let hold := f.func.toNat / 16 = 1
      (canon ∨ ¬ hold → Gives (exec (.aclr n f) s) (fun t => ∃ u, TileResult s t n ti u ∧ (t.needle n).run = nd.run ∧
        u.live = true ∧ (u.canon = true ↔ canon) ∧ (u.hold = true ↔ hold) ∧ u.isOpen = false ∧ u.pos = 0 ∧
        (∀ r c, u.cell r c = Cell.cleared) ∧ (canon → u.cursor = (nd.getX f.rs1.toNat).toNat % 2 ^ 32) ∧ (¬ canon → u.cursor = 0))) ∧
      (hold → ¬ canon → exec (.aclr n f) s = .next (s.faultStitch n fkIllegal))) ∧
    (f.rd = 0 → f.rs1 = 0 → f.func.toNat < 8 → Gives (exec (.arel n f) s) (fun t =>
      TileResult s t n ti Tile.cleared ∧ (t.needle n).run = nd.run)) ∧
    (f.rs1 = 0 → f.func.toNat < 8 → Named s n [f.rd.toNat] →
      let u := nd.tile ti
      let word := BitVec.ofNat 64 ((if u.live then 1 else 0) + (if u.canon then 2 else 0) + (if u.hold then 4 else 0) +
        (if u.isOpen then 8 else 0) + 16 * u.flags.toNat + 2 ^ 8 * u.fmtA + 2 ^ 12 * u.fmtB + 2 ^ 16 * u.pos + 2 ^ 24 * u.cursor)
      Gives (exec (.aflags n f) s) (fun t => OnlyNeedle s t n ∧
        t.needle n = { nd with
          x := (t.needle n).x
          run := nd.run.map (fun r => { r with accFlags := r.accFlags ||| u.flags })
          pc := nd.pc + 1 } ∧
        ∀ q, (t.needle n).getX q = if q = f.rd.toNat ∧ f.rd.toNat ≠ 0 then word else nd.getX q))) ∧
  (∀ (s : State) (n : Nat) (f : FmtR) (d : List Byte), MIssuing s n → Named s n [f.rs1.toNat, f.rs2.toNat] →
    f.msk = 0 → f.minv = false → f.rd = 0 → f.rs3 = 0 → f.func.toNat < 2 ^ 12 →
    readOperand (s.needle n) ((s.needle n).getX f.rs1.toNat).toNat = .ok d →
    let nd := s.needle n
    let o := Operand.ofBytes d
    let g := f.func.toNat
    let klen := 16 * (g / 2 % 16 + 1)
    let nlen := g / 32 + 1
    let koff := (nd.getX f.rs2.toNat).toNat
    let limit := if o.scw.dst = 9 ∨ o.scw.dst = 10 then 256 else 128
    (loadPathOk o.scw klen koff = false → exec (.wload n f) s = .next (s.faultStitch n fkScw)) ∧
    (loadPathOk o.scw klen koff = true → limit < klen → exec (.wload n f) s = .next (s.faultStitch n fkIllegal)) ∧
    (loadPathOk o.scw klen koff = true → klen ≤ limit → ∀ s1 rows,
      s.loadOperand n (nd.capture 0xC 0x00 f d) o (List.range nlen) koff klen = (s1, some rows) →
      Gives (exec (.wload n f) s) (fun t => OnlyNeedle s1 t n ∧ ∃ b, (t.needle n =
        if g % 2 = 1 then { s1.needle n with w1 := some b, pc := nd.pc + 1 } else { s1.needle n with w0 := some b, pc := nd.pc + 1 }) ∧
        b.fmt = o.scw.dst ∧ b.klen = klen ∧ b.nlen = nlen ∧ b.rows = rows.map EngineRow.codes ∧ b.scales = rows.map EngineRow.scales)))

/-- R166 to R169, R173: an MMUL that meets no fault, its rows read and usable, goes on with its tile live; a canonical tile's place
(cursor times the chunk length plus position) advances by KLEN where the instruction does not close the chunk, and it ends at a
chunk's start where it does. Other tiles, registers and every byte of memory are as the reads left them. In HOLD mode X[rd]
advances past the records written there.
R121, R171: PROMOTE applies a record of a hold stream whose chunk is the tile's cursor: the cursor moves past a record that
does not continue; any other chunk, or a tile that is open, in hold mode, not canonical, or neither live nor cleared, faults with
CURSOR. -/
def Obligations.MultiplyAndPromote : Prop :=
  (∀ (s : State) (n : Nat) (f : FmtR) (d : List Byte) (wt : Slab), MIssuing s n →
    Named s n [f.rd.toNat, f.rs1.toNat, f.rs2.toNat, f.rs3.toNat] → f.msk = 0 → f.minv = false → f.func.toNat < 2 ^ 19 →
    f.func.toNat / 2 ^ 12 + (f.func.toNat / 32 % 128 + 1) ≤ 128 →
    readOperand (s.needle n) ((s.needle n).getX f.rs1.toNat).toNat = .ok d →
    let nd := s.needle n
    let o := Operand.ofBytes d
    let g := f.func.toNat
    let ti := g % 8
    let u := nd.tile ti
    let q := nd.capture 0xC 0x01 f d
    let lc := chunkLen (fmtOf wt.fmt)
    (if g / 8 % 2 = 1 then nd.w1 else nd.w0) = some wt →
    (∀ k, mmulFault u (some wt) o q = some k → exec (.mmul n f) s = .next (s.faultStitch n k)) ∧
    (u.hold = true → mmulFault u (some wt) o q = none → 0 < lc → 0 < wt.klen → ∀ s1 rows,
      s.loadOperand n q o (List.range (g / 32 % 128 + 1)) (nd.getX f.rs3.toNat).toNat wt.klen = (s1, some rows) →
      Gives (exec (.mmul n f) s) (fun t => (∃ k, t = s1.faultAt n k nd.pc) ∨
        (∃ len, 16 ≤ len ∧ len % 8 = 0 ∧ (t.needle n).getX f.rd.toNat = nd.getX f.rd.toNat + BitVec.ofNat 64 len ∧
          (∀ x, x ≠ f.rd.toNat → (t.needle n).getX x = nd.getX x) ∧ ((t.needle n).tile ti).live = true ∧
          (t.needle n).pc = nd.pc + 1))) ∧
    (u.hold = false → mmulFault u (some wt) o q = none → 0 < lc → lc % 16 = 0 → 0 < wt.klen → wt.klen % 16 = 0 → 16 * u.pos < lc →
      u.cursor * lc + 16 * u.pos + wt.klen < 2 ^ 32 * lc → ∀ s1 rows,
      s.loadOperand n q o (List.range (g / 32 % 128 + 1)) (nd.getX f.rs3.toNat).toNat wt.klen = (s1, some rows) →
      Gives (exec (.mmul n f) s) (fun t => ∃ v, TileResult s1 t n ti v ∧ v.live = true ∧ v.canon = u.canon ∧ v.hold = false ∧
        (u.canon = true → g / 16 % 2 = 0 → v.cursor * lc + 16 * v.pos = u.cursor * lc + 16 * u.pos + wt.klen) ∧
        (u.canon = true → g / 16 % 2 = 1 → v.pos = 0 ∧ v.isOpen = false ∧
          v.cursor = (u.cursor + (16 * u.pos + wt.klen + lc - 1) / lc) % 2 ^ 32)))) ∧
  (∀ (s : State) (n : Nat) (f : FmtR), MIssuing s n → Named s n [f.rs1.toNat, f.rs2.toNat] →
    f.msk = 0 → f.minv = false → f.rd = 0 → f.rs3 = 0 → f.func.toNat < 8 →
    let nd := s.needle n
    let u := nd.tile f.func.toNat
    let a := (nd.getX f.rs1.toNat).toNat
    let cnt := (nd.getX f.rs2.toNat).toNat
    (cnt = 0 ∨ 65535 < cnt → exec (.promote n f) s = .next (s.faultStitch n fkIllegal)) ∧
    (0 < cnt → cnt ≤ 65535 → (u.canon = false ∨ u.hold = true ∨ u.isOpen = true ∨ (u.live = false ∧ u.cells ≠ [])) →
      exec (.promote n f) s = .next (s.faultStitch n fkCursor)) ∧
    (cnt = 1 → u.canon = true → u.hold = false → u.isOpen = false → (u.live = true ∨ u.cells = []) → ∀ s1 hb s2 body,
      s.readRange n (a % 2 ^ 64) 16 = (s1, .ok (some hb)) →
      let h := RecordHead.ofBytes hb
      s1.readRange n ((a + 16) % 2 ^ 64) (h.waves * h.rows * 1024) = (s2, .ok (some body)) →
      h.reserved = 0 → 0 < h.rows → h.row0 + h.rows ≤ 128 → h.chunk = u.cursor →
      Gives (exec (.promote n f) s) (fun t => ∃ v, TileResult s2 t n f.func.toNat v ∧ v = u.applyRecord h body ∧ v.live = true ∧
        v.cursor = if h.cont then u.cursor else (u.cursor + 1) % 2 ^ 32)))

/-- R175: ALOAD gives every total of its rows the converted element, one row for all of them with BCAST, and leaves the rest of
each cell; ASTORE writes each row's totals, converted, at the row's address. -/
def Obligations.TileTotalsMove : Prop :=
  ∀ (s : State) (n : Nat) (f : FmtR) (d : List Byte), MIssuing s n → Named s n [f.rs1.toNat] →
    f.msk = 0 → f.minv = false → f.rd = 0 → f.rs2 = 0 → f.rs3 = 0 → f.func.toNat < 2 ^ 18 →
    f.func.toNat / 2 ^ 11 + (f.func.toNat / 16 % 128 + 1) ≤ 128 →
    readOperand (s.needle n) ((s.needle n).getX f.rs1.toNat).toNat = .ok d →
    let nd := s.needle n
    let o := Operand.ofBytes d
    let g := f.func.toNat
    let ti := g % 8
    let u := nd.tile ti
    let bcast := g / 8 % 2 = 1
    let rows := g / 16 % 128 + 1
    let row0 := g / 2 ^ 11
    let q := nd.capture 0xD 0x00 f d
    (o.scw.valid 128 = true → o.scw.dst = 0 → o.scw.dstScale = 0 → u.isOpen = false → ∀ s1 ers,
      s.loadOperand n q o (if g / 8 % 2 = 1 then [0] else List.range rows) 0 128 = (s1, some ers) →
      (∀ e ∈ ers, e.codes.length = 128) →
      Gives (exec (.aload n f) s) (fun t => ∃ v, TileResult s1 t n ti v ∧ v.live = true ∧ v.cursor = u.cursor ∧
        (∀ r c, r < rows → c < 128 → v.cell (row0 + r) c = { u.cell (row0 + r) c with
          total := BitVec.ofNat 32 (((ers.getD (if g / 8 % 2 = 1 then 0 else r) { codes := [], scales := [], flags := 0 }).codes).getD c 0) }) ∧
        (∀ r c, c < 128 → (r < row0 ∨ row0 + rows ≤ r) → v.cell r c = u.cell r c))) ∧
    (o.scw.valid 128 = true → o.scw.dst = 0 → o.scw.dstScale = 0 → u.isOpen = true →
      exec (.aload n f) s = .next (s.faultStitch n fkCursor)) ∧
    (¬ bcast → o.scw.valid 128 = true → o.scw.src = 0 → o.scw.srcScale = 0 → o.scw.dstScale = 0 → u.isOpen = false → rows = 1 →
      let F := fmtOf o.scw.dst
      let a := o.elemAddr 0 0 F.width
      let out := o.scw.convertRow o.draw 0 ((List.range 128).map (fun c => (u.cell row0 c).total.toNat)) [] []
      rangesFault nd (o.storeRanges 1) = none → 2 ^ 56 ≤ a →
      Gives (exec (.astore n f) s) (fun t =>
        t.stack = s.stack ∧ t.host = s.host ∧ (∀ k, (t.needle n).tile k = nd.tile k) ∧ (t.needle n).pc = nd.pc + 1 ∧
        Mem.readN (t.needle n).sleeve (a - 2 ^ 56) (bytesFor 128 F.width) = F.pack out.codes ∧
        ∀ c, c < a - 2 ^ 56 ∨ a - 2 ^ 56 + bytesFor 128 F.width ≤ c → Mem.read (t.needle n).sleeve c = Mem.read nd.sleeve c))

/-- R126, R176: TSAVE writes the tile's 196,672-byte save image at a 64-byte aligned address, and TRESTORE takes the tile an image
spells, or faults with TACK. -/
def Obligations.TilesSaveAndRestore : Prop :=
  ∀ (s : State) (n : Nat) (f : FmtR), MIssuing s n → Named s n [f.rs1.toNat] →
    f.msk = 0 → f.minv = false → f.rd = 0 → f.rs2 = 0 → f.rs3 = 0 → f.func.toNat < 8 →
    let nd := s.needle n
    let u := nd.tile f.func.toNat
    let a := (nd.getX f.rs1.toNat).toNat
    let off := a - 2 ^ 56
    (a % 64 ≠ 0 → exec (.tsave n f) s = .next (s.faultStitch n fkAlign) ∧ exec (.trestore n f) s = .next (s.faultStitch n fkAlign)) ∧
    (a % 64 = 0 → 2 ^ 56 ≤ a → off + 196672 ≤ 0x300000 → nd.banks = [] →
      Gives (exec (.tsave n f) s) (fun t => OnlyNeedle s t n ∧ (∀ k, (t.needle n).tile k = nd.tile k) ∧ (t.needle n).pc = nd.pc + 1 ∧
        Mem.readN (t.needle n).sleeve off 196672 = u.saveImage ∧
        ∀ c, c < off ∨ off + 196672 ≤ c → Mem.read (t.needle n).sleeve c = Mem.read nd.sleeve c) ∧
      (∀ v s1 b, s.readRange n a 196672 = (s1, .ok (some b)) → Tile.ofImage (Mem.readN nd.sleeve off 196672) = some v →
        Gives (exec (.trestore n f) s) (fun t => TileResult s1 t n f.func.toNat v)) ∧
      (Tile.ofImage (Mem.readN nd.sleeve off 196672) = none → Gives (exec (.trestore n f) s) (fun t =>
        OnlyNeedle s t n ∧ (∀ k, (t.needle n).tile k = nd.tile k) ∧ (t.needle n).sleeve = nd.sleeve ∧
        (t.needle n).run.map RunStitch.ended = some (some (.faulted fkTack nd.pc)))))

-- ---------------------------------------------------------------- the DMA engines

/-- R221, R226: DMA takes the lowest free slot of its engine for the descriptor in the Sleeve and puts the slot's handle into X[rd];
with no free slot it waits in the queue. DMASTAT of a finished slot gives its status word, and of a handle whose slot another
DMA has taken, or none, STALE; until the DMA has completed with OK its bytes lie between those an earlier DMASTAT showed and all.
R223 to R225, R227: an engine starts the next descriptor of its order; one with FENCE waits for the earlier ones. One that moves nothing completes with BAD_PARAM; one whose
range breaks a check ends its slot with SEG_FAULT and faults the stitch; a one-row FP32 copy within the Sleeve moves its bytes
and no other. The acknowledgement then completes the slot; with nothing queued nothing else of the needle's queues moves. -/
def Obligations.DmaDescriptorsMove : Prop :=
  (∀ (s : State) (n : Nat) (f : FmtR) (r : RunStitch), MIssuing s n → (s.needle n).run = some r → Named s n [f.rd.toNat, f.rs1.toNat] →
    f.msk = 0 → f.minv = false → f.rs2 = 0 → f.rs3 = 0 →
    let nd := s.needle n
    let h := (nd.getX f.rs1.toNat).toNat
    (∀ d slot, (f.func = 0 ∨ f.func = 1) → readDesc nd h 128 = .ok d → slot < 16 →
      let eng := f.func.toNat
      let seq := if eng = 0 then r.dmaSeq0 else r.dmaSeq1
      let free (i : Nat) : Prop := ∀ x, FMap.get? (nd.slots eng) i = some x → x.done = true
      free slot → (∀ i, i < slot → ¬ free i) →
      Gives (exec (.dma n f) s) (fun t => OnlyNeedle s t n ∧
        (∃ x, FMap.get? ((t.needle n).slots eng) slot = some x ∧ x.desc = DmaDesc.ofBytes d ∧ x.seq = seq ∧ x.started = false ∧
          x.done = false) ∧
        (∀ i, i ≠ slot → FMap.get? ((t.needle n).slots eng) i = FMap.get? (nd.slots eng) i) ∧
        (t.needle n).slots (1 - eng) = nd.slots (1 - eng) ∧ (t.needle n).pc = nd.pc + 1 ∧ (t.needle n).sleeve = nd.sleeve ∧
        ∀ q, (t.needle n).getX q = if q = f.rd.toNat ∧ f.rd.toNat ≠ 0 then
          BitVec.ofNat 64 (slot + 2 ^ 4 * eng + 2 ^ 8 * (seq % 256)) else nd.getX q)) ∧
    (f.func = 0 → h < 2 ^ 16 → h / 32 % 8 = 0 →
      let x := FMap.get? (nd.slots (h / 16 % 2)) (h % 16)
      (∀ d, x = some d → d.seq % 256 = h / 256 → d.done = true → d.status = 0 ∨ d.acked = d.bytes →
        Gives (exec (.dmastat n f) s) (fun t => XResult s t n f.rd.toNat
          (BitVec.ofNat 64 (1 + 2 ^ 8 * d.status + 2 ^ 16 * d.shFlags.toNat + 2 ^ 24 * (d.bytes % 2 ^ 40))))) ∧
      ((∀ d, x = some d → d.seq % 256 ≠ h / 256) →
        Gives (exec (.dmastat n f) s) (fun t => XResult s t n f.rd.toNat (BitVec.ofNat 64 (1 + 2 ^ 8 * 0x07)))) ∧
      (∀ d, x = some d → d.seq % 256 = h / 256 → d.acked ≤ d.bytes → d.bytes < 2 ^ 40 →
        (d.done = false ∨ (d.status ≠ 0 ∧ d.acked ≠ d.bytes)) →
        Gives (exec (.dmastat n f) s) (fun t => (t.needle n).pc = nd.pc + 1 ∧ (t.needle n).sleeve = nd.sleeve ∧ t.stack = s.stack ∧
          t.host = s.host ∧ ∃ fl b : Nat, d.acked ≤ b ∧ b ≤ d.bytes ∧ fl < 32 ∧ (t.needle n).getX f.rd.toNat = if f.rd.toNat = 0 then 0 else
            BitVec.ofNat 64 ((if d.done then 1 + 2 ^ 8 * d.status else 0) + 2 ^ 16 * fl + 2 ^ 24 * b))))) ∧
  ((∀ (s : State) (n eng i : Nat) (d : DmaSlot), n < Config.needles → eng < 2 → Alive s n → (s.needle n).nextStart eng = some (i, d) →
    (s.needle n).vq = [] → (s.needle n).mq = [] →
    let nd := s.needle n
    let held := d.desc.fence = true ∧ ∃ p ∈ nd.slots eng, p.2.seq < d.seq ∧ p.2.done = false
    (held → exec (.dmaDescriptorStart n eng) s = .next s) ∧
    (¬ held →
      (d.desc.bad = true → Gives (exec (.dmaDescriptorStart n eng) s) (fun t => OnlyNeedle s t n ∧ (t.needle n).sleeve = nd.sleeve ∧
        FMap.get? ((t.needle n).slots eng) i = some { d with started := true, done := true, status := 0x0C })) ∧
      (∀ k, d.desc.bad = false → rangesFault nd d.desc.ranges = some k →
        Gives (exec (.dmaDescriptorStart n eng) s) (fun t => OnlyNeedle s t n ∧ (t.needle n).sleeve = nd.sleeve ∧
          FMap.get? ((t.needle n).slots eng) i = some { d with started := true, done := true, status := 0x0F } ∧
          (t.needle n).run.map RunStitch.ended = some (some (.faulted k d.pc)))) ∧
      (∀ from_ to_, d.desc.bad = false → d.desc.scw = 0 → d.desc.rows = 1 → nd.banks = [] → d.desc.src = 2 ^ 56 + from_ → d.desc.dst = 2 ^ 56 + to_ →
        let len := 4 * d.desc.elems
        from_ + len ≤ 0x300000 → to_ + len ≤ 0x300000 →
        Gives (exec (.dmaDescriptorStart n eng) s) (fun t => t.stack = s.stack ∧ t.host = s.host ∧
          Mem.readN (t.needle n).sleeve to_ len = Mem.readN nd.sleeve from_ len ∧
          (∀ a, a < to_ ∨ to_ + len ≤ a → Mem.read (t.needle n).sleeve a = Mem.read nd.sleeve a) ∧
          ∃ x, FMap.get? ((t.needle n).slots eng) i = some x ∧ x.started = true ∧ x.done = d.done ∧ x.status = 0x00 ∧ x.bytes = len)))) ∧
  (∀ (s : State) (n eng i status : Nat) (d : DmaSlot), n < Config.needles → eng < 2 → i < 16 → Alive s n → (s.needle n).vq = [] →
    (s.needle n).mq = [] → FMap.get? ((s.needle n).slots eng) i = some d → d.started = true → d.done = false → status ≠ 0x12 →
    Gives (exec (.dmaSlotAcknowledged n eng i status) s) (fun t => OnlyNeedle s t n ∧
      FMap.get? ((t.needle n).slots eng) i = some { d with done := true, status := if d.status = 0 then status else d.status, msgs := [] } ∧
      (t.needle n).run.map RunStitch.withdraw = (s.needle n).run.map (fun r => r.withdraw || status = 0x04 || status = 0x09 || status = 0x10))))

-- ---------------------------------------------------------------- knots

/-- R234 to R237, R239: the local knot operations on an open knot of the stitch's context: KADD adds modulo 2^48 and returns the value
before, KARRIVE arrives, KSET and KCLR set and clear and return the flag before, KREAD reads; the result word has status OK and
SAT. An operation that does not fit the knot's type gives BAD_PARAM and changes no knot, a reference to a closed or
reused knot STALE.
R234, R240: a KWAIT that its knot satisfies ends at once with the state and SAT; any other is outstanding with X[rd] pending. A
satisfied wait ends at KWAIT_SATISFIED with the state that satisfied it, and at its deadline an unsatisfied one ends with the
state as it is and SAT 0; nothing else being queued, the needle's queues stay empty. -/
def Obligations.KnotInstructions : Prop :=
  (∀ (s : State) (n : Nat) (f : FmtR) (r : RunStitch) (k : Knot), MIssuing s n → (s.needle n).run = some r →
    Named s n [f.rd.toNat, f.rs1.toNat, f.rs2.toNat] → f.msk = 0 → f.minv = false → f.func = 0 → f.rs3 = 0 →
    let nd := s.needle n
    let ref := (nd.getX f.rs1.toNat).toNat
    let arg := (nd.getX f.rs2.toNat).toNat
    let i := ref % 2 ^ 14
    let word (v status : Nat) : DWord := BitVec.ofNat 64 (v % 2 ^ 48 + 2 ^ 48 * status + 2 ^ 56)
    let gives (o : Host.Outcome State Fault Refusal) (st : KnotState) (w : DWord) : Prop := Gives o (fun t =>
      (FMap.get? t.knots i).map Knot.state = some st ∧ (∀ j, j ≠ i → FMap.get? t.knots j = FMap.get? s.knots j) ∧
      (t.needle n).pc = nd.pc + 1 ∧ (t.needle n).sleeve = nd.sleeve ∧ t.stack = s.stack ∧ t.host = s.host ∧
      ∀ q, (t.needle n).getX q = if q = f.rd.toNat ∧ f.rd.toNat ≠ 0 then w else nd.getX q)
    let ends (o : Host.Outcome State Fault Refusal) (status : Nat) : Prop := Gives o (fun t =>
      t.knots = s.knots ∧ (t.needle n).pc = nd.pc + 1 ∧
      ∀ q, (t.needle n).getX q = if q = f.rd.toNat ∧ f.rd.toNat ≠ 0 then word 0 status else nd.getX q)
    ref < 2 ^ 22 →
    (FMap.get? s.knots i = some k → k.gen = ref / 2 ^ 14 → k.owner = r.st.ctx →
      (∀ v, k.state = .counter v →
        gives (exec (.kadd n f) s) (.counter (v + BitVec.ofNat 48 arg)) (word v.toNat 0) ∧
        (f.rs2 = 0 → gives (exec (.kread n f) s) k.state (word v.toNat 0) ∧ ends (exec (.kset n f) s) 0x0C ∧ ends (exec (.kclr n f) s) 0x0C)) ∧
      (∀ x, k.state = .event x → ends (exec (.kadd n f) s) 0x0C ∧ ends (exec (.karrive n f) s) 0x0C ∧
        (f.rs2 = 0 → gives (exec (.kset n f) s) (.event true) (word (if x then 1 else 0) 0) ∧
          gives (exec (.kclr n f) s) (.event false) (word (if x then 1 else 0) 0) ∧
          gives (exec (.kread n f) s) k.state (word (if x then 1 else 0) 0))) ∧
      (∀ target arrived phase, k.state = .barrier target arrived phase → target < 2 ^ 16 → arrived < target → phase < 2 ^ 16 →
        let c := if arg % 65536 = 0 then 1 else arg % 65536
        (arrived + c < target → gives (exec (.karrive n f) s) (.barrier target (arrived + c) phase) (word (phase + 2 ^ 16 * (arrived + c)) 0)) ∧
        (target ≤ arrived + c → gives (exec (.karrive n f) s) (.barrier target 0 ((phase + 1) % 65536)) (word phase 0)))) ∧
    (FMap.get? s.knots i = none → ends (exec (.kadd n f) s) 0x07 ∧ ends (exec (.karrive n f) s) 0x07 ∧
      (f.rs2 = 0 → ends (exec (.kset n f) s) 0x07 ∧ ends (exec (.kclr n f) s) 0x07 ∧ ends (exec (.kread n f) s) 0x07))) ∧
  ((∀ (s : State) (n : Nat) (f : FmtR) (r : RunStitch) (k : Knot), MIssuing s n → (s.needle n).run = some r →
    Named s n [f.rd.toNat, f.rs1.toNat, f.rs2.toNat, f.rs3.toNat] → f.msk = 0 → f.minv = false → f.func = 0 →
    let nd := s.needle n
    let ref := (nd.getX f.rs1.toNat).toNat
    let arg := nd.getX f.rs2.toNat
    ref < 2 ^ 22 → FMap.get? s.knots (ref % 2 ^ 14) = some k → k.gen = ref / 2 ^ 14 → k.owner = r.st.ctx →
    let met : Prop := (∃ v, k.state = .counter v ∧ (BitVec.ofNat 48 arg.toNat).toInt ≤ v.toInt) ∨
      (∃ a b p, k.state = .barrier a b p ∧ p ≠ arg.toNat % 65536) ∨ k.state = .event true
    (met → Gives (exec (.kwait n f) s) (fun t => XResult s t n f.rd.toNat
        (BitVec.ofNat 64 (k.state.word % 2 ^ 48 + 2 ^ 56)))) ∧
    (¬ met → Gives (exec (.kwait n f) s) (fun t => OnlyNeedle s t n ∧ (t.needle n).getX = nd.getX ∧ (t.needle n).pc = nd.pc + 1 ∧
      (f.rd.toNat ≠ 0 → f.rd.toNat ∈ (t.needle n).xPend) ∧
      ∃ w, (t.needle n).kwait = some w ∧ w.knot = ref ∧ w.operand = arg ∧ w.giveUp = (nd.getX f.rs3.toNat).toNat ∧ w.rd = f.rd.toNat ∧
        w.met = none))) ∧
  (∀ (s : State) (n : Nat) (w : KWaitRec), n < Config.needles → Alive s n → (s.needle n).kwait = some w → (s.needle n).vq = [] → (s.needle n).mq = [] →
    let ends (o : Host.Outcome State Fault Refusal) (v : DWord) : Prop := Gives o (fun t =>
      OnlyNeedle s t n ∧ (t.needle n).kwait = none ∧ (t.needle n).pc = (s.needle n).pc ∧
      ∀ q, (t.needle n).getX q = if q = w.rd ∧ w.rd ≠ 0 then v else (s.needle n).getX q)
    (∀ v, w.met = some v → ends (exec (.kwaitSatisfied n) s) (BitVec.ofNat 64 (v % 2 ^ 48 + 2 ^ 56))) ∧
    (∀ k, w.met = none → 0 < w.giveUp → w.giveUp + 8000 < 500000 + 125000 * s.tick.periodCode →
      FMap.get? s.knots (w.knot % 2 ^ 14) = some k → ends (exec (.kwaitGiveUp n) s) (BitVec.ofNat 64 (k.state.word % 2 ^ 48)))))

-- ---------------------------------------------------------------- remote contributions

/-- R177, R366: ACC_SEND in ADD mode of a tile that is not open sends the FP32 totals of its rows, in ascending row and column, to the
device that owns the segment, where the path is up: they leave in messages of 1,024 totals with the next numbers, the stitch waits for
their acknowledgements, and with CLR the tile is cleared and stays live. A path that is fenced or lost drops the stitch instead.
R178, R34: ACC_SEND in IMG mode copies bytes of the Sleeve to a segment: the source must lie in the Sleeve, else it faults with
SPACE, and a copy of no bytes to a path that is up only marks the stitch as having written outside; an acknowledgement takes its
message off the stitch that waits for it, dropping the stitch on a path that failed. -/
def Obligations.TotalsAndImagesSent : Prop :=
  (∀ (s : State) (n : Nat) (f : FmtR) (r : RunStitch) (seg off : Nat), MIssuing s n → (s.needle n).run = some r →
    Named s n [f.rs1.toNat, f.rs2.toNat] → f.msk = 0 → f.minv = false → f.rd = 0 → f.rs3 = 0 → funcIn f 0x7FFF7 = true →
    f.func.toNat / 2 ^ 12 + (f.func.toNat / 32 % 128 + 1) ≤ 128 →
    let nd := s.needle n
    let ti := f.func.toNat % 8
    let rows := f.func.toNat / 32 % 128 + 1
    let row0 := f.func.toNat / 2 ^ 12
    let a := (nd.getX f.rs1.toNat).toNat
    let (dest, g, dseg, peer) := s.sendTarget nd r.st.ctx seg
    splitAddr a = .ctx seg off → s.sendFault nd r.st.ctx a (512 * rows) = none → nd.getX f.rs2.toNat = 0 →
    ((nd.tile ti).isOpen = true → exec (.accSendAdd n f) s = .next (s.faultStitch n fkCursor)) ∧
    ((nd.tile ti).isOpen = false → s.peerState dest = 0 → Gives (exec (.accSendAdd n f) s) (fun t =>
      let first := s.board.nextMsg
      let cnt := (rows + 7) / 8
      t.board.nextMsg = first + cnt ∧ (t.needle n).pc = nd.pc + 1 ∧ t.stack = s.stack ∧ t.host = s.host ∧
      (∃ ms, t.board.outgoing = s.board.outgoing ++ ms ∧ ms.length = cnt ∧ ∀ p ∈ ms.zipIdx, p.1.dest = dest ∧ p.1.id = first + p.2 ∧
        p.1.words = accWords peer g dseg off 0 first (1024 * p.2) ((((nd.tile ti).totals row0 rows).drop (1024 * p.2)).take 1024)) ∧
      (t.needle n).run.map RunStitch.unacked = some (r.unacked ++ (List.range cnt).map (fun j => 2 * (first + j))) ∧
      (∀ k, k ≠ ti → (t.needle n).tile k = nd.tile k) ∧
      (f.func.toNat / 16 % 2 = 0 → (t.needle n).tile ti = nd.tile ti) ∧
      (f.func.toNat / 16 % 2 = 1 → ((t.needle n).tile ti).live = true ∧ ∀ x y, ((t.needle n).tile ti).cell x y = Cell.cleared))) ∧
    ((nd.tile ti).isOpen = false → s.peerState dest ≠ 0 → Gives (exec (.accSendAdd n f) s) (fun t =>
      OnlyNeedle s t n ∧ (t.needle n).pc = nd.pc + 1 ∧ (t.needle n).run.map RunStitch.withdraw = some true))) ∧
  ((∀ (s : State) (n : Nat) (f : FmtR) (r : RunStitch), MIssuing s n → (s.needle n).run = some r →
    Named s n [f.rs1.toNat, f.rs2.toNat, f.rs3.toNat] → f.msk = 0 → f.minv = false → f.rd = 0 → f.func = 8 →
    let nd := s.needle n
    let a := (nd.getX f.rs1.toNat).toNat
    let src := (nd.getX f.rs2.toNat).toNat
    let len := (nd.getX f.rs3.toNat).toNat
    (src / 2 ^ 56 ≠ 1 → exec (.accSendImg n f) s = .next (s.faultStitch n fkSpace)) ∧
    (∀ seg off from_ s1, src = 2 ^ 56 + from_ → from_ + len ≤ 0x300000 → nd.banks = [] → splitAddr a = .ctx seg off →
      s.sendFault nd r.st.ctx a len = none → s.peerState (s.sendTarget nd r.st.ctx seg).1 = 0 →
      s.writeRun n a (Mem.readN nd.sleeve from_ len) ((nd.capture 0xD 0x04 f []).writes 0) = .ok s1 → Alive s1 n →
      Gives (exec (.accSendImg n f) s) (fun t => OnlyNeedle s1 t n ∧ (t.needle n).sleeve = (s1.needle n).sleeve ∧
        (t.needle n).pc = (s1.needle n).pc + 1 ∧ (t.needle n).run.map RunStitch.wroteOut = some true))) ∧
  (∀ (s : State) (n msg status : Nat) (r : RunStitch), n < Config.needles → (s.needle n).run = some r → (s.needle n).vq = [] →
    (s.needle n).mq = [] → 2 * msg ∈ r.unacked → s.contributionOf msg = none →
    Gives (exec (.accSendAcknowledged n msg status false) s) (fun t => ∃ u, (t.needle n).run = some u ∧ 2 * msg ∉ u.unacked ∧
      (∀ m, m ≠ 2 * msg → (m ∈ u.unacked ↔ m ∈ r.unacked)) ∧
      u.withdraw = (r.withdraw || status = 0x04 || status = 0x09 || status = 0x10 || status = 0x12) ∧
      t.stack = s.stack ∧ t.host = s.host ∧ t.knots = s.knots)))

-- ---------------------------------------------------------------- Olukor's commands

/-- R450, R451: what a completion is: one record for the completion spool of the command's owner, of 32 bytes: status, kind and tag,
the tick, the opcode and five result words.
R12, R447, R459, R460, R463, R615: how a command is turned away before it acts: a module that is not READY takes none; a failed
read gives HOST_FAULT, a management command of a context DENIED, a set reserved bit or a CTX of a device command BAD_PARAM, a
stale context handle STALE; nothing else changes. -/
def Obligations.CommandsCompleteOrAreTurnedAway : Prop :=
  (∀ (s : State) (r : CmdReq) (status : Nat) (res : List Nat), status < 2 ^ 8 → r.tag < 2 ^ 16 →
    (∀ (c : Nat) (cx : Context), r.origin = .context c → s.ctx? c = some cx → ∃ e, s.complete r status res = { s with out := s.out ++ [e] } ∧
      e.spool = cx.cplSpool ∧ e.gen = s.spoolGen cx.cplSpool ∧ e.kind = .command ∧ e.bytes.length = 32 ∧
      leNat (slice e.bytes 0 1) = status ∧ leNat (slice e.bytes 2 2) = r.tag ∧ leNat (slice e.bytes 4 4) = s.tick.number % 2 ^ 32 ∧
      leNat (slice e.bytes 10 2) = r.opcode % 2 ^ 16 ∧ ∀ i, i < 5 → leNat (slice e.bytes (12 + 4 * i) 4) = res.getD i 0 % 2 ^ 32) ∧
    (r.origin = .mgmt → ∃ e, s.complete r status res = { s with out := s.out ++ [e] } ∧ e.spool = 1 ∧ e.kind = .command ∧
      leNat (slice e.bytes 0 1) = status ∧ leNat (slice e.bytes 2 2) = r.tag) ∧
    (∀ c w, r.origin = .window c w → ∃ d, s.complete r status res = { s with window := { s.window with done := s.window.done ++ [d] } } ∧
      d.ctx = c ∧ d.seq = r.tag ∧ d.status = status ∧ d.commit = s.tick.number ∧ d.results = res)) ∧
  (∀ (s : State) (r : CmdReq),
    (s.isReady = false → exec (.nop r) s = .next s ∧ exec (.tickSet r) s = .next s ∧ exec (.ctxPause r) s = .next s) ∧
    (s.isReady = true → r.readFailed = true → Turned (exec (.nop r) s) 0x00 r s 0x12 ∧ Turned (exec (.reqOpen r) s) 0x51 r s 0x12) ∧
    (s.isReady = true → r.readFailed = false → r.origin ≠ .mgmt →
      Turned (exec (.tickSet r) s) 0x02 r s 0x11 ∧ Turned (exec (.powerLimit r) s) 0x03 r s 0x11 ∧
      Turned (exec (.linkStatus r) s) 0xA5 r s 0x11 ∧ Turned (exec (.ctxOpen r) s) 0x10 r s 0x11) ∧
    (Admits s r → r.reserved ≠ 0 ∨ r.w 0x04 ≠ 0 → Turned (exec (.nop r) s) 0x00 r s 0x0C) ∧
    (Admits s r → r.origin = .mgmt → formOk r .plain [] = true → s.handleCtx (r.w 0x04) = none →
      ∃ u : State, exec (.ctxPause r) s = .next (u.complete { r with opcode := 0x12 } 0x07 []) ∧ u.contexts = s.contexts ∧
        u.requests = s.requests ∧ u.staleGen = Nat.min (2 ^ 32 - 1) (s.staleGen + 1)))

/-- R465 to R469, R501: NOP, POWER_LIMIT, ENERGY_TRACE and MEM_SCRUB.
R45, R475, R490, R499: the commands that stage a table entry: it waits for step 2 of the commit, and nothing of the table in
force changes. -/
def Obligations.DevicePowerAndTableCommands : Prop :=
  (∀ (s : State) (r : CmdReq),
    (DevReq s r .plain [] → Done (exec (.nop r) s) 0x00 r s []) ∧
    (DevReq s r .plain [(0x08, fld 0 9 + fld 16 5 + fld 24 7), (0x0C, fld 0 6),
        (0x10, fld 0 6 + fld 8 6 + fld 16 6 + fld 24 6), (0x14, fld 0 6 + fld 8 6)] → r.origin = .mgmt → r.w 0x0C = 0 →
      let l := r.f 0x08 0 9
      let v := r.f 0x08 16 5
      let t := r.f 0x08 24 7
      let good := 150 ≤ l ∧ l ≤ 360 ∧ v ≤ 25 ∧ 70 ≤ t ∧ t ≤ 105
      (good → Done (exec (.powerLimit r) s) 0x03 r
        { s with adm := { s.adm with limitStaged := l, reserveStaged := v, tlimStaged := t }, shadow := s.shadow ++ [.power l v t] } []) ∧
      (¬ good → Turned (exec (.powerLimit r) s) 0x03 r s 0x0C)) ∧
    (∀ c cx, CtxReq s r .plain [(0x08, fld 0 28)] c cx → r.origin = .mgmt →
      (r.w 0x08 = 0 → Done (exec (.energyTrace r) s) 0x04 r { s with adm := { s.adm with trace := none } } []) ∧
      (∀ i sp, r.w 0x08 ≠ 0 → s.cmdSpool c (r.w 0x08) = .ok (i, sp) →
        (sp.kind = 5 → Done (exec (.energyTrace r) s) 0x04 r { s with adm := { s.adm with trace := some i } } []) ∧
        (sp.kind ≠ 5 → Turned (exec (.energyTrace r) s) 0x04 r s 0x0C))) ∧
    (DevReq s r .plain [(0x08, fld 0 8)] → r.origin = .mgmt →
      (1 ≤ r.w 0x08 → r.w 0x08 ≤ 168 → Done (exec (.memScrub r) s) 0xD2 r { s with scrubHours := r.w 0x08 } []) ∧
      (r.w 0x08 = 0 ∨ 168 < r.w 0x08 → Turned (exec (.memScrub r) s) 0xD2 r s 0x0C))) ∧
  (∀ (s : State) (r : CmdReq) (c : Nat) (cx : Context),
    let all := 2 ^ 32 - 1
    (CtxReq s r .plain [(0x08, fld 0 3)] c cx → r.origin = .mgmt → Stages (exec (.ctxPriority r) s) 0x15 r s [.ceiling c (r.w 0x08)]) ∧
    (CtxReq s r .plain [(0x08, fld 0 17), (0x0C, all), (0x10, all), (0x14, fld 0 10), (0x18, fld 0 16), (0x1C, all)] c cx →
      let id := r.w 0x08 % 2 ^ 16
      let remove := 2 ^ 16 ≤ r.w 0x08
      (id < 0xF000 → remove → Stages (exec (.progSet r) s) 0x16 r s [.prog c id none]) ∧
      (id < 0xF000 → ¬ remove → r.w 0x14 ≤ cx.liveMax → (s.stagedProgs c cx).length < 4096 → ∃ p, p.entry = r.d 0x0C ∧ p.live = r.w 0x14 ∧
        p.energyHint = r.w 0x18 ∧ p.cyclesHint = r.w 0x1C ∧ Stages (exec (.progSet r) s) 0x16 r s [.prog c id (some p)]) ∧
      (0xF000 ≤ id ∨ (¬ remove ∧ cx.liveMax < r.w 0x14) → Turned (exec (.progSet r) s) 0x16 r s 0x0C)) ∧
    (CtxReq s r .block [(0x08, fld 0 28), (0x0C, fld 0 9)] c cx → r.w 0x08 = 0 → r.w 0x0C = 0 →
      Stages (exec (.tapeSet r) s) 0xC0 r s [.tape c none []]) ∧
    (∀ i sp, CtxReq s r .block [(0x08, fld 0 28), (0x0C, fld 0 9)] c cx → r.w 0x08 ≠ 0 → s.cmdSpool c (r.w 0x08) = .ok (i, sp) →
      (sp.kind = 6 → r.w 0x0C = 1 → r.bw 0 < 2 ^ 22 → r.bw 0 / 2 ^ 16 ≤ 59 →
        Stages (exec (.tapeSet r) s) 0xC0 r s [.tape c (some i) [(r.bw 0 % 2 ^ 16, r.bw 0 / 2 ^ 16)]]) ∧
      (sp.kind ≠ 6 → Turned (exec (.tapeSet r) s) 0xC0 r s 0x0C)))

/-- R228, R286, R435, R462, R466, R469, R492 to R494, R499 to R501: the commands that report write their records, all of which the
buffer holds, and complete with their number twice. -/
def Obligations.CommandsThatReport : Prop :=
  ∀ (s : State) (r : CmdReq) (c : Nat) (cx : Context),
    let fits (recs : List (List Byte)) : Prop := recs.flatten.length ≤ r.w 0x38
    (DevReq s r .out [] →
      (64 ≤ r.w 0x38 → Reports (exec (.devInfo r) s) 0x01 r s [s.devRecord]) ∧
      (r.w 0x38 < 64 → Done (exec (.devInfo r) s) 0x01 r s [0, 1])) ∧
    (DevReq s r .out [] → r.origin = .mgmt →
      (let recs := (List.range 20).map (fun i => (s.link i).record i)
       fits recs → Reports (exec (.linkStatus r) s) 0xA5 r s recs) ∧
      (let recs := (s.cycles.foldl (fun a k => insertCycle k a) []).flatMap (fun k => s.cycleRecords k)
       fits recs → Reports (exec (.knotCycles r) s) 0x94 r s recs)) ∧
    (DevReq s r .out [(0x08, fld 0 21)] → r.origin = .mgmt →
      let first := r.f 0x08 0 10
      let n := r.f 0x08 10 11
      let recs := (List.range n).map (fun i => s.chanRecord (first + i))
      (1 ≤ n → first + n ≤ 768 → fits recs → Reports (exec (.memStatus r) s) 0xD0 r s recs) ∧
      (n = 0 ∨ 768 < first + n → Turned (exec (.memStatus r) s) 0xD0 r s 0x0C)) ∧
    (DevReq s r .out [(0x08, fld 0 5)] → r.origin = .mgmt → r.w 0x08 < 24 →
      let k := s.controller (r.w 0x08)
      let recs := k.log.map (fun l => l.bytes k.lost)
      fits recs → Gives (exec (.memLogRead r) s) (fun t => t.host = Mem.writeN s.host (r.d 0x30) recs.flatten ∧
        (t.controller (r.w 0x08)).log = [] ∧ (recs ≠ [] → (t.controller (r.w 0x08)).lost = 0) ∧
        ∀ j, j ≠ r.w 0x08 → t.controller j = s.controller j)) ∧
    (DevReq s r .out [(0x08, fld 0 18)] → r.origin = .mgmt → r.w 0x08 < 2 ^ 16 → allSites.contains (r.w 0x08) = true →
      let site := r.w 0x08
      let recs := (List.range (siteInputs site)).map (fun i => ((FMap.getD s.arbiters site Arbiter.idle).ctr i).record site i)
      fits recs → Reports (exec (.arbCounters r) s) 0xC2 r s recs) ∧
    (CtxReq s r .out [] c cx →
      (fits [cx.energy.record] → Reports (exec (.energyRead r) s) 0x05 r s [cx.energy.record]) ∧
      (let recs := ((cx.train.totals.filter (fun t => 0 < t.stitches)).foldl (fun a t => insertTotal t a) []).map
        (fun t => t.record cx.train.lastStep)
       fits recs → Reports (exec (.tapeRead r) s) 0xC1 r s recs)) ∧
    (∀ i sp, CtxReq s r .out [(0x08, fld 0 28)] c cx → s.cmdSpool c (r.w 0x08) = .ok (i, sp) → 32 ≤ r.w 0x38 →
      Reports (exec (.spoolRead r) s) 0x99 r s [wordsLE sp.words]) ∧
    (∀ i k, CtxReq s r .out [(0x08, fld 0 22)] c cx → s.cmdKnot c (r.w 0x08) = .ok (i, k) → 32 ≤ r.w 0x38 →
      Reports (exec (.knotRead r) s) 0x92 r s [s.knotRecord i k])

/-- R231, R242, R248, R254, R255, R492, R494: opening, setting and closing knots and spools: an open one takes the lowest free index under its
current generation, a closed one's index waits two commits under the next generation. -/
def Obligations.KnotAndSpoolCommands : Prop :=
  ∀ (s : State) (r : CmdReq) (c : Nat) (cx : Context),
    (CtxReq s r .plain [(0x08, fld 0 3), (0x0C, 2 ^ 32 - 1), (0x10, 2 ^ 32 - 1)] c cx → ∀ i st,
      knotStateOf (r.w 0x08 % 4) (r.w 0x0C) (r.w 0x10) 0 = some st →
      (r.w 0x08 < 4 ∨ cx.garment.isSome = true) → s.allocIndex 3 (fun j => FMap.has s.knots j) 0 16384 = some i →
      let k : Knot := ⟨s.knotGen i, c, decide (4 ≤ r.w 0x08), st, 0, [], []⟩
      Done (exec (.knotOpen r) s) 0x90 r { s with knots := FMap.set s.knots i k } [s.knotGen i * 2 ^ 14 + i]) ∧
    (CtxReq s r .plain [(0x08, fld 0 22), (0x0C, 2 ^ 32 - 1), (0x10, 2 ^ 32 - 1)] c cx → ∀ i k,
      s.cmdKnot c (r.w 0x08) = .ok (i, k) → s.turnKnot c i = false →
      let value : BitVec 48 := BitVec.ofNat 48 (r.w 0x0C + r.w 0x10 % 2 ^ 16 * 2 ^ 32)
      let flag : Bool := decide (r.w 0x0C % 2 = 1)
      let more : Nat := Nat.min (2 ^ 32 - 1) (k.changes + 1)
      let k1 (st : KnotState) (ch : Nat) : Knot := { k with state := st, changes := ch, arrivals := [] }
      (∀ v, k.state = .counter v → Done (exec (.knotSet r) s) 0x91 r
        { s with knots := FMap.set s.knots i (k1 (.counter value) (if value = v then k.changes else more)) } []) ∧
      (∀ x, k.state = .event x → Done (exec (.knotSet r) s) 0x91 r
        { s with knots := FMap.set s.knots i (k1 (.event flag) (if flag = x then k.changes else more)) } [])) ∧
    (CtxReq s r .plain [(0x08, fld 0 22)] c cx → ∀ i k, s.cmdKnot c (r.w 0x08) = .ok (i, k) →
      (s.turnKnot c i = true → Turned (exec (.knotClose r) s) 0x93 r s 0x0E) ∧
      (s.turnKnot c i = false → Gives (exec (.knotClose r) s) (fun t => FMap.get? t.knots i = none ∧
        (∀ j, j ≠ i → FMap.get? t.knots j = FMap.get? s.knots j) ∧ t.knotGen i = (if s.knotGen i ≥ 255 then 1 else s.knotGen i + 1) ∧
        t.host = s.host ∧ t.spools = s.spools))) ∧
    (CtxReq s r .plain ((List.range 8).map (fun i => (8 + 4 * i, 2 ^ 32 - 1))) c cx → r.origin = .context c → ∀ i sp,
      s.allocIndex 2 (fun j => FMap.has s.spools j) 3 Config.spools = some i →
      readSpoolDesc ((List.range 8).map (fun j => r.w (8 + 4 * j))) (s.spoolGen i) (some c) false = some sp →
      (3 ≤ sp.kind → Gives (exec (.spoolOpen r) s) (fun t => FMap.get? t.spools i = some sp ∧
        (∀ j, j ≠ i → FMap.get? t.spools j = FMap.get? s.spools j) ∧ t.host = s.host ∧
        (sp.kind = 4 → FMap.has t.lists i = true))) ∧
      (sp.kind < 3 → Turned (exec (.spoolOpen r) s) 0x98 r s 0x0C)) ∧
    (CtxReq s r .plain [(0x08, fld 0 28)] c cx → ∀ i sp, s.cmdSpool c (r.w 0x08) = .ok (i, sp) →
      (sp.kind < 3 → Turned (exec (.spoolClose r) s) 0x9A r s 0x0C) ∧
      (3 ≤ sp.kind → Gives (exec (.spoolClose r) s) (fun t => FMap.get? t.spools i = none ∧ FMap.get? t.lists i = none ∧
        (∀ q p, FMap.get? t.requests q = some p → p.bobbin = i → p.failing = some (0x07, false)) ∧
        ∀ x ∈ t.adm.pending, x.list ≠ some i)))

-- ---------------------------------------------------------------- control instructions and the start of stitches

/-- R135, R142, R145, R146, R153: NOP goes on; SYNC goes on where nothing is queued or outstanding and waits while the vector queue holds
work that its mask names; QSYNC's token leaves an idle queue at once, and a full queue stalls it; SETVL sets VL and EW; RDSR reads
the special registers; TIE ends issue with its user code.
R137, R138: a vector instruction whose queue is not empty waits there with what its push captured, the stitch going on to
the next instruction; a full queue stalls it.
R143, R144, R155, R185: past the image, and at a word whose GROUP or OP is unassigned, issue ends the stitch with ILLEGAL whatever the
instruction. -/
def Obligations.ControlInstructionsAndQueues : Prop :=
  (∀ (s : State) (n : Nat) (f : FmtI) (r : RunStitch), Issuing s n → (s.needle n).run = some r →
    let nd := s.needle n
    let i := f.imm.toNat
    let idle : Prop := nd.vq = [] ∧ nd.mq = [] ∧ nd.kwait = none ∧ (∀ p ∈ nd.d0, p.2.done = true) ∧ (∀ p ∈ nd.d1, p.2.done = true) ∧
      r.unacked = []
    let goes (nd1 : Needle) (t : State) : Prop := OnlyNeedle s t n ∧ t.needle n = nd1
    let reads (v : Nat) (t : State) : Prop := XResult s t n f.rd.toNat (BitVec.ofNat 64 v)
    let T := 500000 + 125000 * s.tick.periodCode
    let G := 1000 * s.tick.guardUs
    (f.rd = 0 → f.rs1 = 0 → i = 0 → Gives (exec (.nopInsn n f) s) (goes { nd with pc := nd.pc + 1 })) ∧
    (f.rd = 0 → f.rs1 = 0 → i < 64 →
      (idle → Gives (exec (.sync n f) s) (goes { nd with pc := nd.pc + 1 })) ∧
      (∀ q ∈ nd.vq, i % 2 = 1 → q.group ≠ 4 → q.seq ≤ nd.pushes → exec (.sync n f) s = .next s)) ∧
    (f.rd.toNat < 2 → f.rs1 = 0 → i < 64 →
      (idle → Gives (exec (.qsync n f) s) (goes { nd with pushes := nd.pushes + 2, pc := nd.pc + 1 })) ∧
      (f.rd = 0 → nd.vq.length = 32 → exec (.qsync n f) s = .next s) ∧
      (f.rd = 1 → nd.mq.length = 32 → exec (.qsync n f) s = .next s)) ∧
    (Named s n [f.rd.toNat, f.rs1.toNat] → i < 3 →
      let vl := Nat.min (nd.getX f.rs1.toNat).toNat (256 / 2 ^ i)
      Gives (exec (.setvl n f) s) (fun t => OnlyNeedle s t n ∧
        t.needle n = { nd with x := (t.needle n).x, vl := vl, ew := i, pc := nd.pc + 1 } ∧
        ∀ q, (t.needle n).getX q = if q = f.rd.toNat ∧ f.rd.toNat ≠ 0 then BitVec.ofNat 64 vl else nd.getX q)) ∧
    (Named s n [f.rd.toNat] → f.rs1 = 0 →
      (i = 0 → Gives (exec (.rdsr n f) s) (reads s.tick.number)) ∧
      (i = 4 → Gives (exec (.rdsr n f) s) (reads r.shFlags.toNat)) ∧
      (i = 5 → Gives (exec (.rdsr n f) s) (reads (r.accFlags.toNat + Nat.min r.splits 65535 * 2 ^ 16))) ∧
      (i = 6 → Gives (exec (.rdsr n f) s) (reads (n % 48 + n / 48 * 2 ^ 8))) ∧
      (i = 7 → Gives (exec (.rdsr n f) s) (reads (s.ctxHandleOf r.st.ctx))) ∧
      (s.tick.phase = .run → G + 20000 ≤ T → f.rd.toNat ≠ 0 → T < 2 ^ 64 →
        (i = 1 → Gives (exec (.rdsr n f) s) (fun t => ∃ v, G ≤ v ∧ v ≤ T - 20000 ∧
          (t.needle n).getX f.rd.toNat = BitVec.ofNat 64 v ∧ t.tick = { s.tick with leftMin := v })) ∧
        (i = 2 → Gives (exec (.rdsr n f) s) (fun t => ∃ v, v ≤ T - 20000 - G ∧ (t.needle n).getX f.rd.toNat = BitVec.ofNat 64 v))) ∧
      (i = 3 → f.rd.toNat ≠ 0 → Gives (exec (.rdsr n f) s) (fun t => ∃ v, r.cycles ≤ v ∧
        (t.needle n).getX f.rd.toNat = BitVec.ofNat 64 v ∧ (t.needle n).run = some { r with cycles := v }))) ∧
    (f.rd = 0 → f.rs1 = 0 → i < 2 ^ 16 →
      Gives (exec (.tie n f) s) (goes { nd with run := some { r with ended := some .tied, user := i } }))) ∧
  (∀ (s : State) (n : Nat) (f : FmtR), Issuing s n → f.rs2 = 0 → f.rs3 = 0 → f.func = 0 → (s.needle n).vq ≠ [] →
    let nd := s.needle n
    ((s.needle n).vq.length < 32 → Gives (exec (.vmov n f) s) (fun t => OnlyNeedle s t n ∧ ∃ q,
      t.needle n = { nd with vq := nd.vq ++ [q], pushes := nd.pushes + 1, pc := nd.pc + 1 } ∧
      q.group = 0xB ∧ q.op = 0x0B ∧ q.f = f ∧ q.vl = nd.vl ∧ q.ew = nd.ew ∧ q.pc = nd.pc ∧ q.seq = nd.pushes)) ∧
    (32 ≤ (s.needle n).vq.length → exec (.vmov n f) s = .next s)) ∧
  (∀ (s : State) (n : Nat) (r : RunStitch), n < Config.needles → (s.needle n).run = some r → r.ended = none →
    ((s.needle n).imageLen ≤ (s.needle n).pc ∨ (s.needle n).atAssigned = false) →
    let ill := Host.Outcome.next (s.faultStitch n fkIllegal)
    (∀ f : FmtR, exec (.add n f) s = ill ∧ exec (.mul n f) s = ill ∧ exec (.dma n f) s = ill ∧ exec (.dmastat n f) s = ill ∧
      exec (.kadd n f) s = ill ∧ exec (.kwait n f) s = ill ∧ exec (.wload n f) s = ill ∧ exec (.mmul n f) s = ill ∧
      exec (.tsave n f) s = ill ∧ exec (.vaddF n f) s = ill ∧ exec (.vaddI n f) s = ill ∧ exec (.vld n f) s = ill ∧
      exec (.vst n f) s = ill ∧ exec (.vredsumI n f) s = ill ∧ exec (.vcvt n f) s = ill ∧ exec (.vmov n f) s = ill) ∧
    (∀ f : FmtI, exec (.addi n f) s = ill ∧ exec (.ld64 n f) s = ill ∧ exec (.st64 n f) s = ill ∧ exec (.nopInsn n f) s = ill ∧
      exec (.tie n f) s = ill) ∧
    (∀ f : FmtB, exec (.beq n f) s = ill ∧ exec (.jal n f) s = ill))

/-- R136, R150 to R153: in the run phase the first stitch admitted to an idle needle starts: X1 to X6, VL 64 and EW 2, the context's
segments, pc at the image's first instruction, its words loaded unless the store holds them, and queues, slots and pending registers empty; what the Sleeve, tiles, V and M
registers hold stays. A program the context has not ends it with SEG_PERM. A needle whose stitch ended and has nothing outstanding
leaves the stitch for the commit and starts the next one as it would from idle. -/
def Obligations.StitchesStart : Prop :=
  (∀ (s : State) (n : Nat) (st : Stitch) (rest : List Stitch) (cx : Context), n < Config.needles → (s.needle n).run = none →
    (s.needle n).admitted = st :: rest → s.tick.phase = .run → (s.needle n).fenced = false → (s.needle n).selfTest = false →
    s.ctx? st.ctx = some cx →
    let nd := s.needle n
    let starts (t : State) : Prop := OnlyNeedle s t n ∧ (t.needle n).admitted = rest ∧ (t.needle n).pc = 0 ∧
      (t.needle n).vl = 64 ∧ (t.needle n).ew = 2 ∧ (t.needle n).vq = [] ∧ (t.needle n).mq = [] ∧ (t.needle n).d0 = [] ∧
      (t.needle n).d1 = [] ∧ (t.needle n).xPend = [] ∧ (t.needle n).kwait = none ∧ (t.needle n).segs = cx.segs ∧
      (t.needle n).sleeve = nd.sleeve ∧ (t.needle n).tiles = nd.tiles ∧ (t.needle n).v = nd.v ∧ (t.needle n).m = nd.m ∧
      (t.needle n).getX 1 = st.arg0 ∧ (t.needle n).getX 2 = st.arg1 ∧ (t.needle n).getX 3 = st.arg2 ∧
      (t.needle n).getX 4 = BitVec.ofNat 64 (n % 48 + n / 48 * 2 ^ 8 + st.tag % 2 ^ 16 * 2 ^ 16) ∧
      (t.needle n).getX 5 = BitVec.ofNat 64 (s.tick.number % 2 ^ 48) ∧
      (t.needle n).getX 6 = BitVec.ofNat 64 (s.ctxHandleOf st.ctx) ∧ ∀ q, 6 < q → (t.needle n).getX q = 0
    (∀ p seg off d pat, FMap.get? cx.progs st.program = some p → p.entry = seg * 2 ^ 42 + off → seg < 64 → off < 2 ^ 42 → FMap.get? cx.segs seg = some d → d.valid = true → d.kind = 2 →
      d.x = true → off < 65536 * d.length → FMap.get? cx.patterns d.region = some pat → d.base + d.length ≤ pat.len →
      let store := some (st.ctx, st.program, cx.progVersion)
      let len := Nat.min 65536 (65536 * d.length - off)
      let o := s.readSeg st.ctx d seg st.id s.freeCtr off len
      let runs (t : State) : Prop := ∃ r, (t.needle n).run = some r ∧ r.st = st ∧ r.ended = none ∧ r.shFlags = 0 ∧ r.accFlags = 0 ∧ r.unacked = []
      (nd.imageOf = store → Gives (exec (.stitchStart n) s) (fun t => starts t ∧ runs t ∧ (t.needle n).image = nd.image)) ∧
      (nd.imageOf ≠ store → off % 8 = 0 → o.usable = true → Gives (exec (.stitchStart n) s) (fun t => runs t ∧ (t.needle n).pc = 0 ∧
        (t.needle n).imageOf = store ∧ (t.needle n).image = imageWords 0 o.bytes ∧ (t.needle n).imageLen = len / 8 ∧
        (t.needle n).sleeve = nd.sleeve ∧ t.host = s.host ∧ t.spools = s.spools))) ∧
    (FMap.get? cx.progs st.program = none → Gives (exec (.stitchStart n) s) (fun t => starts t ∧
      (t.needle n).run.map RunStitch.ended = some (some (.faulted fkSegPerm 0))))) ∧
  (∀ (s : State) (n : Nat) (r : RunStitch), n < Config.needles → (s.needle n).run = some r → r.ended.isSome = true →
    (s.needle n).busy = false →
    let u : State := { s.setNeedle n { s.needle n with run := none } with finished := s.finished ++ [r] }
    exec (.nextStitchStart n) s = exec (.stitchStart n) u ∧
    ((s.needle n).admitted = [] → exec (.nextStitchStart n) s = .next u))

-- ---------------------------------------------------------------- the tick

/-- R28 to R30, R40, R53: the instants of a tick. The commit's end begins the next tick; the run phase, the guard band and the cut-off follow
in their order; a staged period is in force from its tick on; a read of TICK_NOW_LO latches the high half.
R28, R29, R436, R440, R443: what a commit leaves shown: the tick is in its commit phase with its registers updated; DEV_STATUS,
BOARD_STATE and every open context's page state are those of the state it leaves. -/
def Obligations.TicksAndCommits : Prop :=
  (∀ s : State, s.isReady = true →
    let k := s.tick
    exec .tickNowLoRead s = .next { s with tick := { k with hiLatch := k.number / 2 ^ 32 % 2 ^ 16 } } ∧
    (∀ e, k.staged = [e] →
      (e.at_ ≤ k.number → exec .tickPeriodChange s = .next { s with tick := { k with periodCode := e.period, guardUs := e.guardUs, staged := [] } }) ∧
      (k.number < e.at_ → exec .tickPeriodChange s = .next s)) ∧
    (k.phase = .commit → Gives (exec .tickBegin s) (fun t =>
      (k.markNext = none ∨ k.isMaster = true → t.tick.number = (k.number + 1) % 2 ^ 48) ∧
      (k.markNext = none → k.staged = [] → t.tick.periodCode = k.periodCode ∧ t.tick.guardUs = k.guardUs) ∧
      (∀ m, k.markNext = some m → k.isMaster = false → t.tick.number = m.1 % 2 ^ 48 ∧ t.tick.periodCode = m.2) ∧
      t.tick.phase = .admission ∧ t.tick.cutoff = false ∧ t.tick.markNext = none ∧ t.shadow = s.shadow ++ s.shadowNext ∧
      t.shadowNext = [] ∧ t.msixSent = [] ∧ t.spools = s.spools ∧
      (s.tableWrites = [] → s.turns = [] → t.host = s.host ∧ t.stack = s.stack ∧ t.contexts = s.contexts))) ∧
    (k.phase ≠ .commit → exec .tickBegin s = .next s) ∧
    (k.phase = .run ∨ k.phase = .guardBand → exec .runPhaseBegin s = .next s) ∧
    (k.phase = .admission → exec .runPhaseBegin s = .next { s with tick := { k with phase := .run } }) ∧
    (k.phase = .run → Gives (exec .guardBandBegin s) (fun t =>
      t.tick = { k with phase := .guardBand } ∧ t.host = s.host ∧ t.stack = s.stack)) ∧
    (k.phase = .guardBand → k.cutoff = false → exec .commandCutoff s = .next { s with
      tick := { k with cutoff := true }
      cutPidx := (s.spools.filter (fun p => p.2.kind = 0)).map (fun p => (p.1, p.2.pidx)) })) ∧
  (∀ (s : State) (m : CommitIn), s.isReady = true → Gives (exec (.commit m) s) (fun t =>
    t.tick.committed = true ∧ t.devStatus = BitVec.ofNat 32 t.devWord ∧ t.boardState = BitVec.ofNat 32 t.boardWord ∧
    t.mgmtPage.ctxStatus = (if t.mgmt.isOpen then 1 else 0) ∧
    ∀ c cx, t.ctx? c = some cx → (t.page (some c)).ctxStatus =
      BitVec.ofNat 32 ((match cx.state with | .open_ => 1 | .paused => 2 | .quiesced => 3) + (if t.waits cx then 4 else 0))))

-- ---------------------------------------------------------------- the host's registers

/-- R249, R250, R443, R444: a doorbell's index is kept where it lies in the range R250 gives, and refused with DB_ERR.INDEX elsewhere; a page
whose context is not open sets DB_ERR.CLOSED.
R28, R81, R82, R437 to R442: the other registers. POWER_CFG and PANEL_THERM are read back at once and staged for the commit, a value out of
range is ignored; OPEN and CLOSE of the management spools are asked for, or set ERR; the words of an MSI-X entry, MGMT_SETUP and
DB_ERR's write-one-to-clear bits; a read changes nothing but TICK_NOW_LO's latch. -/
def Obligations.HostRegistersTakeWhatIsWritten : Prop :=
  (∀ (s : State) (page : Option Nat) (port v : Nat), s.isReady = true → (port = 1 ∨ port = 2) → s.hostPortUp port = true → v < 2 ^ 32 →
    let within (lo hi : Nat) : Prop := (v + 2 ^ 32 - lo) % 2 ^ 32 ≤ (hi + 2 ^ 32 - lo) % 2 ^ 32
    let closed (o : Host.Outcome State Fault Refusal) : Prop := o = .next (s.setPage page { s.page page with errClosed := true })
    let refused (o : Host.Outcome State Fault Refusal) : Prop := Gives o (fun t => t.spools = s.spools ∧ t.host = s.host ∧
      t.page page = { s.page page with errIndex := true } ∧ ∀ q, q ≠ page → t.page q = s.page q)
    let moves (o : Host.Outcome State Fault Refusal) (i : Nat) (sp : Spool) : Prop :=
      (sp.kind = 0 ∨ sp.kind = 4 →
        (within sp.pidx ((sp.cidx + 2 ^ sp.log2n) % 2 ^ 32) → o = .next { s with spools := FMap.set s.spools i { sp with pidx := v } }) ∧
        (¬ within sp.pidx ((sp.cidx + 2 ^ sp.log2n) % 2 ^ 32) → refused o)) ∧
      (sp.kind ≠ 0 ∧ sp.kind ≠ 4 →
        (within sp.cidx sp.pidx → o = .next { s with spools := FMap.set s.spools i { sp with cidx := v } }) ∧
        (¬ within sp.cidx sp.pidx → refused o))
    let own (o : Host.Outcome State Fault Refusal) (k : Nat) : Prop :=
      (s.pageSpool page k = none → closed o) ∧
      ∀ i sp, s.pageSpool page k = some i → FMap.get? s.spools i = some sp → moves o i sp
    own (exec (.cmdDbWrite page port v) s) 0 ∧ own (exec (.cplDbWrite page port v) s) 1 ∧ own (exec (.evtDbWrite page port v) s) 2 ∧
    (page = none → ∀ w, exec (.spoolDbWrite page port w) s = .next s) ∧
    (∀ c, page = some c → ∀ h, h < 2 ^ 28 →
      (s.ctx? c = none → closed (exec (.spoolDbWrite page port (v + h * 2 ^ 32)) s)) ∧
      (∀ i sp, FMap.has s.contexts c = true → s.cmdSpool c h = .ok (i, sp) →
        (3 ≤ sp.kind → moves (exec (.spoolDbWrite page port (v + h * 2 ^ 32)) s) i sp) ∧
        (sp.kind < 3 → exec (.spoolDbWrite page port (v + h * 2 ^ 32)) s = .next (s.setPage page { s.page page with errHandle := true }))))) ∧
  (∀ (s : State) (port v : Nat), s.isReady = true → v < 2 ^ 32 →
    let l := v % 2 ^ 9
    let rsv := v / 2 ^ 16 % 2 ^ 5
    let tl := v / 2 ^ 24 % 2 ^ 7
    let good := 150 ≤ l ∧ l ≤ 360 ∧ rsv ≤ 25 ∧ 70 ≤ tl ∧ tl ≤ 105
    let adm1 : Admission := { s.adm with limitStaged := l, reserveStaged := rsv, tlimStaged := tl }
    (¬ good → exec (.powerCfgWrite v) s = .next s) ∧
    (good → s.tick.cutoff = false → exec (.powerCfgWrite v) s = .next { s with adm := adm1, shadow := s.shadow ++ [.power l rsv tl] }) ∧
    (good → s.tick.cutoff = true → exec (.powerCfgWrite v) s = .next { s with adm := adm1, shadowNext := s.shadowNext ++ [.power l rsv tl] }) ∧
    (∀ p, p < 6 →
      let code := v / 2 ^ 25 % 2 ^ 6
      (48 < code → exec (.panelThermWrite p v) s = .next s) ∧
      (code ≤ 48 → s.tick.cutoff = false → Gives (exec (.panelThermWrite p v) s) (fun t => t.panel p = { s.panel p with freqStaged := code } ∧
        (∀ q, q ≠ p → t.panel q = s.panel q) ∧ t.shadow = s.shadow ++ [.freq p code] ∧ t.host = s.host ∧ t.needles = s.needles))) ∧
    ((port = 1 ∨ port = 2) → s.hostPortUp port = true →
      (s.mgmt.isOpen = true → exec (.mgmtCtrlOpen port) s = .next { s with mgmt := { s.mgmt with err := true } }) ∧
      (s.mgmt.isOpen = false → s.mgmt.closedAt = none → exec (.mgmtCtrlOpen port) s = .next { s with mgmt := { s.mgmt with openAsked := some port } }) ∧
      exec (.mgmtCtrlClose port) s = .next { s with mgmt := { s.mgmt with closeAsked := true } } ∧
      exec (.registerWrite port 0 0x100 4 v true) s = .next { s with mgmt := { s.mgmt with setup := s.mgmt.setup / 2 ^ 32 * 2 ^ 32 + v } } ∧
      exec (.registerWrite port 0 0x104 4 v true) s = .next { s with mgmt := { s.mgmt with setup := s.mgmt.setup % 2 ^ 32 + v * 2 ^ 32 } } ∧
      exec (.registerWrite port 0 0x020 4 v true) s = exec (.powerCfgWrite v) s ∧
      (∀ c, c < 1024 →
        let d := s.page (some c)
        let d1 : DoorbellPage := ⟨d.errIndex && !v.testBit 0, d.errSize && !v.testBit 1, d.errHandle && !v.testBit 2, d.errClosed && !v.testBit 3, d.ctxStatus⟩
        exec (.registerWrite port 0 (0x400000 + 4096 * c + 0x30) 4 v true) s = .next (s.setPage (some c) d1) ∧
        exec (.registerWrite port 0 (0x400000 + 4096 * c) 2 v true) s = .next (s.setPage (some c) { d with errSize := true })) ∧
      (∀ i, i < 2048 → Gives (exec (.registerWrite port 4 (16 * i + 8) 4 v true) s) (fun t =>
        (FMap.get? t.msix (port * 2048 + i)).map MsixEntry.data = some v ∧ t.host = s.host ∧
        ∀ j, j ≠ port * 2048 + i → FMap.get? t.msix j = FMap.get? s.msix j)) ∧
      exec (.registerWrite port 0 0x010 4 0 false) s = exec .tickNowLoRead s ∧
      (∀ off, off < 0x1000 → off % 4 = 0 → off ≠ 0x010 → exec (.registerWrite port 0 off 4 0 false) s = .next s)))

/-- R40, R41, R246, R249, R446, R447, R449: a command is fetched from its spool's ring where its completion has room: its words are those of
the entry, it belongs to this tick, or after the cut-off to the next, and the consumer index advances with its mirror in host
memory. -/
def Obligations.CommandsAreFetched : Prop :=
  ∀ (s : State) (page : Option Nat) (ci pi : Nat) (cmd cpl : Spool), s.isReady = true → s.pageSpool page 0 = some ci → s.pageSpool page 1 = some pi →
    FMap.get? s.spools ci = some cmd → FMap.get? s.spools pi = some cpl →
    let o : Origin := match page with | none => .mgmt | some c => .context c
    let waiting := (cmd.pidx + 2 ^ 32 - cmd.cidx) % 2 ^ 32
    let a := cmd.base + 8 * 2 ^ cmd.esize * (cmd.cidx % 2 ^ cmd.log2n)
    let next := (cmd.cidx + 1) % 2 ^ 32
    let word (i : Nat) : Nat := Mem.readLE s.host (a + 4 * i) 4
    (waiting = 0 → exec (.commandFetch page false false) s = .next s) ∧
    (0 < waiting → s.tick.cutoff = false → (∀ p ∈ s.fetched, p.1 ≠ s.tick.number) → s.owedTo o pi + 2 ≤ cpl.free →
      cmd.kind = 0 →
      Gives (exec (.commandFetch page false false) s) (fun t => ∃ r, t.fetched = s.fetched ++ [(s.tick.number, r)] ∧
        r.origin = o ∧ r.num = s.nextCmd ∧ r.opcode = word 0 % 2 ^ 8 ∧ r.reserved = word 0 / 2 ^ 8 % 2 ^ 8 ∧ r.tag = word 0 / 2 ^ 16 ∧
        (∀ i, 1 ≤ i → i < 16 → r.w (4 * i) = word i) ∧ t.nextCmd = s.nextCmd + 1 ∧
        t.spools = FMap.set s.spools ci { cmd with cidx := next } ∧ Mem.readLE t.host cmd.mirror 8 = next ∧
        (∀ x, x < cmd.mirror ∨ cmd.mirror + 8 ≤ x → Mem.read t.host x = Mem.read s.host x) ∧ t.contexts = s.contexts))

-- ---------------------------------------------------------------- the Prosor window

/-- R502, R503, R505 to R507: the window's slots and registers. Eight whole words in ascending order make a command, which is outstanding
for the next commit or the one after; any other write of a slot discards what it holds, and a doorbell with a bad sequence number,
without a page or with a command outstanding is discarded with its cause. -/
def Obligations.WindowRegisters : Prop :=
  ∀ (s : State) (port v : Nat), s.isReady = true → (port = 1 ∨ port = 2) → s.hostPortUp port = true → v < 2 ^ 32 →
    let w := s.window
    (∀ c i whole, c < 64 → i < 8 →
      let l := w.kept c
      let o := exec (.winSlotWrite c i port v whole) s
      let x : Word := BitVec.ofNat 32 v
      let seq := ((l ++ [x]).getD 0 0).toNat / 2 ^ 8 % 2 ^ 8
      let others (t : State) : Prop := t = { s with window := t.window } ∧ t.window.done = w.done ∧ t.window.seq = w.seq ∧
        ∀ d, d ≠ c → t.window.kept d = w.kept d
      let stopped (cause : Nat) (t : State) : Prop := others t ∧ t.window.outstanding = w.outstanding ∧ t.window.kept c = [] ∧
        t.window.errCtx = c ∧ t.window.errCause = cause
      (whole = true → i = l.length → i < 7 → Gives o (fun t => others t ∧ t.window.kept c = l ++ [x] ∧ t.window.outstanding = w.outstanding)) ∧
      (whole = true → l.length = 7 → i = 7 →
        (seq = 0 ∨ seq = FMap.getD w.seq c 0 → Gives o (stopped 3)) ∧
        (seq ≠ 0 → seq ≠ FMap.getD w.seq c 0 → w.page = none → Gives o (stopped 4)) ∧
        (seq ≠ 0 → seq ≠ FMap.getD w.seq c 0 → w.page ≠ none → w.busyCtx c = true → Gives o (fun t => stopped 2 t ∧ t.window.busy.getLsbD c = true)) ∧
        (seq ≠ 0 → seq ≠ FMap.getD w.seq c 0 → w.page ≠ none → w.busyCtx c = false → Gives o (fun t => others t ∧ t.window.kept c = [] ∧
          t.window.outstanding = w.outstanding ++ [⟨c, l ++ [x], port, s.tick.number + (if s.tick.cutoff then 2 else 1), none⟩]))) ∧
      (whole = false ∨ (i ≠ l.length ∧ i ≠ 0) → Gives o (fun t => stopped 1 t ∧ t.window.torn.getLsbD c = true)) ∧
      (whole = true → i = 0 → l ≠ [] → Gives o (fun t => others t ∧ t.window.kept c = [x] ∧ t.window.torn.getLsbD c = true ∧
        t.window.outstanding = w.outstanding))) ∧
    (s.tick.cutoff = false → ∀ hi,
      Gives (exec (.winEnableWrite port hi v) s) (fun t => t.window.enable = w.enable ∧ t.shadow = s.shadow ++ [.winEnable hi v] ∧
        t.host = s.host ∧ t.window.slots = w.slots ∧ ∀ b, b < 64 → t.window.enableStaged.getLsbD b =
          (if hi = decide (32 ≤ b) then v.testBit (b % 32) else w.enableStaged.getLsbD b)) ∧
      Gives (exec (.winPageWrite port hi v) s) (fun t => t.window.pageLo = w.pageLo ∧ t.window.pageHi = w.pageHi ∧ t.host = s.host ∧
        t.shadow = s.shadow ++ [.winPage hi (if hi then v % 2 ^ 9 else v / 2 ^ 12 * 2 ^ 12)] ∧
        (if hi then t.window.pageHiStaged.toNat = v % 2 ^ 9 ∧ t.window.pageLoStaged = w.pageLoStaged
          else t.window.pageLoStaged.toNat = v / 2 ^ 12 * 2 ^ 12 ∧ t.window.pageHiStaged = w.pageHiStaged)))

/-- R508, R510, R511, R513: a window command that meets no check of the window does what its Olukor command does, built from the window
command's words, and completes in the window; one whose context is closed or not enabled is turned away with STALE or DENIED. -/
def Obligations.WindowCommandsActAsTheirOlukorCommands : Prop :=
  ∀ (s : State) (q : WinReq), q.ctx < 64 → s.isReady = true →
    let u : State := { s.winNote q with nextCmd := s.nextCmd + 1 }
    let same (o : Host.Outcome State Fault Refusal) (w : WinRow) (k : CmdReq → Instr) : Prop :=
      s.winGate q (some w) = none → Gives o (fun t => exec (k (s.winBuild q w)) u = .next t)
    let runs (o : Host.Outcome State Fault Refusal) (w : WinRow) (k : CmdReq → Instr) : Prop :=
      s.winGate q (some w) = none → Gives o (fun t => ∃ v, exec (k (s.winBuild q w)) u = .next v ∧
        (t = v ∨ (s.winBuild q w ∈ v.running ∧ t = v.winStarted q.ctx s.nextCmd)))
    same (exec (.winNop q) s) winNop .nop ∧ same (exec (.winDevInfo q) s) winDevInfo .devInfo ∧
    runs (exec (.winCtxPause q) s) winCtxPause .ctxPause ∧ runs (exec (.winCtxResume q) s) winCtxResume .ctxResume ∧
    same (exec (.winCtxSegmentSet q) s) winCtxSegmentSet .ctxSegmentSet ∧ same (exec (.winProgSet q) s) winProgSet .progSet ∧
    runs (exec (.winPatternSet q) s) winPatternSet .patternSet ∧ runs (exec (.winPatternClose q) s) winPatternClose .patternClose ∧
    runs (exec (.winListHold q) s) winListHold .listHold ∧ runs (exec (.winListRelease q) s) winListRelease .listRelease ∧
    runs (exec (.winWeightLoad q) s) winWeightLoad .weightLoad ∧ same (exec (.winGenCfg q) s) winGenCfg .genCfg ∧
    runs (exec (.winReqOpen q) s) winReqOpen .reqOpen ∧ runs (exec (.winReqPause q) s) winReqPause .reqPause ∧
    runs (exec (.winReqResume q) s) winReqResume .reqResume ∧ runs (exec (.winReqCancel q) s) winReqCancel .reqCancel ∧
    same (exec (.winKnotOpen q) s) winKnotOpen .knotOpen ∧ same (exec (.winKnotSet q) s) winKnotSet .knotSet ∧
    same (exec (.winKnotRead q) s) winKnotRead .knotRead ∧ same (exec (.winKnotClose q) s) winKnotClose .knotClose ∧
    same (exec (.winSpoolOpen q) s) winSpoolOpen .spoolOpen ∧ same (exec (.winSpoolClose q) s) winSpoolClose .spoolClose ∧
    (∀ st, s.thimble.approved = false → (s.ctx? q.ctx = none ∧ st = 0x07) ∨ (FMap.has s.contexts q.ctx = true ∧ s.window.enable.getLsbD q.ctx = false ∧ st = 0x11) →
      Gives (exec (.winNop q) s) (fun t => t.contexts = s.contexts ∧ t.host = s.host ∧
        t.window.done = s.window.done ++ [⟨q.ctx, (q.words.getD 0 0).toNat / 2 ^ 8 % 2 ^ 8, st, 0x01, s.tick.number, []⟩]))

-- ---------------------------------------------------------------- contexts

/-- R7, R279, R470 to R473: a context opens with its three spools, its save area's two copies and a key under its current generation; it
pauses and resumes unless a channel of its segments is fenced or its garment waits for a spare; a close destroys its key, its
loads, its pending stitches and its staged edits. -/
def Obligations.ContextsOpenPauseAndClose : Prop :=
  ∀ (s : State) (r : CmdReq),
    let c := r.bf 0 0 10
    let dc := (List.range 8).map (fun i => r.bw (0x20 + 4 * i))
    let dp := (List.range 8).map (fun i => r.bw (0x40 + 4 * i))
    let de := (List.range 8).map (fun i => r.bw (0x60 + 4 * i))
    (DevReq s r .block [] → r.origin = .mgmt → ctxBlockOk r = true → descOk dc 0 = true → descOk dp 1 = true → descOk de 2 = true →
      s.rangeTaken (r.bw 0x10) (r.bw 0x14) = false →
      (FMap.has s.contexts c = true ∨ s.indexFree 0 c = false ∨ s.thimbleBusy = true → Turned (exec (.ctxOpen r) s) 0x10 r s 0x0E) ∧
      (FMap.has s.contexts c = false → s.indexFree 0 c = true → s.thimbleBusy = false →
        (s.placeArea (areaChunks (r.bw 4) (r.bw 8)) = none → Turned (exec (.ctxOpen r) s) 0x10 r s 0x05) ∧
        (∀ s1 a b s2 i s3 j s4 k, s.placeArea (areaChunks (r.bw 4) (r.bw 8)) = some (s1, a, b) → s1.openCtxSpool c 0 dc = some (s2, i) →
          s2.openCtxSpool c 1 dp = some (s3, j) → s3.openCtxSpool c 2 de = some (s4, k) →
          DoneWith (exec (.ctxOpen r) s) 0x10 r [s4.ctxHandleOf c, s4.spoolGen i * 2 ^ 20 + i, s4.spoolGen j * 2 ^ 20 + j, s4.spoolGen k * 2 ^ 20 + k]
            (fun u => u.spools = s4.spools ∧ u.stack = s4.stack ∧ u.host = s4.host ∧ (∀ d, d ≠ c → u.ctx? d = s4.ctx? d) ∧
              FMap.get? u.thimble.ctxKeys c = some s.thimble.nextKey ∧ FMap.get? u.thimble.hemKeys c = some (s.thimble.nextKey + 1) ∧
              u.thimble.nextKey = s.thimble.nextKey + 2 ∧
              ∃ cx, u.ctx? c = some cx ∧ cx.state = .open_ ∧ cx.ceiling = r.bf 0 10 3 ∧ cx.needles = r.bw 4 ∧ cx.liveMax = r.bw 8 ∧
                cx.quota = r.bw 0x0C ∧ cx.reqBase = r.bw 0x10 ∧ cx.reqCount = r.bw 0x14 ∧ cx.cmdSpool = i ∧ cx.cplSpool = j ∧ cx.evtSpool = k ∧
                cx.areaA = a ∧ cx.areaB = b ∧ cx.segs = [] ∧ cx.patterns = [] ∧ cx.progs = [] ∧ cx.closing = false)))) ∧
    (∀ c cx, CtxReq s r .plain [] c cx →
      let changes (f : Context → Context) (u : State) : Prop := u.ctx? c = some (f cx) ∧ ∀ d, d ≠ c → u.ctx? d = s.ctx? d
      (cx.state = .open_ ∨ cx.state = .paused → DoneWith (exec (.ctxPause r) s) 0x12 r [] (fun u =>
        u = { s with contexts := u.contexts, controllers := u.controllers } ∧ changes (fun x => { x with state := .paused }) u ∧
        ∀ k b l, FMap.get? (u.controller k).lines b = some l → l.owner = some c → l.dirty = false ∧ l.keep = false)) ∧
      (cx.state = .quiesced → DoneWith (exec (.ctxPause r) s) 0x12 r [] (changes (fun x => { x with pausedToo := true }))) ∧
      (cx.state = .open_ ∨ (cx.state = .quiesced ∧ cx.pausedToo = false) → Done (exec (.ctxResume r) s) 0x13 r s []) ∧
      (cx.state = .paused → s.onFenced cx = true → Turned (exec (.ctxResume r) s) 0x13 r s 0x04) ∧
      (cx.state = .paused → s.onFenced cx = false → s.waits cx = true → Turned (exec (.ctxResume r) s) 0x13 r s 0x06) ∧
      (cx.state = .paused → s.onFenced cx = false → s.waits cx = false → DoneWith (exec (.ctxResume r) s) 0x13 r [] (fun u =>
        u = { s with contexts := u.contexts } ∧ changes (fun x => { x with state := .open_ }) u)) ∧
      (r.origin = .mgmt → DoneWith (exec (.ctxClose r) s) 0x11 r [] (fun u =>
        (∀ x, u.ctx? c = some x → x.closing = true) ∧ FMap.get? u.thimble.ctxKeys c = none ∧ (∀ t ∈ u.adm.pending, t.ctx ≠ c) ∧
        (∀ l ∈ u.loads, l.ctx ≠ c) ∧ (∀ w ∈ u.scratchWriters, w.1 ≠ c) ∧ ∀ e ∈ u.shadow, Staged.of c e = false)))

/-- R290 to R294, R307, R311, R474, R476, R477: a Pattern is placed, zeroed where it lies in the stacks, and staged; PATTERN_READ returns the
current record; PATTERN_CLOSE, HEM_REVOKE and CTX_SEGMENT_SET are refused with BUSY while something still names what they take
away; HEM_GRANT enters a grant. -/
def Obligations.PatternsGrantsAndSegments : Prop :=
  ∀ (s : State) (r : CmdReq) (c : Nat) (cx : Context),
    let all := 2 ^ 32 - 1
    let others (u : State) : Prop := ∀ d, d ≠ c → u.ctx? d = s.ctx? d
    (CtxReq s r .block [] c cx → ∀ num p named, readPattern r 0 = some (num, p, named) →
      (cx.patternBusy num = true → Turned (exec (.patternSet r) s) 0x20 r s 0x0E) ∧
      (∀ e, cx.patternBusy num = false → s.placePattern c cx p named = .error e → e ≠ 0x07 → Turned (exec (.patternSet r) s) 0x20 r s e) ∧
      (∀ p1, cx.patternBusy num = false → s.placePattern c cx p named = .ok p1 → StartedWith (exec (.patternSet r) s) 0x20 r (fun u =>
        u.host = s.host ∧ others u ∧
        u.ctx? c = some { cx with patternStages := FMap.set cx.patternStages num ⟨p1, if p1.residence = 2 then some s.tick.number else none, some r.num⟩ } ∧
        (p1.residence = 2 → u.stack = s.stack ∧ u.channels = s.channels) ∧
        (p1.residence = 1 → ∀ sl ∈ p1.slots, ∀ b, b < 65536 * perSlot p1.len p1.slots.length p1.scratch →
          Mem.read u.stack (sl.1 * 2 ^ 32 + 65536 * sl.2 + b) = 0)))) ∧
    (∀ num g, s.ctx? c = some cx → FMap.get? cx.patternStages num = some g → Gives (exec (.patternZeroed c num) s) (fun t =>
      t = { s with contexts := t.contexts } ∧ others t ∧ ∃ x, t.ctx? c = some x ∧ x = { cx with patternStages := x.patternStages } ∧
        FMap.get? x.patternStages num = some { g with zeroed := some (g.zeroed.getD (if s.tick.cutoff then s.tick.number + 1 else s.tick.number)) } ∧
        ∀ k, k ≠ num → FMap.get? x.patternStages k = FMap.get? cx.patternStages k)) ∧
    (CtxReq s r .out [(0x08, fld 0 10)] c cx →
      (∀ p, FMap.get? cx.patterns (r.w 0x08) = some p → 32 + 4 * p.slots.length ≤ r.w 0x38 →
        Reports (exec (.patternRead r) s) 0x21 r s [wordsLE (p.words (r.w 0x08))]) ∧
      (FMap.get? cx.patterns (r.w 0x08) = none → Turned (exec (.patternRead r) s) 0x21 r s 0x0C)) ∧
    (CtxReq s r .plain [(0x08, fld 0 10)] c cx →
      let num := r.w 0x08
      let named := (s.segsOf c cx).any (fun p => p.2.valid && decide (p.2.kind ≤ 2) && decide (p.2.region = num))
      let known : Prop := FMap.has cx.patterns num = true ∨ FMap.has cx.patternStages num = true
      (¬ known → Turned (exec (.patternClose r) s) 0x22 r s 0x0C) ∧
      (known → cx.state = .quiesced ∨ cx.risk.held = true ∨ named = true → Turned (exec (.patternClose r) s) 0x22 r s 0x0E) ∧
      (known → cx.state ≠ .quiesced → cx.risk.held = false → named = false → DoneWith (exec (.patternClose r) s) 0x22 r [] (fun u =>
        u.host = s.host ∧ u.stack = s.stack ∧ others u ∧
        ∀ x, u.ctx? c = some x → FMap.get? x.patterns num = none ∧ FMap.get? x.patternStages num = none))) ∧
    (CtxReq s r .plain [(0x08, fld 0 13), (0x0C, all), (0x10, all), (0x14, all)] c cx → r.origin = .mgmt →
      let g := r.f 0x08 0 10
      let bad := r.f 0x08 10 2 = 3 ∨ r.d 0x0C % 65536 ≠ 0 ∨ r.w 0x14 = 0
      (bad → Turned (exec (.hemGrant r) s) 0x17 r s 0x0C) ∧
      (¬ bad → FMap.has cx.grants g = true → Turned (exec (.hemGrant r) s) 0x17 r s 0x0E) ∧
      (¬ bad → FMap.has cx.grants g = false → DoneWith (exec (.hemGrant r) s) 0x17 r [] (fun u => u = { s with contexts := u.contexts } ∧ others u ∧
        u.ctx? c = some { cx with grants := FMap.set cx.grants g ⟨r.f 0x08 10 2, (r.w 0x08).testBit 12, r.d 0x0C, r.w 0x14⟩ }))) ∧
    (CtxReq s r .plain [(0x08, fld 0 10)] c cx → r.origin = .mgmt →
      let g := r.w 0x08
      let used := (cx.patterns.map Prod.snd ++ cx.patternStages.map (fun p => p.2.pat)).any (fun p => decide (p.place ≠ 0) && decide (p.hemGrant = g)) ||
        (s.segsOf c cx).any (fun p => p.2.valid && decide (p.2.kind = 4) && decide (p.2.region = g)) ||
        s.requests.any (fun p => decide (p.2.ctx = c) && decide (p.2.grant = g) && !p.2.hemRuns.isEmpty)
      (FMap.has cx.grants g = true → used = true → Turned (exec (.hemRevoke r) s) 0x18 r s 0x0E) ∧
      (FMap.has cx.grants g = true → used = false → DoneWith (exec (.hemRevoke r) s) 0x18 r [] (fun u => u = { s with contexts := u.contexts } ∧
        others u ∧ u.ctx? c = some { cx with grants := FMap.del cx.grants g }))) ∧
    (CtxReq s r .plain ((0x08, fld 0 6) :: (List.range 8).map (fun i => (0x0C + 4 * i, all))) c cx → ∀ d,
      readSeg ((List.range 8).map (fun k => r.w (0x0C + 4 * k))) = some d →
      let busy := cx.state = .quiesced ∨ cx.risk.held = true ∨ cx.stepUses (fun k => k = r.w 0x08) = true
      (s.segOk cx d = false → Turned (exec (.ctxSegmentSet r) s) 0x14 r s 0x0C) ∧
      (s.segOk cx d = true → busy → Turned (exec (.ctxSegmentSet r) s) 0x14 r s 0x0E) ∧
      (s.segOk cx d = true → ¬ busy →
        (d.valid = true → ∀ p ∈ s.contexts, p.1 ≠ c → s.sameGarment c p.1 = true → ∀ q ∈ s.segsOf p.1 p.2, q.1 = r.w 0x08 → q.2.valid = false) →
        Stages (exec (.ctxSegmentSet r) s) 0x14 r s [.seg c (r.w 0x08) d]))

/-- R38, R478: LIST_HOLD holds a list and takes its entry out of admission; LIST_RELEASE drops entries from its head and lets it run; a head
dropped eight times in a row holds its list. -/
def Obligations.StitchListsHoldAndRelease : Prop :=
  ∀ (s : State) (r : CmdReq) (c : Nat) (cx : Context),
    (CtxReq s r .plain [(0x08, fld 0 28)] c cx → ∀ i sp ls, s.cmdList c (r.w 0x08) = .ok (i, sp, ls) →
      DoneWith (exec (.listHold r) s) 0x30 r [] (fun u => u = { s with lists := u.lists, adm := { s.adm with pending := u.adm.pending } } ∧
        (∃ x, FMap.get? u.lists i = some x ∧ x.held = true ∧ x.drops = ls.drops ∧ x.age = ls.age) ∧
        (∀ j, j ≠ i → FMap.get? u.lists j = FMap.get? s.lists j) ∧ u.adm.pending = s.adm.pending.filter (fun t => t.list ≠ some i))) ∧
    (CtxReq s r .plain [(0x08, fld 0 28), (0x0C, fld 0 16)] c cx → ∀ i sp ls, s.cmdList c (r.w 0x08) = .ok (i, sp, ls) →
      let skip := r.w 0x0C
      let there := (sp.pidx + 2 ^ 32 - sp.cidx) % 2 ^ 32
      (there < skip → Turned (exec (.listRelease r) s) 0x31 r s 0x0C) ∧
      (skip ≤ there → ls.held = false → Turned (exec (.listRelease r) s) 0x31 r s 0x0E) ∧
      (skip ≤ there → ls.held = true → DoneWith (exec (.listRelease r) s) 0x31 r [] (fun u =>
        (∃ x, FMap.get? u.lists i = some x ∧ x.held = false ∧ x.headTaken = false ∧ x.drops = 0 ∧ x.age = none) ∧
        (∀ j, j ≠ i → FMap.get? u.lists j = FMap.get? s.lists j) ∧
        (skip = 0 → u.spools = s.spools ∧ u.host = s.host) ∧
        (skip ≠ 0 → sp.kind = 4 → FMap.get? u.spools i = some { sp with cidx := (sp.cidx + skip) % 2 ^ 32 } ∧
          (∀ j, j ≠ i → FMap.get? u.spools j = FMap.get? s.spools j) ∧ Mem.readLE u.host sp.mirror 8 = (sp.cidx + skip) % 2 ^ 32)))) ∧
    (∀ i sp ls, i < Config.spools → FMap.get? s.lists i = some ls → FMap.get? s.spools i = some sp →
      (ls.drops < 8 → exec (.listDropLimit i) s = .next s) ∧
      (8 ≤ ls.drops → ls.held = false → Gives (exec (.listDropLimit i) s) (fun t =>
        FMap.get? t.lists i = some { ls with held := true, headTaken := false } ∧ (∀ j, j ≠ i → FMap.get? t.lists j = FMap.get? s.lists j) ∧
        t.adm.pending = s.adm.pending.filter (fun t => t.list ≠ some i) ∧ t.spools = s.spools ∧ t.host = s.host)))

-- ---------------------------------------------------------------- the shared stock and the Bolt

/-- R321, R322, R480: STOCK_MAP stages a copy of an installed image where the channels have room and starts its fill; STOCK_UNMAP drops a copy
that no segment names; a fill completes with the granules it wrote once every one is verified, or fails with BAD_DIGEST at the first
that no source yields. -/
def Obligations.StockCopiesAreMappedAndFilled : Prop :=
  ∀ (s : State) (r : CmdReq),
    (DevReq s r .plain [(0x08, fld 0 13 + fld 16 16), (0x0C, fld 0 32), (0x10, fld 0 13), (0x14, fld 0 9 + fld 16 4)] → r.origin = .mgmt →
      r.f 0x08 10 2 = 0 → r.f 0x08 16 16 = 0 → r.w 0x10 ≤ 4096 →
      let image := r.f 0x08 0 10
      let again := (r.w 0x08).testBit 12
      (s.thimbleBusy = true → Turned (exec (.stockMap r) s) 0x41 r s 0x0E) ∧
      (s.thimbleBusy = false → FMap.get? s.stock image = none → ∀ b, s.image? image (r.w 0x0C) = some b → again = false → b.pinned = false →
        (s.stockSlots b.granules = none → Turned (exec (.stockMap r) s) 0x41 r s 0x05) ∧
        (∀ slots, s.stockSlots b.granules = some slots → StartedWith (exec (.stockMap r) s) 0x41 r (fun u =>
          u.host = s.host ∧ u.contexts = s.contexts ∧ (∀ j, j ≠ image → FMap.get? u.stock j = FMap.get? s.stock j) ∧
          ∃ k, FMap.get? u.stock image = some k ∧ k.version = r.w 0x0C ∧ k.granules = b.granules ∧ k.slots = slots ∧ k.manifest = b.manifest ∧
            k.holdLimit = (if r.w 0x10 = 0 then 64 else r.w 0x10) ∧ k.cmd = some r.num ∧ k.begun = true ∧ k.readable = none ∧ k.filled = [] ∧ k.role = 0))) ∧
      (s.thimbleBusy = false → ∀ k, FMap.get? s.stock image = some k → again = false → Turned (exec (.stockMap r) s) 0x41 r s 0x0E)) ∧
    (DevReq s r .plain [(0x08, fld 0 10)] → r.origin = .mgmt → ∀ k, FMap.get? s.stock (r.w 0x08) = some k →
      let named := s.contexts.any (fun p => (s.segsOf p.1 p.2).any (fun q => q.2.valid && decide (q.2.kind = 3) && decide (q.2.region = r.w 0x08)))
      (k.cmd.isSome = true ∨ named = true → Turned (exec (.stockUnmap r) s) 0x42 r s 0x0E) ∧
      (k.cmd = none → named = false → DoneWith (exec (.stockUnmap r) s) 0x42 r [] (fun u => SameMemory s u ∧ FMap.get? u.stock (r.w 0x08) = none ∧
        (∀ j, j ≠ r.w 0x08 → FMap.get? u.stock j = FMap.get? s.stock j) ∧ u.contexts = s.contexts))) ∧
    (∀ image fetched k num, image < 1024 → FMap.get? s.stock image = some k → k.cmd = some num → k.begun = true → k.ended = none → k.role ≠ 2 →
      let source (g : Nat) : Option (List Byte) := s.sourceGranule image k.version k.manifest k.source fetched g
      ((∀ g ∈ k.wanted, source g ≠ none) → Gives (exec (.stockMapFilled image fetched) s) (fun t => t.host = s.host ∧ t.contexts = s.contexts ∧
        ∃ x, FMap.get? t.stock image = some x ∧ x.ended = some k.wanted.length ∧ x.cmd = some num ∧ x.states = k.states ∧
          ∀ g, g < k.granules → g ∈ x.filled ∧ (FMap.has k.states g = true → g ∈ x.recopied))) ∧
      (∀ g, k.wanted.find? (fun g => (source g).isNone) = some g → Gives (exec (.stockMapFilled image fetched) s) (fun t => SameMemory s t ∧
        t.due = s.due ++ [(num, 0x0A, [k.filled.length, 0, g])] ∧
        (k.readable = none → FMap.get? t.stock image = none) ∧
        (k.readable.isSome = true → ∃ x, FMap.get? t.stock image = some x ∧ x.cmd = none ∧ x.filled = k.filled))))

/-- R323: the sides of a board fill: a receiver begins when its reader has staged, a reader when every receiver has, and 256 ticks after its own
commit without the rest; a receiver checks the manifest and every granule it is sent, and a mismatch fails its fill. -/
def Obligations.BoardFillsGoFromReaderToReceivers : Prop :=
  ∀ (s : State) (image : Nat) (k : StockCopy) (num : Nat), image < 1024 → FMap.get? s.stock image = some k → k.cmd = some num →
    (∀ pos, pos < 9 → k.begun = false → pos ∉ k.staged →
      (k.role = 2 → k.reader = pos → Gives (exec (.fillStageNotice image k.version k.fillId pos) s) (fun t => SameMemory s t ∧
        FMap.get? t.stock image = some { k with staged := [pos], begun := true })) ∧
      (k.role = 1 → pos ∈ k.peers → (∃ p ∈ k.peers, p ≠ pos ∧ p ∉ k.staged) → Gives (exec (.fillStageNotice image k.version k.fillId pos) s)
        (fun t => t = { s with stock := t.stock } ∧ FMap.get? t.stock image = some { k with staged := k.staged ++ [pos] })) ∧
      (k.role = 1 → pos ∈ k.peers → (∀ p ∈ k.peers, p = pos ∨ p ∈ k.staged) → Gives (exec (.fillStageNotice image k.version k.fillId pos) s)
        (fun t => SameMemory s t ∧ FMap.get? t.stock image = some { k with staged := k.staged ++ [pos], begun := true } ∧
          t.board.nextMsg = s.board.nextMsg + k.peers.length))) ∧
    (∀ pos version, pos < 9 → version ≠ k.version → exec (.fillStageNotice image version k.fillId pos) s = .next { s with
      board := { s.board with fillHeard := s.board.fillHeard ++ [(image, version, k.fillId, pos, s.tick.number)] } }) ∧
    (s.stock = [(image, k)] → k.begun = false →
      (s.tick.number < k.stagedAt + 256 → Gives (exec .stockFillStageTimeout s) (fun t => t = { s with board := t.board } ∧
        t.board = { s.board with fillHeard := t.board.fillHeard } ∧
        ∀ h, h ∈ t.board.fillHeard ↔ h ∈ s.board.fillHeard ∧ s.tick.number < h.2.2.2.2 + 256)) ∧
      (k.stagedAt + 256 ≤ s.tick.number → k.role = 1 → Gives (exec .stockFillStageTimeout s) (fun t => SameMemory s t ∧
        ∃ x, FMap.get? t.stock image = some x ∧ x.begun = true ∧ x.peers = k.peers.filter (fun q => k.staged.contains q) ∧
          x.leftOut = k.peers.filter (fun q => !k.staged.contains q))) ∧
      (k.stagedAt + 256 ≤ s.tick.number → k.role = 2 → k.readable = none → Gives (exec .stockFillStageTimeout s) (fun t => SameMemory s t ∧
        FMap.get? t.stock image = none ∧ ∀ q ∈ t.running, q.num ≠ num))) ∧
    (k.role = 2 → k.begun = true → ∀ receivers g bs, g < k.granules →
      (sha256 bs ≠ leNat (slice k.manifest (64 + 32 * g) 32) → Gives (exec (.fillMessageReceive image k.fillId receivers (some g) bs) s) (fun t =>
        SameMemory s t ∧ t.due = s.due ++ [(num, 0x0A, [k.filled.length, 0, g])])) ∧
      (sha256 bs = leNat (slice k.manifest (64 + 32 * g) 32) → Gives (exec (.fillMessageReceive image k.fillId receivers (some g) bs) s) (fun t =>
        t.host = s.host ∧ t.due = s.due ∧ ∃ x, FMap.get? t.stock image = some x ∧ g ∈ x.filled ∧ x.states = k.states ∧
          (FMap.has k.states g = true → g ∈ x.recopied) ∧ x.cmd = k.cmd ∧ x.granules = k.granules)) ∧
      (manifestOk bs = false → Gives (exec (.fillMessageReceive image k.fillId receivers none bs) s) (fun t =>
        SameMemory s t ∧ t.due = s.due ++ [(num, 0x0A, [k.filled.length, 0, 0])])))

/-- R329 to R333: a HELD granule is recopied from the first source, in their order, whose digest matches, at most 16 at a time, and released at
the next commit, with the chunks it was rebuilt on; where every source fails the try is repeated after 16 ticks, with what members
have supplied by then; past the hold limit it
is LOST. A member's request for a granule is answered with its bytes, or with none. -/
def Obligations.HeldGranulesAreRecopiedOrLost : Prop :=
  ∀ (s : State) (image g : Nat) (fetched : List Supplied) (k : StockCopy), image < 1024 → FMap.get? s.stock image = some k →
    let source := s.sourceGranule image k.version k.manifest k.source fetched g
    (∀ since, FMap.get? k.states g = some (.held since) →
      (∀ bs s1, source = some bs → s.rebuildGranule image g = some s1 →
        FMap.has k.recopying g = true ∨ (s.recopies < 16 ∧ FMap.get? k.failedAt g = none ∧ g ∉ k.recopied) →
        Gives (exec (.granuleRecopyDone image g fetched) s) (fun t => t.host = s.host ∧ t.contexts = s.contexts ∧
          ∃ x, FMap.get? t.stock image = some x ∧ g ∈ x.recopied ∧ FMap.get? x.recopying g = none ∧ FMap.get? x.states g = some (.held since))) ∧
      (source = none → ∀ n, FMap.get? k.recopying g = some n →
        (n < 3 → Gives (exec (.granuleRecopyDone image g fetched) s) (fun t => SameMemory s t ∧ ∃ m, n < m ∧ m ≤ 3 ∧
          FMap.get? t.stock image = some { k with recopying := FMap.set k.recopying g m })) ∧
        (3 ≤ n → Gives (exec (.granuleRecopyDone image g fetched) s) (fun t => t = { s with stock := t.stock } ∧
          FMap.get? t.stock image = some { k with recopying := FMap.del k.recopying g, failedAt := FMap.set k.failedAt g s.tick.number }))) ∧
      (16 ≤ s.recopies → FMap.get? k.recopying g = none → exec (.granuleRecopyDone image g fetched) s = .next s)) ∧
    (FMap.get? k.states g = none → FMap.get? k.recopying g = none → exec (.granuleRecopyDone image g fetched) s = .next s) ∧
    (∀ at_, FMap.get? k.failedAt g = some at_ →
      (s.tick.number < at_ + 16 → exec (.granuleRecopyRetry image g fetched) s = .next s) ∧
      (∀ since, at_ + 16 ≤ s.tick.number → FMap.get? k.states g = some (.held since) → s.recopies < 16 → FMap.get? k.recopying g = none →
        g ∉ k.recopied → Gives (exec (.granuleRecopyRetry image g []) s) (fun t => SameMemory s t ∧ ∃ m, 1 ≤ m ∧ m ≤ 3 ∧
          FMap.get? t.stock image = some { k with recopying := FMap.set k.recopying g m, failedAt := FMap.del k.failedAt g })) ∧
      (∀ since bs s1, at_ + 16 ≤ s.tick.number → FMap.get? k.states g = some (.held since) → s.recopies < 16 → FMap.get? k.recopying g = none →
        g ∉ k.recopied → fetched ≠ [] → source = some bs → (s.startRecopy image g).rebuildGranule image g = some s1 →
        Gives (exec (.granuleRecopyRetry image g fetched) s) (fun t => t.host = s.host ∧ t.contexts = s.contexts ∧
          ∃ x, FMap.get? t.stock image = some x ∧ g ∈ x.recopied ∧ FMap.get? x.recopying g = none ∧ FMap.get? x.states g = some (.held since)))) ∧
    (s.stock = [(image, k)] → ∀ since, k.states = [(g, .held since)] →
      (k.recopied = [g] → Gives (exec .granuleHoldLimit s) (fun t => SameMemory s t ∧ (∀ x ∈ t.adm.pending, x.heldFor ≠ some (image, g)) ∧
        ∃ x, FMap.get? t.stock image = some x ∧ x.states = [] ∧ x.recopied = [] ∧
          (k.switching = [] → x = { k with states := [], recopied := [] }) ∧
          ∀ j p, k.switching = [(j, p)] → j / 32 = g → FMap.get? x.rebuilt j = some p ∧ x.switching = [])) ∧
      (k.recopied = [] → since + k.holdLimit ≤ s.tick.number → Gives (exec .granuleHoldLimit s) (fun t => SameMemory s t ∧
        FMap.get? t.stock image = some { k with states := [(g, .lost)], failedAt := FMap.del k.failedAt g, recopying := FMap.del k.recopying g } ∧
        ∀ ld ∈ t.loads, ld ∈ s.loads))) ∧
    (∀ member version,
      (s.boltGranule image version g = none → Gives (exec (.peerGranuleRequest member image version g true) s) (fun t =>
        SameMemory s t ∧ t.stock = s.stock ∧ Sent s t member 7 [15, image, version, g, 0])) ∧
      (k.version ≠ version ∨ g ∉ k.filled → Gives (exec (.peerGranuleRequest member image version g false) s) (fun t =>
        SameMemory s t ∧ t.stock = s.stock ∧ Sent s t member 7 [15, image, version, g, 0])) ∧
      (k.version = version → g ∈ k.filled → FMap.get? k.states g = none → Gives (exec (.peerGranuleRequest member image version g false) s) (fun t =>
        SameMemory s t ∧ t.stock = s.stock ∧ Sent s t member 7 ([15, image, version, g, 1] ++ wordsOf (s.stockBytes k (2097152 * g) 2097152) 524288))))

/-- R325 to R328, R479: WEIGHT_LOAD checks its source and its ranges and starts; with NEW it stages the Pattern it fills first, and a PEER source is
asked for its rows. The load moves its rows as their writes are acknowledged and goes on; after the last its completion is due, with the
bytes of the rows that moved; BAD_PARAM where its peer refuses it, SEG_FAULT where a range has gone. -/
def Obligations.WeightLoadsStartAndEnd : Prop :=
  (∀ (s : State) (r : CmdReq) (c : Nat) (cx : Context), CtxReq s r .block [] c cx → cx.risk.held = false →
    blockOk r 0 8 [(0x00, fld 0 3), (0x04, fld 0 10), (0x08, fld 0 32)] = true →
    let source := r.bf 0 0 2
    let new := (r.bw 0).testBit 2
    let d := DmaDesc.ofBytes (slice r.block 0x20 128)
    (d.bad = true → Turned (exec (.weightLoad r) s) 0x40 r s 0x0C) ∧
    (∀ e, d.bad = false → s.loadSource cx source (r.bw 4) (r.bw 8) d = .error e → e ≠ 0x07 → Turned (exec (.weightLoad r) s) 0x40 r s e) ∧
    (∀ version, d.bad = false → s.loadSource cx source (r.bw 4) (r.bw 8) d = .ok version →
      let ld (pat : Option Nat) : WeightLoad := ⟨r.num, c, source, r.bw 4, version, d, pat, 0⟩
      let asks : Nat := if source = 2 then d.rows * ((if d.srcBytes = 0 then 0 else 1) + (if d.ssBytes = 0 then 0 else 1)) else 0
      (64 ≤ s.loads.length → Turned (exec (.weightLoad r) s) 0x40 r s 0x0E) ∧
      (s.loads.length < 64 → new = false →
        (s.loadRanges cx source d = false → Turned (exec (.weightLoad r) s) 0x40 r s 0x0F) ∧
        (s.loadRanges cx source d = true → StartedWith (exec (.weightLoad r) s) 0x40 r (fun u => SameMemory s u ∧ u.contexts = s.contexts ∧
          u.loads = s.loads ++ [ld none] ∧ (source ≠ 1 → u.board.nextMsg = s.board.nextMsg + asks) ∧
          (source = 0 ∨ source = 3 → u = { s with loads := s.loads ++ [ld none] })))) ∧
      (s.loads.length < 64 → new = true → ∀ num p named p1, readPattern r 0xA0 = some (num, p, named) → cx.patternBusy num = false →
        s.placePattern c cx p named = .ok p1 → StartedWith (exec (.weightLoad r) s) 0x40 r (fun u => u.host = s.host ∧
          u.loads = s.loads ++ [ld (some num)] ∧
          u.ctx? c = some { cx with patternStages := FMap.set cx.patternStages num ⟨p1, if p1.residence = 2 then some s.tick.number else none, none⟩ })))) ∧
  (∀ (s : State) (ld : WeightLoad) (cx : Context) (rows status : Nat) (fetched : List Supplied),
    s.loads.find? (fun x => x.cmd = ld.cmd) = some ld → s.ctx? ld.ctx = some cx →
    let left := s.loads.filter (fun x => x.cmd != ld.cmd)
    let moves (n : Nat) : State × Nat × Option (Nat × Nat) := s.loadRows ld fetched ((List.range n).drop ld.moved) ld.moved
    let result (moved : Nat) : List Nat :=
      let bytes := moved * (ld.desc.totalBytes / Nat.max 1 ld.desc.rows)
      [bytes % 2 ^ 32, bytes / 2 ^ 32 % 2 ^ 32]
    (s.loadWaits cx ld = true → exec (.weightLoadDone ld.cmd rows status fetched) s = .next s) ∧
    (s.loadWaits cx ld = false →
      (s.loadRanges cx ld.source ld.desc = false → exec (.weightLoadDone ld.cmd rows status fetched) s =
        .next { s with loads := left, due := s.due ++ [(ld.cmd, 0x0F, result ld.moved)] }) ∧
      (s.loadRanges cx ld.source ld.desc = true → status = 0x0C → exec (.weightLoadDone ld.cmd rows status fetched) s =
        .next { s with loads := left, due := s.due ++ [(ld.cmd, 0x0C, result ld.moved)] }) ∧
      (s.loadRanges cx ld.source ld.desc = true → status ≠ 0x09 → status ≠ 0x04 → status ≠ 0x0C →
        (∀ s1 moved, ld.desc.rows ≤ rows → moves ld.desc.rows = (s1, moved, none) → Gives (exec (.weightLoadDone ld.cmd rows status fetched) s)
          (fun t => SameMemory s1 t ∧ t.contexts = s1.contexts ∧ t.due = s1.due ++ [(ld.cmd, 0x00, result moved)] ∧ ∀ x ∈ t.loads, x.cmd ≠ ld.cmd)) ∧
        (∀ s1 moved, rows < ld.desc.rows → moves rows = (s1, moved, none) → Gives (exec (.weightLoadDone ld.cmd rows status fetched) s)
          (fun t => t = { s1 with loads := t.loads } ∧ t.loads.find? (fun x => x.cmd = ld.cmd) = (s1.loads.find? (fun x => x.cmd = ld.cmd)).map
            (fun x => { x with moved := moved }))))))

/-- R312 to R320, R334, R481, R573: an install takes free blocks of the stacks its layout needs and ends VALID or with BAD_DIGEST at its first bad
granule; BOLT_REMOVE frees a version that nothing maps; a page read counts what it corrects, a page unreadable in both tries costs
its block, and a failed program retires its block. -/
def Obligations.BoltImagesInstallReadAndRetire : Prop :=
  ∀ (s : State) (r : CmdReq),
    (DevReq s r .plain [(0x08, fld 0 32), (0x0C, fld 0 32), (0x10, fld 0 5)] → r.origin = .mgmt → r.d 0x08 % 4096 = 0 → r.f 0x10 0 2 ≠ 3 →
      let m := s.readManifest (r.d 0x08)
      let image := word32 m 4
      let copies := if (r.w 0x10).testBit 2 then 2 else 1
      let b := installOf m copies r.num (r.d 0x08) .new
      (manifestOk m = false → Turned (exec (.boltInstall r) s) 0x43 r s 0x0C) ∧
      (manifestOk m = true → s.thimbleBusy = true ∨ (s.installing? image).isSome = true → Turned (exec (.boltInstall r) s) 0x43 r s 0x0E) ∧
      (manifestOk m = true → s.thimbleBusy = false → s.installing? image = none → r.f 0x10 3 2 = 0 →
        (∀ o, s.installed? image = some o → Turned (exec (.boltInstall r) s) 0x43 r s 0x0E) ∧
        (s.installed? image = none → s.checkManifest m = 0 → s.blocksFit copies b.blocks = false → Turned (exec (.boltInstall r) s) 0x43 r s 0x05) ∧
        (s.installed? image = none → s.checkManifest m = 0 → s.blocksFit copies b.blocks = true → (∀ k, k < 2 → (s.bolt k).free.Nodup) →
          StartedWith (exec (.boltInstall r) s) 0x43 r (fun u => SameMemory s u ∧ (∃ at_, u.images = s.images ++ [{ b with places := at_ }] ∧
            ∀ c i, c < copies → i < b.blocks → ((at_.getD c [])[i]?).map Prod.fst = some (if copies = 2 then c else i % 2)) ∧
            ∀ k, k < 2 → (u.bolt k).freeBlocks =
              (s.bolt k).freeBlocks - (if copies = 2 then b.blocks else if k = 0 then (b.blocks + 1) / 2 else b.blocks / 2))))) ∧
    (DevReq s r .plain [(0x08, fld 0 10), (0x0C, fld 0 32)] → r.origin = .mgmt →
      (s.image? (r.w 0x08) (r.w 0x0C) = none → Turned (exec (.boltRemove r) s) 0x44 r s 0x0C) ∧
      (∀ b, s.image? (r.w 0x08) (r.w 0x0C) = some b →
        (∀ k, FMap.get? s.stock (r.w 0x08) = some k → k.version = r.w 0x0C → Turned (exec (.boltRemove r) s) 0x44 r s 0x0E) ∧
        (FMap.get? s.stock (r.w 0x08) = none → s.installing? (r.w 0x08) = none → DoneWith (exec (.boltRemove r) s) 0x44 r [] (fun u =>
          SameMemory s u ∧ u.stock = s.stock ∧ b ∉ u.images ∧ ∀ x ∈ u.images, x ∈ s.images)))) ∧
    (DevReq s r .out [] →
      let recs := [s.boltRecord 0, s.boltRecord 1] ++ s.listed.map BoltImage.record
      recs.flatten.length ≤ r.w 0x38 → Reports (exec (.boltStatus r) s) 0x45 r s recs) ∧
    (∀ image b num, image < 1024 → s.installing? image = some b → b.cmd = some num → b.verified = false →
      let ok (g : Nat) : Prop := sha256 (Mem.readN s.host (b.stagedAt + b.manifest.length + 2097152 * g) 2097152) = manifestDigest b.manifest g
      (∀ g, g < b.granules → ¬ ok g → (∀ j, j < g → ok j) → Gives (exec (.boltInstallVerified image) s) (fun t => SameMemory s t ∧
        t.due = s.due ++ [(num, 0x0A, [b.image, b.version, g])] ∧ ∀ x ∈ t.images, x ∈ s.images)) ∧
      ((∀ g, g < b.granules → ok g) → Gives (exec (.boltInstallVerified image) s) (fun t => SameMemory s t ∧
        t.due = s.due ++ [(num, 0x00, [b.image, b.version])] ∧ ∃ x, t.installing? image = some x ∧ x.verified = true ∧ x.version = b.version))) ∧
    (∀ image version copy page b, image < 1024 → s.image? image version = some b → copy < b.copies → b.copies ≤ 2 → page < 512 * b.granules →
      let k := b.stackOf copy (b.blockOf (page / 512))
      (exec (.boltPageRead image version copy ⟨page, none⟩ 0 0 true true) s = .next (s.modBolt k (fun x =>
        { x with heavy := x.heavy.filter (· != (image, version, copy, page)) }))) ∧
      (∀ e, 0 < e → e ≤ 48 → Gives (exec (.boltPageRead image version copy ⟨page, none⟩ e 0 true true) s) (fun t => SameMemory s t ∧ t.images = s.images ∧
        (t.bolt k).corrected = Nat.min (2 ^ 32 - 1) ((s.bolt k).corrected + 1) ∧ (t.bolt k).unreadable = (s.bolt k).unreadable)) ∧
      (Gives (exec (.boltPageRead image version copy ⟨page, none⟩ 73 73 true true) s) (fun t => SameMemory s t ∧
        (t.bolt k).retired = (s.bolt k).retired + 1 ∧ (t.bolt k).unreadable = Nat.min (2 ^ 32 - 1) ((s.bolt k).unreadable + 1)))) ∧
    (∀ image version copy block b, image < 1024 → s.image? image version = some b → copy < b.copies → b.copies ≤ 2 → block < b.blocks →
      ∀ at_, (b.places.getD copy [])[block]? = some at_ →
      let k := at_.1
      (Gives (exec (.boltPageProgram image version copy block true false false) s) (fun t => SameMemory s t ∧ t.images = s.images ∧
        (t.bolt k).erasesOf at_.2 = (s.bolt k).erasesOf at_.2 + 1 ∧ (t.bolt k).retired = (s.bolt k).retired)) ∧
      (0 < (s.bolt k).spare → Gives (exec (.boltPageProgram image version copy block false true false) s) (fun t => SameMemory s t ∧
        (t.bolt k).retired = (s.bolt k).retired + 1 ∧ (t.bolt k).spare = (s.bolt k).spare - 1 ∧
        ∃ x, t.image? image version = some x ∧ x.placeOf copy block = (k, 31594 - (s.bolt k).spare) ∧ x.damaged = b.damaged)))

-- ---------------------------------------------------------------- generation

/-- R336 to R339, R347, R351 to R354, R482 to R484: GEN_CFG and DRAFT_SET stage their values; REQ_OPEN enters a request in PREFILL; REQ_PAUSE
gives its pleats runs in the grant and REQ_RESUME pleats in the pool, each refused with BUSY in another state; REQ_CANCEL closes a
request, and one that has expired is closed by either. -/
def Obligations.RequestsOpenPauseResumeAndEnd : Prop :=
  ∀ (s : State) (r : CmdReq) (c : Nat) (cx : Context),
    (CtxReq s r .plain
        [(0x08, fld 0 17), (0x0C, fld 0 18), (0x10, fld 0 25), (0x14, fld 0 23), (0x18, fld 0 23), (0x1C, fld 0 32), (0x20, fld 0 26),
          (0x24, fld 0 11), (0x28, fld 0 23), (0x2C, fld 0 10)] c cx →
      let g := readGenCfg r
      let inside : Prop := cx.reqBase ≤ g.reqBase ∧ g.reqBase + g.maxReq ≤ cx.reqBase + cx.reqCount
      (g.inRange = false ∨ ¬ inside → Turned (exec (.genCfg r) s) 0x50 r s 0x0C) ∧
      (g.inRange = true → inside →
        (∀ im, g.draftImage = some im → ∃ p ∈ s.segsOf c cx, p.2.valid = true ∧ p.2.kind = 3 ∧ p.2.region = im) →
        (∀ p ∈ s.contexts, p.1 ≠ c → ∀ o, s.stagedGen p.1 p.2 = some o → o.reqBase + o.maxReq ≤ g.reqBase ∨ g.reqBase + g.maxReq ≤ o.reqBase) →
        (∀ o, s.stagedGen c cx = some o → o.fixed = g.fixed) ∨ (∀ p ∈ s.requests, p.2.ctx ≠ c) → Stages (exec (.genCfg r) s) 0x50 r s [.genCfg c g])) ∧
    (CtxReq s r .block [] c cx → r.origin = .context c → ∀ g idx q, cx.genCfg = some g → readRequest s c g false r = some (idx, q) →
      q.garment = false →
      let free : Prop := FMap.has s.requests idx = false ∧ s.indexFree 1 idx = true ∧ s.bobbinFree c (r.bw 4) false = true
      (s.spoolNow (r.bw 4) = false → Turned (exec (.reqOpen r) s) 0x51 r s 0x07) ∧
      (s.spoolNow (r.bw 4) = true → ¬ free → Turned (exec (.reqOpen r) s) 0x51 r s 0x0E) ∧
      (free → DoneWith (exec (.reqOpen r) s) 0x51 r [s.reqGen idx * 2 ^ 17 + idx] (fun u => u.requests = FMap.set s.requests idx q ∧
        q.state = .prefill ∧ q.ctx = c ∧ q.promptLen = r.bw 0x14 ∧ q.maxNew = r.bw 0x18 ∧ q.length = 0 ∧ q.tokens = 0 ∧ q.pleats = [] ∧
        u.ctx? c = some { cx with owed := cx.owed + 1 } ∧ ∀ d, d ≠ c → u.ctx? d = s.ctx? d))) ∧
    (CtxReq s r .plain [(0x08, fld 0 25), (0x0C, fld 0 26)] c cx → ∀ i q g, s.namedReq c r = .ok (i, q) → cx.genCfg = some g →
      let gr := if r.f 0x0C 16 10 = 0x3FF then g.pauseGrant else r.f 0x0C 16 10
      let ttl := r.f 0x0C 0 16
      let want := q.pleats.map (fun _ => g.pleatChunks) ++ q.draftPleats.map (fun _ => g.draftChunks)
      (ttl = 0 → Turned (exec (.reqPause r) s) 0x52 r s 0x0C) ∧
      (ttl ≠ 0 → q.state = .expired → Turned (exec (.reqPause r) s) 0x52 r s 0x01) ∧
      (ttl ≠ 0 → q.state ≠ .expired → cx.risk.held = true ∨ (q.state ≠ .prefill ∧ q.state ≠ .decode) → Turned (exec (.reqPause r) s) 0x52 r s 0x0E) ∧
      (∀ grant runs, ttl ≠ 0 → cx.risk.held = false → q.state = .prefill ∨ q.state = .decode → FMap.get? cx.grants gr = some grant →
        hemRunsFor (s.grantRuns c cx gr) grant.len want = some runs → q.garment = false → DoneWith (exec (.reqPause r) s) 0x52 r [] (fun u =>
          u = { s with requests := u.requests } ∧ (∀ j, j ≠ i → FMap.get? u.requests j = FMap.get? s.requests j) ∧
          FMap.get? u.requests i = some { q with state := .pausing, prior := q.state, grant := gr, hemRuns := runs, ttl := ttl, copyDone := none }))) ∧
    (CtxReq s r .plain [(0x08, fld 0 25)] c cx → ∀ i q, s.namedReq c r = .ok (i, q) →
      (cx.risk.held = false → q.state = .prefill ∨ q.state = .decode ∨ q.state = .pausing ∨ q.state = .resuming →
        Turned (exec (.reqResume r) s) 0x53 r s 0x0E) ∧
      (cx.risk.held = false → q.state = .expired → ∃ u : State, exec (.reqResume r) s = .next (u.complete { r with opcode := 0x53 } 0x08 []) ∧
        FMap.get? u.requests i = none) ∧
      (∀ g s1, cx.risk.held = false → q.state = .paused → cx.genCfg = some g →
        s.allocPleats i (if g.draftImage.isSome then q.hemRuns.length / 2 else q.hemRuns.length) = some s1 →
        DoneWith (exec (.reqResume r) s) 0x53 r [] (fun u => SameMemory s1 u ∧ u.contexts = s1.contexts ∧
          ∃ x, FMap.get? u.requests i = some x ∧ x.state = .resuming ∧ x.hemRuns = q.hemRuns ∧ x.prior = q.prior ∧ x.ctx = q.ctx ∧ x.tokens = q.tokens)) ∧
      (q.state = .expired → ∃ u : State, exec (.reqCancel r) s = .next (u.complete { r with opcode := 0x54 } 0x01 []) ∧
        FMap.get? u.requests i = none) ∧
      (q.state ≠ .expired → DoneWith (exec (.reqCancel r) s) 0x54 r [] (fun u => FMap.get? u.requests i = none ∧
        u.reqGen i = (if s.reqGen i ≥ 255 then 1 else s.reqGen i + 1) ∧ u.spools = s.spools))) ∧
    (CtxReq s r .plain [(0x08, fld 0 25), (0x0C, fld 0 4)] c cx → ∀ i q, s.namedReq c r = .ok (i, q) →
      (r.w 0x0C = 0 ∨ (∃ g, cx.genCfg = some g ∧ g.draftImage ≠ none) → Stages (exec (.draftSet r) s) 0x55 r s [.draft i (r.w 0x0C)]) ∧
      (r.w 0x0C ≠ 0 → (∀ g, cx.genCfg = some g → g.draftImage = none) → Turned (exec (.draftSet r) s) 0x55 r s 0x0C))

/-- R347, R351, R353, R355, R356: what ends of itself in a request's life: its copies, its time to live and its off count; and what members
of a garment tell each other of it. -/
def Obligations.RequestsChangeByThemselves : Prop :=
  ∀ (s : State) (i : Nat) (q : Request), i < Config.requests → FMap.get? s.requests i = some q →
    let becomes (x : Request) (t : State) : Prop := FMap.get? t.requests i = some x ∧ ∀ j, j ≠ i → FMap.get? t.requests j = FMap.get? s.requests j
    (q.state = .pausing → q.copyDone = none →
      (s.copyFails q = none → Gives (exec (.pauseCopyDone i) s) (fun t => becomes { q with copyDone := some true } t ∧
        t.stack = s.stack ∧ t.contexts = s.contexts)) ∧
      (∀ p, s.copyFails q = some p → Gives (exec (.pauseCopyDone i) s) (fun t => t = { s with fences := t.fences } ∧
        t.fences.hostPoison = s.fences.hostPoison ++ [(q.ctx, 0, p.1, p.2)]))) ∧
    (q.state = .resuming → q.copyDone = none →
      Gives (exec (.resumeCopyDone i true) s) (fun t => t = { s with requests := t.requests } ∧
        becomes { q with copyDone := some false, failing := some (0x12, true) } t) ∧
      ((s.copyFails q).isSome = true → exec (.resumeCopyDone i false) s = exec (.resumeCopyDone i true) s) ∧
      (s.copyFails q = none →
        Gives (exec (.resumeCopyDone i false) s) (fun t => becomes { q with copyDone := some true } t ∧ t.host = s.host ∧ t.contexts = s.contexts))) ∧
    (q.home = true → q.state = .paused →
      (s.tick.startNs + (s.tick.periodNs - 8000) < q.pausedAt + q.ttl * 10 ^ 9 → exec (.requestExpiry i) s = .next s) ∧
      (q.pausedAt + q.ttl * 10 ^ 9 ≤ s.tick.startNs + (s.tick.periodNs - 8000) → Gives (exec (.requestExpiry i) s) (fun t =>
        ∃ x, FMap.get? t.requests i = some x ∧ x.state = .expired ∧ x.pleats = [] ∧ x.draftPleats = [] ∧ x.hemRuns = [] ∧ x.tokens = q.tokens))) ∧
    (q.depth = 0 → 1 ≤ q.dMax → q.offCount = 0 → Gives (exec (.draftOffCountExpiry i) s) (fun t => t = { s with requests := t.requests } ∧
      becomes { q with depth := 1 } t)) ∧
    (∀ m, m ∉ q.acks → Gives (exec (.garmentRequestAck i m) s) (fun t => t = { s with requests := t.requests } ∧ becomes { q with acks := m :: q.acks } t)) ∧
    (∀ u : ReqUpdate, u.req < Config.requests → u.ctx < Config.contexts → s.isReady = true →
      let counts (epoch gen : Nat) : Prop := Gives (exec (.garmentRequestUpdate u) s) (fun t => SameMemory s t ∧ t.requests = s.requests ∧
        t.shadowUpdates = s.shadowUpdates ∧ t.staleEpoch = Nat.min (2 ^ 32 - 1) (s.staleEpoch + epoch) ∧
        t.staleGen = Nat.min (2 ^ 32 - 1) (s.staleGen + gen))
      let held : Prop := FMap.has s.contexts u.ctx = true ∧ ∃ g, FMap.get? s.garments u.garment = some g ∧ u.ctx ∈ g.ctxs
      s.staleEpoch < 2 ^ 32 → s.staleGen < 2 ^ 32 →
      (u.epoch ≠ s.sendEpoch → counts 1 0) ∧
      (u.epoch = s.sendEpoch → ¬ held ∨ (∃ n, s.shadowGen u.req = some n ∧ n ≠ u.gen) ∨ (s.shadowGen u.req = none ∧ 3 ≤ u.state) → counts 0 1) ∧
      (u.epoch = s.sendEpoch → held → s.shadowGen u.req = some u.gen → exec (.garmentRequestUpdate u) s =
        .next { s with shadowUpdates := s.shadowUpdates ++ [{ upd := u }] }) ∧
      (u.epoch = s.sendEpoch → held → s.shadowGen u.req = none → u.state < 3 →
        Gives (exec (.garmentRequestUpdate u) s) (fun t => t.shadowUpdates = s.shadowUpdates ++ [{ upd := u }] ∧ t.requests = s.requests ∧
          SameMemory s t ∧ Sent s t u.home 7 [2, u.garment, u.req + 2 ^ 17 * u.gen])))

-- ---------------------------------------------------------------- training steps

/-- R359, R360, R362, R370, R389, R485, R486: STEP_BEGIN counts a LOCAL step or opens a REDUCE step in the next buffer, with its deadline; a step that does
not follow is refused, and a buffer in use is BUSY. STEP_MODE and ACC_EVERY stage their values, and LEDGER_READ returns entries. -/
def Obligations.TrainingStepsBegin : Prop :=
  ∀ (s : State) (r : CmdReq) (c : Nat) (cx : Context),
    let all := fld 0 32
    let tr := cx.train
    (CtxReq s r .plain [(0x08, all), (0x0C, fld 0 17), (0x10, fld 0 23), (0x14, fld 0 8 + fld 16 16), (0x18, all), (0x1C, fld 0 10), (0x20, all),
        (0x24, fld 0 28), (0x28, fld 0 24)] c cx → ∀ list sp, s.cmdSpool c (r.w 0x24) = .ok (list, sp) →
      let step := r.w 0x08
      let attempt := r.f 0x0C 0 4
      let st := readStep r s.tick.number tr.accEvery list tr.mode
      let good : Prop := sp.kind = 4 ∧ st.wellFormed cx r = true ∧
        ((tr.last = none ∧ attempt = 0) ∨ (∃ n a rep, tr.last = some (n, a, rep) ∧
          ((step = (n + 1) % 2 ^ 32 ∧ attempt = 0) ∨ (rep = true ∧ step = n ∧ attempt = a + 1))))
      (¬ good → Turned (exec (.stepBegin r) s) 0x60 r s 0x0C) ∧
      (good → attempt = 0 → tr.localSteps + 1 < tr.accEvery → DoneWith (exec (.stepBegin r) s) 0x60 r [0, 0] (fun u =>
        u = { s with contexts := u.contexts } ∧ ∃ x, u.ctx? c = some x ∧ x.train.localSteps = tr.localSteps + 1 ∧
          x.train.last = some (step, 0, false) ∧ x.train.buf0 = tr.buf0 ∧ x.train.buf1 = tr.buf1)) ∧
      (good → attempt = 0 → tr.accEvery ≤ tr.localSteps + 1 →
        let b := tr.bufCount % 2
        let free : Prop := (∀ p, tr.buf b = some p → p.state = .done ∨ p.state = .repeat_) ∧ cx.risk.stepBusy = false ∧
          ∀ k ∈ s.turns, k.srcCtx = c → k.quiesces = false
        (¬ free → Turned (exec (.stepBegin r) s) 0x60 r s 0x0E) ∧
        (free → DoneWith (exec (.stepBegin r) s) 0x60 r [1 + 2 * b, (s.tick.number + r.f 0x14 16 16) % 2 ^ 32] (fun u =>
          u = { s with contexts := u.contexts } ∧ ∃ x y, u.ctx? c = some x ∧ x.train.buf b = some y ∧ x.train.buf (b + 1) = tr.buf (b + 1) ∧
            y.state = .open_ ∧ y.step = step ∧ y.attempt = 0 ∧ y.tiles = r.w 0x10 ∧ y.contrib = r.f 0x14 0 8 ∧ y.ledger = [] ∧ y.n = tr.accEvery ∧
            y.deadline = s.tick.number + r.f 0x14 16 16 ∧ x.owed = cx.owed + 1 ∧ x.train.localSteps = 0 ∧ x.train.bufCount = tr.bufCount + 1)))) ∧
    (CtxReq s r .plain [(0x08, fld 0 3)] c cx → ∃ m : StepMode, m.lenient = (r.w 0x08).testBit 0 ∧ m.fixed = (r.w 0x08).testBit 1 ∧
      m.always = (r.w 0x08).testBit 2 ∧ Stages (exec (.stepMode r) s) 0x61 r s [.stepMode c m]) ∧
    (CtxReq s r .plain [(0x08, fld 0 7)] c cx →
      (r.w 0x08 = 0 ∨ 64 < r.w 0x08 → Turned (exec (.accEvery r) s) 0x62 r s 0x0C) ∧
      (1 ≤ r.w 0x08 → r.w 0x08 ≤ 64 → tr.localSteps ≠ 0 → Turned (exec (.accEvery r) s) 0x62 r s 0x0E) ∧
      (1 ≤ r.w 0x08 → r.w 0x08 ≤ 64 → tr.localSteps = 0 → Stages (exec (.accEvery r) s) 0x62 r s [.accEvery c (r.w 0x08)])) ∧
    (CtxReq s r .out [(0x08, fld 0 1), (0x0C, fld 0 22), (0x10, fld 0 23)] c cx → ∀ st, tr.buf (r.w 0x08) = some st →
      (st.tiles < r.w 0x0C + r.w 0x10 → Turned (exec (.ledgerRead r) s) 0x63 r s 0x0C) ∧
      (r.w 0x0C + r.w 0x10 ≤ st.tiles → 80 * r.w 0x10 ≤ r.w 0x38 → Reports (exec (.ledgerRead r) s) 0x63 r s
        ((List.range (r.w 0x10)).map (fun i => st.entry (s.checks cx st) (r.w 0x0C + i)))))

/-- R281, R366 to R373, R619: an addition reaches its target or is answered with the reason it does not: STALE for a context that is gone or a
step that is no longer open, SEG_FAULT for a segment that is none. A keyed contribution's slot counts its additions; a second
message for it tears the tile; its notices wait for the commit. -/
def Obligations.ContributionsReachTheirTiles : Prop :=
  ∀ (s : State) (m : AccMsg) (c : Nat) (cx : Context) (key : RedKey),
    RedKey.ofNat m.key = some key → s.isReady = true →
    (m.epoch ≠ s.sendEpoch → Gives (exec (.remoteAccumulation m) s) (fun t => SameMemory s t ∧ t.contexts = s.contexts ∧ t.board = s.board ∧
      t.staleEpoch = Nat.min (2 ^ 32 - 1) (s.staleEpoch + 1))) ∧
    (m.epoch = s.sendEpoch →
    ((m.peer = false ∧ s.ctx? m.garment = none) ∨ (m.peer = true ∧ s.garmentCtx m.garment m.seg = none) →
      Gives (exec (.remoteAccumulation m) s) (fun t => SameMemory s t ∧ t.contexts = s.contexts ∧
        t.staleGen = Nat.min (2 ^ 32 - 1) (s.staleGen + 1) ∧ Sent s t m.sender 7 [19, m.msg, 0x07, 0])) ∧
    ((m.peer = false ∧ m.garment = c) ∨ (m.peer = true ∧ s.garmentCtx m.garment m.seg = some c) →
    (s.ctx? c = some cx → FMap.get? cx.segs m.seg = none → Gives (exec (.remoteAccumulation m) s) (fun t => SameMemory s t ∧
      t.contexts = s.contexts ∧ Sent s t m.sender 7 [19, m.msg, 0x0F, 0])) ∧
    (∀ d, s.ctx? c = some cx → FMap.get? cx.segs m.seg = some d → s.addsInHem c d m = true →
      Gives (exec (.remoteAccumulation m) s) (fun t => t = { s with board := t.board } ∧ Sent s t m.sender 7 [19, m.msg, 0x04, 0])) ∧
    (∀ d, s.ctx? c = some cx → FMap.get? cx.segs m.seg = some d → s.addsInHem c d m = false → key.keyed = false →
      s.ctxSegOk cx m.seg (m.off + 4 * m.first) (4 * m.vals.length) .write = true → ∀ run,
      s.addVals c d m.seg (m.off + 4 * m.first) m.vals m.adderBad = run →
      Gives (exec (.remoteAccumulation m) s) (fun t => SameMemory run.st t ∧ Sent run.st t m.sender 7
        [19, m.msg, if run.residue || run.noAdder then 0x04 else if run.poison || run.nowhere then 0x10 else 0x00, 0])) ∧
    (∀ d b st x, s.ctx? c = some cx → FMap.get? cx.segs m.seg = some d → s.addsInHem c d m = false → key.keyed = true →
      cx.stepFor key m.seg m.off = some (b, st) → b < 2 →
      FMap.get? (st.tile (m.off / 65536)).slots key.slot = some x → x.sender ≠ m.sender ∨ x.sendId ≠ m.send →
      (st.tile (m.off / 65536)).torn = none → Gives (exec (.remoteAccumulation m) s) (fun t => SameMemory s t ∧
        Sent s t m.sender 7 [19, m.msg, 0x07, 1] ∧ ∃ y, t.stepOf c b = some y ∧ (y.tile (m.off / 65536)).torn = some (4, key.slot))) ∧
    (∀ d, s.ctx? c = some cx → FMap.get? cx.segs m.seg = some d → s.addsInHem c d m = false → key.keyed = true →
      cx.stepFor key m.seg m.off = none →
      Gives (exec (.remoteAccumulation m) s) (fun t => SameMemory s t ∧ Sent s t m.sender 7 [19, m.msg, 0x07, 0])) ∧
    (∀ d b st, s.ctx? c = some cx → FMap.get? cx.segs m.seg = some d → s.addsInHem c d m = false → key.keyed = true →
      cx.stepFor key m.seg m.off = some (b, st) → b < 2 →
      let tile := m.off / 65536
      let old := FMap.get? (st.tile tile).slots key.slot
      (∀ x, old = some x → x.sender = m.sender ∧ x.sendId = m.send) → Gives (exec (.remoteAccumulation m) s) (fun t =>
        t.board.nextMsg = s.board.nextMsg + 1 ∧ ∃ y z n, t.stepOf c b = some y ∧ FMap.get? (y.tile tile).slots key.slot = some z ∧
          n ≤ m.vals.length ∧ z.count = (match old with | some x => x.count | none => 0) + n ∧ z.sender = m.sender ∧ z.sendId = m.send ∧
          ∀ j, j ≠ tile → y.tile j = st.tile j)) ∧
    (∀ (k : ContribMsg) b st, k.epoch = m.epoch → k.peer = m.peer → k.garment = m.garment → k.seg = m.seg → k.key = m.key → s.ctx? c = some cx → cx.stepFor key k.seg k.off = some (b, st) → b < 2 →
      (k.kind = .commit → Gives (exec (.contributionNotice k) s) (fun t => t = { s with contexts := t.contexts } ∧
        t.stepOf c b = some { st with notices := st.notices ++ [(k.off / 65536, key.slot, true)] })) ∧
      (k.kind = .tear → Gives (exec (.contributionNotice k) s) (fun t => t = { s with contexts := t.contexts } ∧
        t.stepOf c b = some { st with notices := st.notices ++ [(k.off / 65536, key.slot, false)] })) ∧
      (∀ sum abs x, k.kind = .ended sum abs → FMap.get? (st.tile (k.off / 65536)).slots key.slot = some x → x.sender = k.sender → x.sendId = k.send →
        x.ended = none → x.count ≠ 16384 → Gives (exec (.contributionNotice k) s) (fun t =>
          t = { s with contexts := t.contexts, board := t.board } ∧ Sent s t k.sender 7 [19, k.msg, 0x00, 0] ∧
          ∃ y, t.stepOf c b = some y ∧ FMap.get? (y.tile (k.off / 65536)).slots key.slot = some { x with ended := some (sum, abs) })))))

/-- R369, R375, R376, R381 to R385: a FIXED tile's sum is formed in slot order, or torn by POISON where a slot cannot be read; a finished tile's sum
is compared with its ledger's; the divisor array is written once; a STRICT step repeats at its deadline and a LENIENT one omits what
is missing; a garment's steps take the notices of its members. -/
def Obligations.TrainingStepsAreCheckedAndSettled : Prop :=
  ∀ (s : State) (c b : Nat) (cx : Context) (st : Step), b < 2 → s.ctx? c = some cx → s.stepOf c b = some st →
    let now (y : Step) (t : State) : Prop := t.stepOf c b = some y ∧ t.stepOf c (1 - b) = s.stepOf c (1 - b)
    (∀ tile d, FMap.get? cx.segs st.redSeg = some d → st.state = .open_ → st.slotsSettled (st.tile tile) = true → (st.tile tile).torn = none →
      (st.mode.fixed = true → (st.tile tile).summed = false →
        let slots := ((st.tile tile).slots.filter (fun p => p.2.landed)).map Prod.fst
        let words (k : Nat) : Option (List Nat) := s.tileWords c d st.redSeg (st.areaTile b (1 + k) tile)
        ((∀ k ∈ slots, words k ≠ none) → ∀ k ∈ slots, Gives (exec (.fixedSummationDone c b ⟨tile, some k⟩) s) (fun t => SameMemory s t ∧
          now (st.setTile tile { st.tile tile with torn := some (5, k) }) t)) ∧
        ((∀ k ∈ slots, words k ≠ none) → Gives (exec (.fixedSummationDone c b ⟨tile, none⟩) s) (fun t =>
          now (st.setTile tile { st.tile tile with summed := true }) t ∧ ∃ bs : List Byte, bs.length = 65536 ∧
            (∀ i, i < 16384 → leNat (slice bs (4 * i) 4) = fixedSum (slots.map (fun k => ((words k).getD []).getD i 0)) % 2 ^ 32) ∧
            SameMemory (s.putTile c d st.redSeg (st.areaTile b 0 tile) bs) t)) ∧
        (∀ k bad, slots.find? (fun k => (words k).isNone) = some k → Gives (exec (.fixedSummationDone c b ⟨tile, bad⟩) s) (fun t =>
          SameMemory s t ∧ now (st.setTile tile { st.tile tile with torn := some (7, k) }) t))) ∧
      (s.checks cx st = true → (st.tile tile).checked = false → (st.mode.fixed = true → (st.tile tile).summed = true) → (st.tile tile).landed ≠ 0 →
        (s.tileWords c d st.redSeg (st.areaTile b 0 tile) = none → Gives (exec (.checksumCompare c b tile) s) (fun t => SameMemory s t ∧
          now (st.setTile tile { st.tile tile with torn := some (7, 0) }) t)) ∧
        (∀ ws, s.tileWords c d st.redSeg (st.areaTile b 0 tile) = some ws →
          let rs := f64Sum false ws
          let k := f64Read (st.tile tile).cksum
          let a := f64Read (st.tile tile).abssum
          (rs.isFin = true → k.isFin = true → a.isFin = true → checksumPasses rs k a (st.tile tile).landed = true →
            Gives (exec (.checksumCompare c b tile) s) (fun t => SameMemory s t ∧ now (st.setTile tile { st.tile tile with checked := true }) t)) ∧
          (rs.isFin = true → k.isFin = true → a.isFin = true → checksumPasses rs k a (st.tile tile).landed = false →
            Gives (exec (.checksumCompare c b tile) s) (fun t => SameMemory s t ∧ now (st.setTile tile { st.tile tile with torn := some (6, 0) }) t)) ∧
          (rs.isFin = false → Gives (exec (.checksumCompare c b tile) s) (fun t => SameMemory s t ∧
            now (st.setTile tile { st.tile tile with checked := true, nonfinite := true }) t))))) ∧
    (st.divWritten = false → st.state = .complete ∨ st.state = .sealed → Gives (exec (.divisorWrite c b) s) (fun t =>
      now { st with divWritten := true } t ∧ SameMemory (s.writeCtx c (st.divSeg * 2 ^ 42 + st.divOff)
        ((List.range st.tiles).flatMap (fun k => natLE 4 (st.divisor (st.tile k))))) t)) ∧
    (st.divWritten = true → exec (.divisorWrite c b) s = .next s) ∧
    (s.tick.number ≠ st.deadline → exec (.ledgerDeadline c b) s = .next s) ∧
    (s.tick.number = st.deadline → st.state = .open_ →
      (st.mode.lenient = true → st.omitting = false → Gives (exec (.ledgerDeadline c b) s) (fun t => SameMemory s t ∧
        now { st with omitting := true } t)) ∧
      (∀ tl k, st.mode.lenient = false → st.lowestMissing SlotRec.isApplied = some (tl, k) → Gives (exec (.ledgerDeadline c b) s) (fun t => SameMemory s t ∧
        now { st with state := .repeat_, why := (9, tl, k, 0) } t)) ∧
      (st.mode.lenient = false → st.lowestMissing SlotRec.isApplied = none → exec (.ledgerDeadline c b) s = .next s)) ∧
    (∀ member, s.noticeStep c st.step st.attempt = some (b, st) →
      Gives (exec (.stepCompleteNotice c st.step st.attempt member false) s) (fun t => t = { s with contexts := t.contexts } ∧
        now { st with completeFrom := member :: st.completeFrom.filter (· != member) } t) ∧
      Gives (exec (.stepCompleteNotice c st.step st.attempt member true) s) (fun t => t = { s with contexts := t.contexts } ∧
        now { st with sealedFrom := member :: st.sealedFrom.filter (· != member) } t) ∧
      (st.abortFrom = none → Gives (exec (.stepAbortNotice c st.step st.attempt member) s) (fun t => t = { s with contexts := t.contexts } ∧
        now { st with abortFrom := some member } t)))


-- ---------------------------------------------------------------- checkpoints

/-- R295, R488, R489, R491, R523, R527, R528, R531 to R537: CKPT_SAVE fixes an image of the context and streams it, or says NO_ROOM; a data
block is encrypted, written and acknowledged by a port that does not fail, and the manifest follows the last; RECALL holds the
context and closes it at its deadline; a restore's blocks are read, verified and written, and its tables become the context's. -/
def Obligations.CheckpointsAreTakenAndRestored : Prop :=
  ∀ (s : State) (c : Nat) (cx : Context), s.ctx? c = some cx →
    let all := 2 ^ 32 - 1
    let free : Prop := cx.risk.running = none ∧ cx.risk.recalling = none ∧ cx.risk.restore = none
    let only (x : Context) (t : State) : Prop := t = { s with contexts := t.contexts } ∧ t.ctx? c = some x ∧ ∀ j, j ≠ c → t.ctx? j = s.ctx? j
    (∀ r, CtxReq s r .plain [(0x08, all), (0x0C, all), (0x10, all), (0x14, all), (0x18, fld 0 2)] c cx →
      let l := s.ckptSections c cx
      let total := (imageBytes l + 67108863) / 67108864
      (r.d 0x0C % 67108864 ≠ 0 ∨ r.w 0x18 = 0 → Turned (exec (.ckptSave r) s) 0x80 r s 0x0C) ∧
      (r.d 0x0C % 67108864 = 0 → r.w 0x18 ≠ 0 →
        (¬ free ∨ s.inTurn c = true ∨ s.thimbleBusy = true → Turned (exec (.ckptSave r) s) 0x80 r s 0x0E) ∧
        (free → s.inTurn c = false → s.thimbleBusy = false →
          (r.w 0x14 < total + 1 → Turned (exec (.ckptSave r) s) 0x80 r s 0x05) ∧
          (total + 1 ≤ r.w 0x14 → StartedWith (exec (.ckptSave r) s) 0x80 r (fun u => SameMemory s u ∧ ∃ x k, u.ctx? c = some x ∧
            x.risk.running = some k ∧ k.kind = .host ∧ k.cmd = some r.num ∧ k.id = r.w 0x08 ∧ k.dest = r.d 0x0C ∧ k.blocks = r.w 0x14 ∧
            k.ports = r.w 0x18 ∧ k.fixedAt = s.tick.number ∧ k.sections = l ∧ k.total = total ∧ k.acked = [] ∧ k.ended = none ∧
            x.state = cx.state ∧ x.patterns = cx.patterns))))) ∧
    (∀ k block failed, cx.risk.running = some k → k.ended = none → 1 ≤ block → block ≤ k.total → block ∉ k.acked → block ≤ k.lowest + 7 →
      let bs := s.blockBytes cx k block
      (blockPorts k.ports block (s.portsFailed failed) = none → Gives (exec (.ckptBlockWrite c block failed) s) (fun t => SameMemory s t ∧ ∃ x y,
        t.ctx? c = some x ∧ x.risk.running = some y ∧ y.ended = some 0x04 ∧ y.acked = k.acked)) ∧
      (∀ again, blockPorts k.ports block (s.portsFailed failed) = some again → Gives (exec (.ckptBlockWrite c block failed) s) (fun t => t.stack = s.stack ∧
        t.host = Mem.writeN s.host (slotAddr k.dest k.blocks k.slot + 67108864 * block) bs ∧ ∃ x y, t.ctx? c = some x ∧ x.risk.running = some y ∧
        y.acked = k.acked ++ [block] ∧ FMap.get? y.digests block = some (Config.digest bs % 2 ^ 256) ∧ y.ended = none ∧
        y.retried = (if again then k.retried ++ [block] else k.retried)))) ∧
    (∀ k failed, cx.risk.running = some k → k.ended = none → s.thimbleBusy = false →
      (k.acked.length < k.total → exec (.ckptStreamDone c failed) s = .next s) ∧
      (k.total ≤ k.acked.length → blockPorts k.ports 0 (s.portsFailed failed) = none → Gives (exec (.ckptStreamDone c failed) s)
        (only { cx with risk := { cx.risk with running := some { k with ended := some 0x04 } } })) ∧
      (∀ again, k.total ≤ k.acked.length → blockPorts k.ports 0 (s.portsFailed failed) = some again → Gives (exec (.ckptStreamDone c failed) s) (fun t =>
        t.host = Mem.writeN s.host (slotAddr k.dest k.blocks k.slot) (s.manifestOf c k) ∧ t.stack = s.stack ∧
        t.ctx? c = some { cx with risk := { cx.risk with running := some { k with ended := some 0x00 } } }))) ∧
    (∀ r, CtxReq s r .plain [(0x08, fld 0 10), (0x0C, all), (0x10, all), (0x14, all), (0x18, all), (0x1C, fld 0 2)] c cx → r.origin = .mgmt →
      let notice := r.w 0x08
      let good : Prop := 10 ≤ notice ∧ notice ≤ 600 ∧ r.d 0x10 % 67108864 = 0 ∧ r.w 0x1C ≠ 0
      let rc (fixed : Bool) : Recall := ⟨r.num, s.tick.number, s.commitInstant + notice * 1000000000, r.w 0x0C, r.d 0x10, r.w 0x18, r.w 0x1C, fixed⟩
      let holds (f : Bool) (u : State) (x : Context) : Prop := u.ctx? c = some x ∧ x.risk.recalling = some (rc f) ∧ x.risk.score = 1023 ∧ x.closing = false
      (¬ good → Turned (exec (.recallCtx r) s) 0x83 r s 0x0C) ∧
      (good → cx.risk.recalling ≠ none → Turned (exec (.recallCtx r) s) 0x83 r s 0x0C) ∧
      (good → cx.risk.recalling = none →
        (cx.risk.running ≠ none → StartedWith (exec (.recallCtx r) s) 0x83 r (fun u => SameMemory s u ∧ ∃ x, holds true u x ∧
          x.risk.running = cx.risk.running)) ∧
        (cx.risk.running = none → cx.stepRuns = true ∨ s.inTurn c = true → StartedWith (exec (.recallCtx r) s) 0x83 r (fun u => SameMemory s u ∧
          ∃ x, holds false u x ∧ x.risk.running = none)) ∧
        (cx.risk.running = none → cx.stepRuns = false → s.inTurn c = false → StartedWith (exec (.recallCtx r) s) 0x83 r (fun u => SameMemory s u ∧
          ∃ x, holds true u x ∧ ∀ k, x.risk.running = some k → k.kind = .recalling ∧ k.id = r.w 0x0C ∧ k.acked = [])))) ∧
    (∀ rc, cx.closing = false → cx.risk.recalling = some rc →
      (s.commitInstant < rc.deadline → exec (.recallDeadline c) s = .next s) ∧
      (rc.deadline ≤ s.commitInstant → Gives (exec (.recallDeadline c) s) (fun t => (∃ x, t.ctx? c = some x ∧ x.closing = true ∧ x.segs = [] ∧
        x.grants = []) ∧ ∀ x ∈ t.adm.pending, x.ctx ≠ c))) ∧
    (∀ g gar member, FMap.get? s.garments gar = some g →
      (member ∉ g.members → exec (.ckptWantReceive gar member) s = .next s) ∧
      (member ∈ g.members → g.ctxs = [c] → cx.risk.running = none → cx.risk.dest ≠ none → Gives (exec (.ckptWantReceive gar member) s)
        (only { cx with risk := { cx.risk with want := true } })) ∧
      (member ∈ g.members → g.ctxs = [c] → cx.risk.running ≠ none ∨ cx.risk.dest = none → exec (.ckptWantReceive gar member) s = .next s)) ∧
    (∀ r, CtxReq s r .plain [(0x08, all), (0x0C, all), (0x10, all), (0x18, fld 0 3), (0x1C, all), (0x20, all)] c cx →
      let good : Prop := r.d 0x0C % 67108864 = 0 ∧ r.f 0x18 0 2 ≠ 0 ∧ r.d 0x1C % 67108864 = 0
      (¬ good → Turned (exec (.ckptRestore r) s) 0x81 r s 0x0C) ∧
      (good → cx.state ≠ .paused ∨ ¬ free ∨ s.thimbleBusy = true → Turned (exec (.ckptRestore r) s) 0x81 r s 0x0E) ∧
      (good → cx.state = .paused → free → s.thimbleBusy = false →
        (s.readCkptManifest (r.d 0x0C) = none → exec (.ckptRestore r) s = .next (s.complete { r with opcode := 0x81 } 0x0A [0, 1])) ∧
        (∀ u, s.startRestore c cx { r with opcode := 0x81 } = (u, none) → Started (exec (.ckptRestore r) s) 0x81 r u ∧ ∃ x q, u.ctx? c = some x ∧
          x.risk.restore = some q ∧ q.cmd = r.num ∧ q.source = r.d 0x0C ∧ q.verified = [] ∧ q.ready = false ∧ q.failed = none))) ∧
    (∀ q block a, cx.risk.restore = some q → q.failed = none → 1 ≤ block → block ≤ q.total → block ∉ q.verified → block ≤ q.lowest + 7 →
      let tries := FMap.getD q.tries block 0
      q.placeOf tries = some a →
      ((blockPorts q.ports block (s.portsFailed 0)).isNone = true →
        exec (.restoreBlockFetch c block false) s = exec (.restoreBlockFetch c block true) s) ∧
      (∀ bs, (blockPorts q.ports block (s.portsFailed 0)).isNone = false → s.readBlock a (q.digests.getD (block - 1) 0) block = some bs → Gives (exec (.restoreBlockFetch c block false) s) (fun t =>
        SameMemory (s.putBlock c cx q block bs) t ∧
        ∃ x, t.ctx? c = some x ∧ x.risk.restore = some { q with verified := q.verified ++ [block] })) ∧
      (Gives (exec (.restoreBlockFetch c block true) s) (only { cx with risk := { cx.risk with restore := some { q with
        tries := FMap.set q.tries block (tries + 1), failed := if (q.placeOf (tries + 1)).isNone then some block else none } } }))) ∧
    (∀ q cx1, cx.risk.restore = some q → q.ready = false → q.failed = none → (s.poisonImage cx q.poison).ctx? c = some cx1 →
      (q.verified.length < q.total → exec (.restoreDone c) s = .next s) ∧
      (q.total ≤ q.verified.length → Gives (exec (.restoreDone c) s) (fun t => ∃ x, t.ctx? c = some x ∧ x.segs = q.segs ∧ x.progs = q.rest.progs ∧
        x.ceiling = q.rest.ceiling ∧ x.genCfg = q.rest.genCfg ∧ x.images = q.rest.images ∧ x.selectors = [] ∧ x.risk.high = q.rest.high ∧
        x.risk.low = q.rest.low ∧ x.risk.hint = q.rest.hint ∧ x.train.mode = q.rest.mode ∧ x.train.last = q.rest.last ∧ x.train.buf0 = none ∧ x.train.buf1 = none ∧
        x.risk.restore = some { q with ready := true } ∧ x.state = cx1.state))) ∧
    (∀ chunk copy, c < Config.contexts →
      let stands (u : State) : State := { u with fences := { u.fences with areaLost := u.fences.areaLost.filter (· != (c, chunk, copy)) } }
      let gone : Prop := (c, chunk, copy) ∈ s.fences.areaLost ∧ ∃ p, cx.areaPlace copy chunk = some p ∧ (s.channel p.1).state = .fenced
      let room := s.areaRoom ((cx.areaPlace (1 - copy) chunk).map (fun p => p.1 / 32))
      (¬ gone → exec (.olukorAreaRebuildDone c chunk copy) s = .next (stands s)) ∧
      (gone → room = none → exec (.olukorAreaRebuildDone c chunk copy) s = .next s) ∧
      (∀ sl, gone → room = some sl → Gives (exec (.olukorAreaRebuildDone c chunk copy) s) (fun t => t.host = s.host ∧ t.fences = (stands s).fences ∧
        t.ctx? c = some { cx with areaMoved := FMap.set cx.areaMoved (2 * chunk + copy) sl } ∧
        (∀ o, (cx.areaPlace (1 - copy) chunk) = some o → sl.1 / 32 ≠ o.1 / 32) ∧
        ∃ k : ChunkRun, k ∈ (t.channel sl.1).runs ∧ k.start = sl.2 ∧ k.len = 1)))

-- ---------------------------------------------------------------- garments, spares and turns

/-- R422, R426, R433, R434, R495 to R497, R568, R594, R595: a garment is opened with its members and waits for their JOINs, takes further contexts,
ends where they do not come, and is left by a close; the array setting and the spare mask are kept; a spare is substituted under an
authorisation, and takes its position at the commit it names. -/
def Obligations.GarmentsAndSpares : Prop :=
  ∀ (s : State) (r : CmdReq),
    (∀ c cx, CtxReq s r .block [(0x08, fld 0 24)] c cx →
      let g := r.f 0x08 0 16
      let n := r.f 0x08 16 8
      let ms := garmentMembers r n
      let good : Prop := 2 ≤ n ∧ n ≤ 128 ∧ s.membersOk ms = true
      (¬ good → Turned (exec (.garmentOpen r) s) 0xA0 r s 0x0C) ∧
      (good → FMap.get? s.garments g = none → cx.garment = none →
        (256 ≤ s.garments.length → Turned (exec (.garmentOpen r) s) 0xA0 r s 0x05) ∧
        (s.garments.length < 256 → StartedWith (exec (.garmentOpen r) s) 0xA0 r (fun u => SameMemory s u ∧
          u.ctx? c = some { cx with garment := some g } ∧ ∃ ga, FMap.get? u.garments g = some ga ∧ ga.members = ms ∧ ga.ctxs = [c] ∧
          ga.live = false ∧ ga.openedAt = s.tick.number ∧ ga.cmds = [r.num] ∧ s.self ∈ ga.joined ∧
          ∀ m t, (g, m, t) ∈ s.board.joins → m ∈ ga.joined))) ∧
      (∀ ga, good → FMap.get? s.garments g = some ga →
        (ga.members ≠ ms → Turned (exec (.garmentOpen r) s) 0xA0 r s 0x0C) ∧
        (ga.members = ms → cx.garment = none ∨ cx.garment = some g → ga.live = true → c ∉ ga.ctxs →
          (4 ≤ ga.ctxs.length → Turned (exec (.garmentOpen r) s) 0xA0 r s 0x05) ∧
          (ga.ctxs.length < 4 → DoneWith (exec (.garmentOpen r) s) 0xA0 r [] (fun u =>
            u = { s with garments := u.garments, contexts := u.contexts } ∧ u.ctx? c = some { cx with garment := some g } ∧
            FMap.get? u.garments g = some { ga with ctxs := ga.ctxs ++ [c] }))))) ∧
    (∀ gar member, gar < 65536 →
      (∀ ga, FMap.get? s.garments gar = some ga → member ∉ ga.joined → Gives (exec (.joinReceive gar member) s) (fun t =>
        t = { s with garments := t.garments } ∧ FMap.get? t.garments gar = some { ga with joined := ga.joined ++ [member] })) ∧
      (FMap.get? s.garments gar = none → exec (.joinReceive gar member) s =
        .next { s with board := { s.board with joins := s.board.joins ++ [(gar, member, s.tick.number)] } })) ∧
    (∀ gar ga, s.garments = [(gar, ga)] →
      (ga.live = true ∨ s.tick.number < ga.openedAt + 256 → Gives (exec .garmentOpenTimeout s) (fun t => t = { s with board := t.board } ∧
        t.board.joins = s.board.joins.filter (fun j => decide (s.tick.number < j.2.2 + 256)))) ∧
      (ga.live = false → ga.openedAt + 256 ≤ s.tick.number → Gives (exec .garmentOpenTimeout s) (fun t => SameMemory s t ∧ t.garments = [] ∧
        ∀ c ∈ ga.ctxs, ∀ x, t.ctx? c = some x → x.garment = none))) ∧
    (∀ c cx, CtxReq s r .plain [(0x08, fld 0 16)] c cx →
      (cx.garment ≠ some (r.w 0x08) → Turned (exec (.garmentClose r) s) 0xA1 r s 0x0C) ∧
      (cx.garment = some (r.w 0x08) → s.inTurn c = true ∨ cx.garmentStep = true → Turned (exec (.garmentClose r) s) 0xA1 r s 0x0E) ∧
      (∀ ga, cx.garment = some (r.w 0x08) → s.inTurn c = false → cx.garmentStep = false → FMap.get? s.garments (r.w 0x08) = some ga →
        let left := ga.ctxs.filter (· != c)
        DoneWith (exec (.garmentClose r) s) 0xA1 r [] (fun u => SameMemory s u ∧ u.ctx? c = some { cx with garment := none } ∧
          FMap.get? u.garments (r.w 0x08) = if left = [] then none else some { ga with ctxs := left }))) ∧
    (DevReq s r .plain [(0x08, fld 0 3 + fld 4 3)] → r.origin = .mgmt →
      let x := r.f 0x08 0 3
      let y := r.f 0x08 4 3
      let good : Prop := 1 ≤ x ∧ x ≤ 4 ∧ 1 ≤ y ∧ y ≤ 4
      (¬ good → Turned (exec (.arraySet r) s) 0xA2 r s 0x0C) ∧
      (good → s.spansBoards = true → Turned (exec (.arraySet r) s) 0xA2 r s 0x0E) ∧
      (good → s.spansBoards = false → ∃ v, (x = 1 → y = 1 → v = none) ∧ (¬ (x = 1 ∧ y = 1) → v = some (x, y)) ∧
        Done (exec (.arraySet r) s) 0xA2 r { s with board := { s.board with array := v } } [])) ∧
    (DevReq s r .plain [(0x08, fld 0 9)] → r.origin = .mgmt →
      ((∃ p ∈ s.garmentPositions, (r.w 0x08).testBit p = true) → Turned (exec (.spareSet r) s) 0xA3 r s 0x0E) ∧
      ((∀ p ∈ s.garmentPositions, (r.w 0x08).testBit p = false) → Stages (exec (.spareSet r) s) 0xA3 r s [.spareMask (r.w 0x08)])) ∧
    (DevReq s r .block [(0x08, fld 0 8), (0x0C, 2 ^ 32 - 1), (0x10, fld 0 16), (0x14, 2 ^ 32 - 1)] → r.origin = .mgmt →
      let k := r.f 0x08 0 4
      let sp := r.f 0x08 4 4
      let e := r.d 0x0C
      let good : Prop := k < 9 ∧ sp < 9 ∧ s.positionLive k = false ∧ s.tick.number + 16 ≤ e ∧ authFormOk r.block = true
      let spare : Prop := sp ∈ s.board.freeSpares ∧ ∀ x ∈ s.board.subs, x.spare ≠ sp
      (¬ good → Turned (exec (.spareSubstitute r) s) 0xA4 r s 0x0C) ∧
      (good → s.thimbleBusy = true → Turned (exec (.spareSubstitute r) s) 0xA4 r s 0x0E) ∧
      (good → s.thimbleBusy = false → ¬ spare → Turned (exec (.spareSubstitute r) s) 0xA4 r s 0x06) ∧
      (good → s.thimbleBusy = false → spare →
        (s.authorised r.block k sp e = false → Turned (exec (.spareSubstitute r) s) 0xA4 r s 0x0B) ∧
        (s.authorised r.block k sp e = true → Started (exec (.spareSubstitute r) s) 0xA4 r
          { s with board := { s.board with subs := s.board.subs ++ [⟨k, sp, e, r.num⟩] } }))) ∧
    (∀ x, s.board.subs = [x] →
      (s.tick.number < x.at_ → exec .spareSubstituteSwitch s = .next s) ∧
      (x.at_ ≤ s.tick.number → Gives (exec .spareSubstituteSwitch s) (fun t => SameMemory s t ∧ t.board.subs = [] ∧
        t.board.mapVersion = (s.board.mapVersion + 1) % 65536 ∧ (x.pos, s.board.boardId) ∉ t.board.lost ∧
        FMap.get? t.board.posMap x.pos = if x.pos = x.spare then none else some x.spare)))

/-- R394 to R397, R399, R401 to R404, R407, R487: RESHARD is checked and staged; a turn every live member staged starts, and one that is not started in
its ticks ends BUSY; its moves are applied and acknowledged, a message that comes is written, counted and answered; it bastes and
finishes when its condition holds, and an ABORT ends it. -/
def Obligations.TurnsMoveAGarment : Prop :=
  (∀ (s : State) (r : CmdReq) (c : Nat) (cx : Context), CtxReq s r .block [] c cx →
    let id := bits (r.bw 0) 0 16
    let toTrain := (r.bw 0).testBit 16
    let rel := releaseOf r (bits (r.bw 0) 18 4)
    let layers := r.bf 0x0C 0 13
    let first := r.bf 0x0C 16 12
    let ticks := r.bf 0x10 16 9
    let good : Prop := blockOk r 0 20 reshardAllow = true ∧ id ≠ 0 ∧ bits (r.bw 0) 18 4 ≤ 8 ∧ 1 ≤ layers ∧ layers ≤ 4096 ∧ first < layers ∧
      r.bf 0x10 0 13 ≤ layers ∧ 1 ≤ ticks ∧ ticks ≤ 256 ∧ (toTrain = true → r.bw 0x14 = 0)
    (¬ good → Turned (exec (.reshard r) s) 0x70 r s 0x0C) ∧
    (∀ gc g gx ga moves table segs, good → s.handleCtx (r.bw 4) = some gc → cx.garment = some g → s.ctx? gc = some gx →
      FMap.get? s.garments g = some ga → gx.garment = some g → ga.live = true → (toTrain = false → s.readyKnotOk gc (r.bw 8) = 0) →
      s.readTurn r c gx toTrain = some (moves, table, segs) →
      (∀ p ∈ rel, FMap.has gx.patterns p = true ∨ FMap.has gx.patternStages p = true) →
      let busy : Prop := s.inTurn c = true ∨ s.inTurn gc = true ∨ cx.risk.held = true ∨ gx.risk.held = true ∨
        (∃ st, (cx.train.buf0 = some st ∨ cx.train.buf1 = some st) ∧ st.unsettled = true) ∨
        (∃ d ∈ segs, d.valid = true ∧ d.kind ≤ 2 ∧ d.region ∈ rel)
      (busy → Turned (exec (.reshard r) s) 0x70 r s 0x0E) ∧
      (¬ busy → StartedWith (exec (.reshard r) s) 0x70 r (fun u => SameMemory s u ∧ u.contexts = s.contexts ∧ ∃ t, u.turns = s.turns ++ [t] ∧
        t.id = id ∧ t.cmd = r.num ∧ t.toTrain = toTrain ∧ t.srcCtx = c ∧ t.genCtx = gc ∧ t.garment = g ∧ t.moves = moves ∧ t.layers = layers ∧
        t.firstLayer = first ∧ t.layerTable = table ∧ t.segSet = segs ∧ t.release = rel ∧ t.stageTicks = ticks ∧ t.stagedAt = s.tick.number ∧
        t.phase = .staged ∧ s.self ∈ t.stagedFrom ∧ t.ending = none)))) ∧
  (∀ (s : State) (gar turn member : Nat), gar < 65536 → s.turn? gar turn = none →
    exec (.stagedReceive gar turn member) s =
      .next { s with board := { s.board with stagedHeard := s.board.stagedHeard ++ [(gar, turn, member, s.tick.number)] } } ∧
    exec (.reshardStart gar turn) s = .next s ∧ exec (.bastingMoveAck gar turn 0 0) s = .next s ∧
    exec (.turnBaste gar turn) s = .next s ∧ exec (.turnFinish gar turn) s = .next s ∧
    ∀ m : BastMsg, m.garment = gar → m.turn = turn → s.isReady = true → m.epoch = s.sendEpoch →
      Gives (exec (.bastingMessage m) s) (fun u => SameMemory s u ∧ u.turns = s.turns ∧
        u.staleGen = Nat.min (2 ^ 32 - 1) (s.staleGen + 1) ∧ Sent s u m.sender 7 [19, turn, m.seq, 0x07])) ∧
  (∀ (s : State) (m : BastMsg), s.isReady = true → m.epoch ≠ s.sendEpoch → Gives (exec (.bastingMessage m) s) (fun u => SameMemory s u ∧
    u.turns = s.turns ∧ u.board = s.board ∧ u.staleEpoch = Nat.min (2 ^ 32 - 1) (s.staleEpoch + 1))) ∧
  (∀ (s : State) (gar turn : Nat) (t : Turn) (gx : Context), gar < 65536 → s.turn? gar turn = some t → s.ctx? t.genCtx = some gx →
    let becomes (x : Turn) (u : State) : Prop := x ∈ u.turns ∧ ∀ y ∈ s.turns, ¬ (y.garment = gar ∧ y.id = turn) → y ∈ u.turns
    let only (x : Turn) (u : State) : Prop := u = { s with turns := u.turns } ∧ becomes x u
    let gone (u : State) : Prop := ∀ y ∈ u.turns, ¬ (y.garment = gar ∧ y.id = turn)
    (∀ member,
      (member ∉ t.stagedFrom → Gives (exec (.stagedReceive gar turn member) s) (only { t with stagedFrom := t.stagedFrom ++ [member] })) ∧
      (member ∉ t.layersFrom → Gives (exec (.layersReadyNotice gar turn member) s) (only { t with layersFrom := t.layersFrom ++ [member] })) ∧
      (t.ending = none → Gives (exec (.turnAbortReceive gar turn member) s) (only { t with ending := some (0x04, member, 0) }))) ∧
    (t.phase ≠ .staged ∨ s.allStaged t = false ∨ s.tick.number ≤ t.stagedAt → exec (.reshardStart gar turn) s = .next s) ∧
    (t.phase = .staged → s.allStaged t = true → t.stagedAt < s.tick.number →
      (t.toTrain = true → Gives (exec (.reshardStart gar turn) s) (fun u => u = { s with turns := u.turns, contexts := u.contexts } ∧
        becomes { t with phase := .copying, start := s.tick.number } u ∧ ∃ x, u.ctx? t.genCtx = some x ∧ x.state = .quiesced)) ∧
      (∀ k v, t.toTrain = false → FMap.get? s.knots (t.readyKnot % 2 ^ 14) = some k → k.state = .counter v → t.firstLayer < t.layers →
        t.layers ≤ 4096 → FMap.getD t.layerBytes t.firstLayer 0 ≠ t.layerTable.getD t.firstLayer 0 →
        Gives (exec (.reshardStart gar turn) s) (fun u => u = { s with turns := u.turns, contexts := u.contexts, knots := u.knots } ∧
          becomes { t with phase := .copying, start := s.tick.number } u ∧ (∃ x, u.ctx? t.genCtx = some x ∧ x.state = .quiesced) ∧
          ∃ k', FMap.get? u.knots (t.readyKnot % 2 ^ 14) = some k' ∧ k'.state = .counter (BitVec.ofNat 48 t.firstLayer) ∧ k'.owner = k.owner))) ∧
    (s.turns = [t] → t.phase = .staged → s.allStaged t = false →
      (s.tick.number < t.stagedAt + t.stageTicks → exec .reshardStageTimeout s = .next s) ∧
      (t.stagedAt + t.stageTicks ≤ s.tick.number → Gives (exec .reshardStageTimeout s) (fun u => SameMemory s u ∧ u.turns = [] ∧
        u.contexts = s.contexts ∧ ∀ x ∈ u.running, x.num ≠ t.cmd))) ∧
    (∀ move status,
      let copying : Prop := t.phase ≠ .staged ∧ t.toTrain = false ∧ t.ending = none ∧ t.start < s.tick.number
      let took (a : State) : State := a.modTurn gar turn (fun y => if y.ending.isSome then y else { y with acked := y.acked ++ [move] })
      let ends (a : State) : Prop := exec (.bastingMoveAck gar turn move status) s = .next ((took a).startMovesOf gar turn) ∧
        ((∀ y, (took a).turn? gar turn = some y → ∀ i, i < y.moves.length → y.mayMove i = true → i ∉ y.begun → (took a).moveToPeer y i = false) →
          (took a).startMovesOf gar turn = took a)
      (¬ copying ∨ t.mayMove move = false ∨ s.mayAck t move = false → exec (.bastingMoveAck gar turn move status) s = .next s) ∧
      (copying → s.mayAck t move = true → move ∈ t.begun →
        (status = 0x09 → exec (.bastingMoveAck gar turn move status) s = .next s) ∧ (status = 0x00 → ends s)) ∧
      (∀ cx rec_, copying → s.mayAck t move = true → move ∉ t.begun → s.ctx? t.srcCtx = some cx → s.moveRecord t move = some rec_ →
        let d := DmaDesc.ofBytes (slice rec_ 0x20 128)
        let gen := (word32 rec_ 0).testBit 12
        let layer := word32 rec_ 0 % 2 ^ 12
        let good : Prop := word32 rec_ 0 < 2 ^ 13 ∧ (∀ b ∈ slice rec_ 8 24, b = 0#8) ∧ t.moves[move]? = some layer ∧ d.bad = false ∧
          s.moveRanges t cx gen d = true
        (¬ good → Gives (exec (.bastingMoveAck gar turn move status) s) (only { t with ending := some (0x0C, s.self, word32 rec_ 4) })) ∧
        (good → s.bastRows t cx layer gen d (List.range d.rows) = none → Gives (exec (.bastingMoveAck gar turn move status) s)
          (only { t with ending := some (0x04, s.self, word32 rec_ 4) })) ∧
        (∀ s1, good → s.bastRows t cx layer gen d (List.range d.rows) = some s1 →
          (status = 0x09 → exec (.bastingMoveAck gar turn move status) s = .next s1) ∧ (status = 0x00 → ends s1)))) ∧
    (∀ m : BastMsg, m.garment = gar → m.turn = turn → m.epoch = s.sendEpoch →
      (t.toTrain = true ∨ s.segSetOk t m.seg m.off m.bytes.length = false → Gives (exec (.bastingMessage m) s) (fun u =>
        SameMemory s u ∧ u.turns = s.turns ∧ Sent s u m.sender 7 [19, turn, m.seq, 0x04])) ∧
      (t.toTrain = false → s.segSetOk t m.seg m.off m.bytes.length = true → ∀ s1,
        (s.putBasting t m.seg m.off (m.bytes.map (fun b => (b, m.poison)))).countBasting t m.layer m.bytes.length (some (m.sender, m.seq)) = s1 →
        Gives (exec (.bastingMessage m) s) (fun u => SameMemory s1 u ∧ u.turns = s1.turns ∧ Sent s1 u m.sender 7 [19, turn, m.seq, 0x00]))) ∧
    (s.canBaste t = false → exec (.turnBaste gar turn) s = .next s) ∧
    (s.canBaste t = true → Gives (exec (.turnBaste gar turn) s) (fun u => u = { s with turns := u.turns, contexts := u.contexts } ∧
      becomes { t with phase := .basted, baste := s.tick.number } u ∧ ∃ x, u.ctx? t.genCtx = some x ∧
      (gx.state = .quiesced → x.state = if gx.pausedToo then .paused else .open_) ∧
      ∀ i d, t.segSet[i]? = some d → d.valid = true → FMap.get? x.segs i = some d)) ∧
    (s.canFinish t = false → exec (.turnFinish gar turn) s = .next s) ∧
    (s.canFinish t = true → t.release = [] → Gives (exec (.turnFinish gar turn) s) (fun u => SameMemory s u ∧ gone u ∧
      (∀ x ∈ u.running, x.num ≠ t.cmd) ∧ ∃ x, u.ctx? t.genCtx = some x ∧
      (t.phase ≠ .copying → x.segs = gx.segs) ∧
      (t.phase = .copying → ∀ i d, t.segSet[i]? = some d → d.valid = true → FMap.get? x.segs i = some d) ∧
      (t.toTrain = false → gx.state = .quiesced → x.state = if gx.pausedToo then .paused else .open_))))

-- ---------------------------------------------------------------- service and containment

/-- R498, R546, R562 to R570, R596: an overlay is staged, verified and activated by the standby; a needle is fenced at the next commit or tested, and a
test's end is kept for the commit; the Thimble takes one update object at a time, verifies it and restarts; a Tailor cluster that
passed its test or copied the state goes on to its next state. -/
def Obligations.ServiceOfRunningParts : Prop :=
  (∀ (s : State) (r : CmdReq), r.origin = .mgmt →
    (DevReq s r .plain [(0x08, fld 0 32), (0x0C, fld 0 32), (0x10, fld 0 32), (0x14, fld 0 2)] →
      let n := r.w 0x10
      let b := Mem.readN s.host (r.d 0x08) n
      (let good : Prop := r.w 0x14 ≠ 3 ∧ n ≤ 258643 ∧ (n ≠ 0 → overlayOk b = true)
       let free : Prop := s.tailor.staged = none ∧ s.tailor.staging = none ∧ s.tailor.mirrored = true ∧ s.thimbleBusy = false
       (¬ good → Turned (exec (.patchStage r) s) 0xB0 r s 0x0C) ∧
       (good → ¬ free → Turned (exec (.patchStage r) s) 0xB0 r s 0x0E) ∧
       (good → free → Started (exec (.patchStage r) s) 0xB0 r
        { s with tailor := { s.tailor with staging := some (r.num, ⟨if n = 0 then 0 else word32 b 4, b⟩) } })) ∧
      (let good : Prop := r.w 0x14 ≠ 3 ∧ n ≤ 2097152 ∧ 0x40 ≤ n ∧ s.thimble.updateOk b = true
       let free : Prop := s.thimble.job = none ∧ s.thimbleBusy = false ∧ s.board.subs = []
       (¬ good → Turned (exec (.thimbleUpdate r) s) 0xB6 r s 0x0C) ∧
       (good → ¬ free → Turned (exec (.thimbleUpdate r) s) 0xB6 r s 0x0E) ∧
       (good → free → Started (exec (.thimbleUpdate r) s) 0xB6 r
        { s with thimble := { s.thimble with job := some ⟨r.num, updType b, b, false⟩ } }))) ∧
    (DevReq s r .plain [(0x08, fld 0 32)] →
      (s.tailor.staged = none → Turned (exec (.patchActivate r) s) 0xB1 r s 0x0E) ∧
      (∀ o, s.tailor.staged = some o →
        (o.id ≠ r.w 0x08 ∨ s.tailor.mirrored = false → Turned (exec (.patchActivate r) s) 0xB1 r s 0x0E) ∧
        (o.id = r.w 0x08 → s.tailor.mirrored = true → DoneWith (exec (.patchActivate r) s) 0xB1 r [] (fun u => SameMemory s u ∧
          u.tailor.activeB = !s.tailor.activeB ∧ u.tailor.active = (if o.id = 0 then none else some o) ∧ u.tailor.service = u.tailor.active ∧
          u.tailor.staged = none ∧ u.tailor.clusterA = (if s.tailor.activeB then .active else .copying) ∧
          u.tailor.clusterB = (if s.tailor.activeB then .copying else .active))))) ∧
    (DevReq s r .plain [(0x08, fld 0 6 + fld 8 3 + fld 12 1)] →
      let i := r.f 0x08 0 6
      let p := r.f 0x08 8 3
      let n := 48 * p + i
      let nd := s.needle n
      (48 ≤ i ∨ 6 ≤ p → Turned (exec (.needleFence r) s) 0xB2 r s 0x0C) ∧
      (i < 48 → p < 6 → (r.w 0x08).testBit 12 = false →
        (nd.fenced = true ∨ nd.fenceFrom ≠ none → Done (exec (.needleFence r) s) 0xB2 r s []) ∧
        (nd.fenced = false → nd.fenceFrom = none → DoneWith (exec (.needleFence r) s) 0xB2 r [] (fun u => OnlyNeedle s u n ∧
          u.needle n = { nd with fenceFrom := some s.tick.number }))) ∧
      (i < 48 → p < 6 → (r.w 0x08).testBit 12 = true →
        (nd.fenced = false ∨ nd.selfTest = true → Turned (exec (.needleFence r) s) 0xB2 r s 0x0E) ∧
        (nd.fenced = true → nd.selfTest = false → StartedWith (exec (.needleFence r) s) 0xB2 r (fun u => OnlyNeedle s u n ∧
          u.needle n = { nd with sleeve := [], tiles := [], selfTest := true, testCmd := some r.num, testEnd := none }))))) ∧
  (∀ s : State, s.isReady = true →
    (s.tailor.staging = none → exec .patchStaged s = .next s) ∧
    (∀ num o, s.tailor.staging = some (num, o) →
      (s.checkOverlay o = 0 → s.tailor.mirrored = false → exec .patchStaged s = .next s) ∧
      (s.checkOverlay o = 0 → s.tailor.mirrored = true → exec .patchStaged s = .next { s with tailor := { s.tailor with staging := none, staged := some o }, due := s.due ++ [(num, 0, [o.id])] }) ∧
      (s.checkOverlay o ≠ 0 → exec .patchStaged s = .next { s with tailor := { s.tailor with staging := none }, due := s.due ++ [(num, s.checkOverlay o, [])] })) ∧
    (∀ n passed failing, n < Config.needles →
      ((s.needle n).selfTest = false → exec (.needleSelfTestDone n passed failing) s = .next s) ∧
      ((s.needle n).selfTest = true → Gives (exec (.needleSelfTestDone n passed failing) s) (fun t => OnlyNeedle s t n ∧
        t.needle n = { s.needle n with testEnd := some (passed, (List.range 12).filter failing.contains) }))) ∧
    (∀ written, s.thimble.job = none → exec (.thimbleUpdateVerified written) s = .next s) ∧
    (∀ written j, s.thimble.job = some j →
      let st := s.thimble.verifyUpdate j.payload
      let fw := FMap.set s.thimble.fwVersions (1 - s.thimble.fwActive) (updVersion j.payload)
      let ctrs := FMap.set s.thimble.counters j.objType (updCounter j.payload)
      (j.verified = true → exec (.thimbleUpdateVerified written) s = .next s) ∧
      (j.verified = false → st ≠ 0 → exec (.thimbleUpdateVerified written) s =
        .next { s with thimble := { s.thimble with job := none }, due := s.due ++ [(j.cmd, st, [])] }) ∧
      (j.verified = false → st = 0 → j.objType = 0 → written = false → exec (.thimbleUpdateVerified written) s =
        .next { s with thimble := { s.thimble with job := none }, due := s.due ++ [(j.cmd, 0x0A, [])] }) ∧
      (j.verified = false → st = 0 → j.objType = 0 → written = true → exec (.thimbleUpdateVerified written) s =
        .next { s with thimble := { s.thimble with job := some { j with verified := true }, fwVersions := fw } }) ∧
      (j.verified = false → st = 0 → j.objType ≠ 0 → exec (.thimbleUpdateVerified written) s =
        .next { s with thimble := { s.thimble with job := some { j with verified := true }, counters := ctrs } })) ∧
    (∀ passed old, s.thimble.restarting = none → exec (.thimbleRestartDone passed old) s = .next s) ∧
    (∀ num, s.thimble.restarting = some num →
      let th := { s.thimble with restarting := none, fwNext := true }
      (∀ old, exec (.thimbleRestartDone true old) s = .next { s with thimble := th, due := s.due ++ [(num, 0, [])] }) ∧
      (exec (.thimbleRestartDone false true) s = .next { s with thimble := { s.thimble with restarting := none }, due := s.due ++ [(num, 0x0A, [1])] }) ∧
      (s.mod.state = .ready → Gives (exec (.thimbleRestartDone false false) s) (fun t => t.mod.state = .withdrawn ∧ t.thimble.error = true)))) ∧
  (∀ (s : State) (k : Nat) (c : ClusterState), k < 2 → s.tailor.cluster k = c →
    let now (x : ClusterState) (t : State) : Prop := t.tailor = s.tailor.setCluster k x ∧ SameMemory s t ∧ t.contexts = s.contexts
    (c ≠ .selfTest → exec (.tailorSelfTestDone k true) s = .next s ∧ exec (.tailorSelfTestDone k false) s = .next s) ∧
    (c = .selfTest → Gives (exec (.tailorSelfTestDone k true) s) (now .copying) ∧ Gives (exec (.tailorSelfTestDone k false) s) (now .fenced)) ∧
    (c ≠ .copying → exec (.tailorResync k) s = .next s) ∧
    (c = .copying → Gives (exec (.tailorResync k) s) (now .copied)) ∧
    (s.isReady = true → c = .fenced ∨ c = .selfTest → exec (.tailorMismatch k) s = .next s) ∧
    (s.isReady = true → c = .standby ∨ c = .copying ∨ c = .copied → Gives (exec (.tailorMismatch k) s) (now .selfTest)) ∧
    (s.isReady = true → c = .active → s.tailor.cluster (1 - k) = .standby → Gives (exec (.tailorMismatch k) s) (fun t => SameMemory s t ∧
      t.tailor.cluster k = .selfTest ∧ t.tailor.cluster (1 - k) = .active ∧ t.tailor.passing = true ∧ t.tailor.staged = none ∧
      t.tailor.staging = none)) ∧
    (s.mod.state = .ready → c = .active → s.tailor.cluster (1 - k) ≠ .standby → Gives (exec (.tailorMismatch k) s) (fun t =>
      t.mod.state = .withdrawn ∧ t.mod.failCause = 5)))

/-- R132, R457, R541 to R543, R545, R547, R549 to R553, R581: a fault of the tick logic or of the Thimble withdraws the device, as a router's fourth
header error in 1,000 ticks does; a parity error fences its needle, a Sleeve word its bank, a knot whose copies both fail the
knot; a context's fatal cause waits for the commit; a failed host access is noted for it. -/
def Obligations.FaultsAreContained : Prop :=
  ∀ (s : State),
    let out (t : State) : Prop := t.mod.state = .withdrawn ∧ t.mod.failCause = 5 ∧ t.mod.alertN = false ∧ t.thimble.ctxKeys = [] ∧
      t.thimble.sessions = [] ∧ t.out = [] ∧ t.adm.pending = [] ∧ (∀ p ∈ t.needles, p.2.run = none) ∧ (∀ p ∈ t.links, p.2.state = .down ∧ p.2.key = none) ∧
      SameMemory s t ∧ t.contexts = s.contexts
    (s.mod.state = .ready → Gives (exec .tickLogicError s) out ∧ Gives (exec .thimbleError s) (fun t => out t ∧ t.thimble.error = true)) ∧
    (s.mod.state = .withdrawn ∨ s.mod.state = .thermtrip → exec .tickLogicError s = .next s) ∧
    (∀ router, router < 96 →
      let old := (FMap.getD s.fences.headerErrors router []).filter (fun t => decide (s.now < t + 1000))
      (old.length < 3 → Gives (exec (.liningHeaderError router) s) (fun t => t = { s with fences := t.fences } ∧
        FMap.get? t.fences.headerErrors router = some (s.now :: old))) ∧
      (s.mod.state = .ready → 3 ≤ old.length → Gives (exec (.liningHeaderError router) s) out)) ∧
    (s.isReady = true → ∀ n, n < Config.needles →
      let nd := s.needle n
      (nd.fenced = true → exec (.needleParityError n) s = .next s) ∧
      (nd.fenced = false → Gives (exec (.needleParityError n) s) (fun t => (t.needle n).fenced = true ∧ SameMemory s t ∧
        ∀ c x, t.ctx? c = some x → FMap.get? x.images n = none)) ∧
      (nd.run = none → exec (.instructionStoreParity n) s = .next s) ∧
      (∀ r s1, nd.run = some r → (s.setNeedle n { nd with imageOf := none }).loadImage n r.st = s1 → exec (.instructionStoreParity n) s =
        .next { s1 with fences := { s1.fences with ce := FMap.modifyD s1.fences.ce 0 0 (fun v => satAdd (2 ^ 32 - 1) v 1) } }) ∧
      (∀ off, off < 0x300000 →
        let bank := off / 0x40000
        (bank ∈ nd.banks → exec (.sleeveUe n off false) s = .next s) ∧
        (bank ∉ nd.banks → Gives (exec (.sleeveUe n off false) s) (fun t => (t.needle n).banks = nd.banks ++ [bank] ∧ SameMemory s t ∧
          (nd.banks ≠ [] → (t.needle n).fenced = true) ∧ (nd.banks = [] → (t.needle n).fenced = nd.fenced))) ∧
        (∀ c cx, nd.ctx = some c → s.ctx? c = some cx → Gives (exec (.sleeveUe n off true) s) (fun t =>
          ∃ x, t.ctx? c = some x ∧ x.saveUe = true ∧ FMap.get? x.images n = none)))) ∧
    (s.isReady = true → ∀ i, i < Config.knots →
      (s.tailor.mirrored = true → exec (.knotCopyUe i false) s =
        .next { s with fences := { s.fences with ce := FMap.modifyD s.fences.ce 2 0 (fun v => satAdd (2 ^ 32 - 1) v 1) } }) ∧
      (FMap.get? s.knots i = none → exec (.knotCopyUe i true) s = .next s) ∧
      (∀ k, FMap.get? s.knots i = some k → Gives (exec (.knotCopyUe i true) s) (fun t => FMap.get? t.knots i = none ∧
        (∀ j, j ≠ i → FMap.get? t.knots j = FMap.get? s.knots j) ∧ SameMemory s t))) ∧
    (∀ c, c < Config.contexts →
      let fatal (cause : Nat) (t : State) : Prop := t = { s with fences := t.fences, needles := t.needles, finished := t.finished } ∧
        t.fences.fatal = s.fences.fatal ++ [(c, cause, 0, 0)]
      (s.ctx? c = none ∨ (∃ f ∈ s.fences.fatal, f.1 = c) →
        exec (.contextKeyIntegrityFail c) s = .next s ∧ exec (.tailorTableFailure c) s = .next s) ∧
      (∀ cx, s.ctx? c = some cx → (∀ f ∈ s.fences.fatal, f.1 ≠ c) →
        Gives (exec (.contextKeyIntegrityFail c) s) (fatal 2) ∧ Gives (exec (.tailorTableFailure c) s) (fatal 3))) ∧
    (∀ i, (FMap.get? s.spools i = none → exec (.hostPortWriteFailure (.spool i)) s = .next s) ∧
      (∀ sp, FMap.get? s.spools i = some sp → Gives (exec (.hostPortWriteFailure (.spool i)) s) (fun t => t = { s with fences := t.fences } ∧
        (i, sp.gen) ∈ t.fences.spoolFaults ∧ ∀ f ∈ s.fences.spoolFaults, f ∈ t.fences.spoolFaults))) ∧
    (∀ n seg off, n < Config.needles →
      let nd := s.needle n
      (nd.run = none → exec (.hostReadPoison n seg off) s = .next s ∧ exec (.hostPortWriteFailure (.store n seg off)) s = .next s) ∧
      (∀ r, nd.run = some r →
        let place := (s.hemPlace r.st.ctx seg off).getD (0, 0)
        let noted (t : State) : Prop := t.fences.hostPoison = s.fences.hostPoison ++ [(r.st.ctx, seg, place.1, place.2)] ∧ SameMemory s t
        Gives (exec (.hostPortWriteFailure (.store n seg off)) s) (fun t => noted t ∧ t.needle n = { nd with run := some { r with withdraw := true } }) ∧
        Gives (exec (.hostReadPoison n seg off) s) (fun t => noted t ∧ (t.needle n).vq = [] ∧ (t.needle n).mq = [] ∧
          ∃ x, (t.needle n).run = some x ∧ x.withdraw = true ∧ x.ended ≠ none)))

-- ---------------------------------------------------------------- the memory system

/-- R260, R266 to R273, R276, R280, R542, R544: a read is served by the Pincushion, or from the stack by what the decoder finds: clean, corrected
and counted, or uncorrectable and listed as poison; a write of a whole burst clears its mark; the scrubber passes over the channel
and tests a gusset; a failing pin is erased; a line in error is dropped, and its bank fenced. -/
def Obligations.MemoryIsReadWrittenAndScrubbed : Prop :=
  ∀ (s : State) (chan : Nat), chan < 768 →
    let c := s.channel chan
    let online : Prop := c.state = .online ∨ c.state = .degraded ∨ c.state = .moving
    let only (x : Channel) (t : State) : Prop := t = { s with channels := t.channels } ∧ t.channel chan = x ∧ ∀ j, j ≠ chan → t.channel j = s.channel j
    (∀ burst source hint errs wrong owner area bid,
      let sb := s.bid? bid
      let all := errs ++ (match wrong with | some w => addressErrs burst w | none => [])
      (sb.lineHit chan burst = true → c.isBad burst = false → exec (.memoryReadRequest chan burst source hint ⟨errs, wrong⟩ owner area bid) s =
        .next (sb.touchLine chan burst hint owner false true)) ∧
      (c.isBad burst = true →
        let counted (t : State) : Prop := t.channel chan = { c with poisonReads := Nat.min (2 ^ 32 - 1) (c.poisonReads + 1) } ∧
          ∀ j, j ≠ chan → t.channel j = s.channel j
        (Gives (exec (.memoryReadRequest chan burst source hint ⟨errs, wrong⟩ owner none bid) s) (fun t =>
          t = { sb with channels := t.channels } ∧ counted t)) ∧
        (∀ x k copy, Gives (exec (.memoryReadRequest chan burst source hint ⟨errs, wrong⟩ owner (some (x, k, copy)) bid) s) (fun t =>
          t = { sb with channels := t.channels, fences := t.fences } ∧ counted t ∧ (x, k, copy) ∈ t.fences.areaLost))) ∧
      (sb.lineHit chan burst = false → c.isBad burst = false → decodeBurst c.erased c.corrLimit all = .clean →
        exec (.memoryReadRequest chan burst source hint ⟨errs, wrong⟩ owner area bid) s = .next (sb.touchLine chan burst hint owner false true)) ∧
      (∀ fix e, sb.lineHit chan burst = false → c.isBad burst = false → decodeBurst c.erased c.corrLimit all = .corrected fix e →
        Gives (exec (.memoryReadRequest chan burst source hint ⟨errs, wrong⟩ owner area bid) s) (fun t =>
          (t.channel chan).ceTotal = Nat.min (2 ^ 32 - 1) (c.ceTotal + 1) ∧ (t.channel chan).ueTotal = c.ueTotal ∧ t.host = s.host ∧
          (miscorrected all fix = false → t.stack = s.stack) ∧ (t.channel chan).poison = c.poison)) ∧
      (sb.lineHit chan burst = false → c.isBad burst = false →
        decodeBurst c.erased c.corrLimit all = .ue ∨ decodeBurst c.erased c.corrLimit all = .addr →
        Gives (exec (.memoryReadRequest chan burst source hint ⟨errs, wrong⟩ owner area bid) s) (fun t => SameMemory s t ∧
          (t.channel chan).ueTotal = Nat.min (2 ^ 32 - 1) (c.ueTotal + 1) ∧ (t.channel chan).corrLimit = 2 ∧
          (c.poison.length < 4096 → burst ∈ (t.channel chan).poison) ∧ (4096 ≤ c.poison.length → (t.channel chan).state = .fenced)))) ∧
    (∀ burst hint bytes errs owner stitch slot bid,
      let sb := s.bid? bid
      let ws := bytes.filter (fun w => decide (w.1 < 64))
      (∀ s3, (∀ i, i < 64 → ∃ w ∈ ws, w.1 = i) ∨ (sb.lineHit chan burst = true ∧ c.isBad burst = false) → sb.writeBurst chan burst ws = (s3, false) →
        Gives (exec (.memoryWriteRequest chan burst hint bytes errs owner ⟨stitch, slot⟩ bid) s) (SameMemory s3)) ∧
      ((∀ i, i < 64 → ∃ w ∈ ws, w.1 = i) → c.state ≠ .fenced → c.lost.contains (burst / 1024) = false → s.mirrorOf chan burst = none →
        Gives (exec (.memoryWriteRequest chan burst hint bytes errs owner ⟨stitch, slot⟩ bid) s) (fun t => t.host = s.host ∧ burst ∉ (t.channel chan).poison ∧
          t.stack = ws.foldl (fun (m : Mem) w => Mem.write m (chan * 2 ^ 32 + 64 * burst + w.1) w.2) s.stack)) ∧
      ((∃ i, i < 64 ∧ ∀ w ∈ ws, w.1 ≠ i) → c.isBad burst = true → ∃ u : State, u = { sb with channels := u.channels } ∧
        u.channel chan = { c with poisonReads := Nat.min (2 ^ 32 - 1) (c.poisonReads + 1) } ∧ (∀ j, j ≠ chan → u.channel j = s.channel j) ∧
        exec (.memoryWriteRequest chan burst hint bytes errs owner ⟨none, none⟩ bid) s = .next u ∧
        (∀ id, exec (.memoryWriteRequest chan burst hint bytes errs owner ⟨some id, none⟩ bid) s = .next (u.withdrawById id)) ∧
        ∀ n eng i d, FMap.get? ((s.needle n).slots eng) i = some d →
          Gives (exec (.memoryWriteRequest chan burst hint bytes errs owner ⟨none, some (n, eng, i)⟩ bid) s) (fun t =>
            t = { u with needles := t.needles } ∧ FMap.get? ((t.needle n).slots eng) i = some { d with done := true, status := 0x10 }))) ∧
    (∀ errs,
      (c.state = .gusset → s.mirrorOf chan c.scrubAt = none → Gives (exec (.scrubRead chan errs) s) (fun t => t.host = s.host ∧
        (t.channel chan).scrubAt = (c.scrubAt + 1) % 35156250 ∧
        (∀ a, a < chan * 2 ^ 32 + 64 * c.scrubAt ∨ chan * 2 ^ 32 + 64 * c.scrubAt + 64 ≤ a → Mem.read t.stack a = Mem.read s.stack a) ∧
        (c.scrubAt + 1 ≠ 35156250 ∨ c.testBad = true → (t.channel chan).tested = c.tested) ∧
        (c.scrubAt + 1 = 35156250 → c.testBad = false → c.lost.contains (c.scrubAt / 1024) = false → decodeBurst c.erased c.corrLimit errs = .clean →
          (t.channel chan).tested = s.now))) ∧
      (online → c.scrubAt ∈ c.poison ∨ (c.isBad c.scrubAt = false ∧ decodeBurst c.erased c.corrLimit errs = .clean) →
        Gives (exec (.scrubRead chan errs) s) (only { c with scrubAt := (c.scrubAt + 1) % 35156250 })) ∧
      (∀ fix e, online → c.isBad c.scrubAt = false → decodeBurst c.erased c.corrLimit errs = .corrected fix e →
        Gives (exec (.scrubRead chan errs) s) (fun t => (t.channel chan).ceTotal = Nat.min (2 ^ 32 - 1) (c.ceTotal + 1) ∧
          (t.channel chan).scrubAt = (c.scrubAt + 1) % 35156250)) ∧
      (¬ online → c.state ≠ .gusset → exec (.scrubRead chan errs) s = .next s)) ∧
    (∀ pin, pin < 72 →
      (c.pinCount pin < 16 ∨ pin ∈ c.erased → exec (.pinErase chan pin) s = .next s) ∧
      (16 ≤ c.pinCount pin → pin ∉ c.erased → c.erased.length < 2 → Gives (exec (.pinErase chan pin) s) (fun t => SameMemory s t ∧
        (t.channel chan).erased = c.erased ++ [pin] ∧ (t.channel chan).moveWanted = true ∧
        (t.channel chan).state = (if c.state = .online then .degraded else c.state) ∧ (c.erased.length = 1 → (t.channel chan).corrLimit = 2))) ∧
      (16 ≤ c.pinCount pin → pin ∉ c.erased → 2 ≤ c.erased.length →
        Gives (exec (.pinErase chan pin) s) (fun t => t = { s with channels := t.channels, controllers := t.controllers } ∧
          (t.channel chan).erased = c.erased ∧ (t.channel chan).moveWanted = true ∧
          ∃ x ∈ (t.controller (chan / 32)).log, x.kind = 3 ∧ x.channel = chan ∧ x.pins = [pin]))) ∧
    (∀ burst,
      let k := s.controller (chan / 32)
      (FMap.get? k.lines (lineKey chan burst) = none → exec (.pincushionLineUe chan burst) s = .next s) ∧
      (∀ l, FMap.get? k.lines (lineKey chan burst) = some l → Gives (exec (.pincushionLineUe chan burst) s) (fun t => SameMemory s t ∧
        FMap.get? (t.controller (chan / 32)).lines (lineKey chan burst) = none ∧
        s.now ∈ FMap.getD (t.controller (chan / 32)).bankErrors (chan % 32 / 2) [] ∧
        (l.dirty = false → t.channel chan = c) ∧
        (l.dirty = true → c.poison.length < 4096 → burst ∈ (t.channel chan).poison)))) ∧
    (∀ stk bank parity users, stk < 24 → bank < 16 →
      let k := s.controller stk
      let due : Prop := parity = true ∨ 4 ≤ (recentTicks s.now (FMap.getD k.bankErrors bank [])).length ∨
        2 ≤ (recentTicks s.now (FMap.getD k.bankResidue bank [])).length
      (¬ due ∨ bank ∈ k.bankFenced → exec (.pincushionBankFence stk bank parity users) s = .next s) ∧
      (due → bank ∉ k.bankFenced → Gives (exec (.pincushionBankFence stk bank parity users) s) (fun t => SameMemory s t ∧
        (t.controller stk).bankFenced = k.bankFenced ++ [bank] ∧
        ∀ p ∈ (t.controller stk).lines, p.1 / 2 ^ 26 / 2 ≠ 16 * stk + bank)))

/-- R287, R288, R297 to R301, R304, R305, R498, R501: gussets are reserved and given back, or their want outlasts the hold and fences the channel; a
move starts to a gusset, copies its units and is staged when all are copied; a repair puts a channel into training, and training's
end is kept for the commit. -/
def Obligations.ChannelsMoveAndAreRepaired : Prop :=
  (∀ (s : State) (r : CmdReq), r.origin = .mgmt →
    (DevReq s r .plain [(0x08, fld 0 6), (0x0C, fld 0 16)] →
      let g := r.w 0x08
      (32 < g → Turned (exec (.gussetSet r) s) 0xB5 r s 0x0C) ∧
      (g ≤ 32 → g ≤ s.gussetReserve → DoneWith (exec (.gussetSet r) s) 0xB5 r [] (fun u => u.gussetReserve = g ∧ u.gussetHold = r.w 0x0C ∧
        SameMemory s u ∧ (g = s.gussetReserve → u.channels = s.channels))) ∧
      (g ≤ 32 → s.gussetReserve < g → s.addGussets s.gussetReserve (g - s.gussetReserve) = none → Turned (exec (.gussetSet r) s) 0xB5 r s 0x05) ∧
      (∀ s1, g ≤ 32 → s.gussetReserve < g → s.addGussets s.gussetReserve (g - s.gussetReserve) = some s1 →
        Done (exec (.gussetSet r) s) 0xB5 r { s1 with gussetReserve := g, gussetHold := r.w 0x0C } [])) ∧
    (DevReq s r .plain [(0x08, fld 0 27)] →
      let src := r.f 0x08 0 10
      let dst := r.f 0x08 10 10
      let share := r.f 0x08 20 7
      let good : Prop := src < 768 ∧ share ≤ 100 ∧ (dst = 0x3FF ∨ dst < 768)
      let live : Prop := (s.channel src).state = .online ∨ (s.channel src).state = .degraded
      (¬ good → Turned (exec (.channelMove r) s) 0xB3 r s 0x0C) ∧
      (good → (s.channel src).state = .moving → Turned (exec (.channelMove r) s) 0xB3 r s 0x0E) ∧
      (good → live → s.gussetLevel = 0 ∨ s.stackMoves (src / 32) = true → Turned (exec (.channelMove r) s) 0xB3 r s 0x0E) ∧
      (∀ d, good → live → s.gussetLevel ≠ 0 → s.stackMoves (src / 32) = false →
        (dst = 0x3FF ∧ s.chooseGusset src = some d) ∨ (dst ≠ 0x3FF ∧ d = dst) →
        ((s.channel d).state ≠ .gusset → Turned (exec (.channelMove r) s) 0xB3 r s 0x0C) ∧
        ((s.channel d).state = .gusset → DoneWith (exec (.channelMove r) s) 0xB3 r [] (fun u => SameMemory s u ∧
          (u.channel src).state = .moving ∧ (u.channel d).state = .moving ∧ (u.channel d).runs = (s.channel src).runs ∧
          ∃ m, u.moves = s.moves ++ [m] ∧ m.src = src ∧ m.dst = d ∧ m.share = (if share = 0 then 25 else share) ∧
            m.copySet = (s.channel src).allocated ∧ m.copied = [] ∧ m.staged = false)))) ∧
    (DevReq s r .plain [(0x08, fld 0 21), (0x0C, fld 0 18)] →
      let ch := r.f 0x08 0 10
      let die := r.f 0x08 10 4
      let c := s.channel ch
      let good : Prop := ch < 768 ∧ die < 12 ∧ die / 3 = ch % 32 / 8
      let idle : Prop := c.state = .offline ∨ c.state = .gusset
      (¬ good → Turned (exec (.memPpr r) s) 0xD3 r s 0x0C) ∧
      (good → ¬ idle → Turned (exec (.memPpr r) s) 0xD3 r s 0x0E) ∧
      let left := c.hpprLeft die (r.f 0x08 14 6)
      (good → idle → (r.w 0x08).testBit 20 = true → left = 0 → Turned (exec (.memPpr r) s) 0xD3 r s 0x06) ∧
      (good → idle → (r.w 0x08).testBit 20 = true → 0 < left → StartedWith (exec (.memPpr r) s) 0xD3 r (fun u => SameMemory s u ∧
        u.channel ch = { c with hppr := FMap.modifyD c.hppr (64 * die + r.f 0x08 14 6) 0 (· + 1), state := .training, retrain := some r.num, trainResult := none })) ∧
      (good → idle → (r.w 0x08).testBit 20 = false → StartedWith (exec (.memPpr r) s) 0xD3 r (fun u => SameMemory s u ∧
        (die, r.f 0x08 14 6, r.w 0x0C) ∈ (u.channel ch).sppr ∧ (u.channel ch).state = .training ∧ (u.channel ch).retrain = some r.num ∧
        (u.channel ch).hppr = c.hppr ∧ (u.repairOf ch).sppr = (u.channel ch).sppr))) ∧
    (DevReq s r .plain [(0x08, fld 0 18)] →
      let ch := r.f 0x08 0 10
      let pin := r.f 0x08 11 7
      let c := s.channel ch
      let good : Prop := ch < 768 ∧ pin < 72
      let idle : Prop := c.state = .offline ∨ c.state = .gusset
      let lane := if pinHalf pin = 0 then c.spare0 else c.spare1
      (¬ good → Turned (exec (.memLaneSet r) s) 0xD4 r s 0x0C) ∧
      (good → ¬ idle → Turned (exec (.memLaneSet r) s) 0xD4 r s 0x0E) ∧
      (good → idle → (r.w 0x08).testBit 10 = true →
        (pin ∉ c.erased → Turned (exec (.memLaneSet r) s) 0xD4 r s 0x0C) ∧
        (pin ∈ c.erased → StartedWith (exec (.memLaneSet r) s) 0xD4 r (fun u => SameMemory s u ∧ u.channel ch =
          { c with erased := c.erased.filter (· != pin), state := .training, retrain := some r.num, trainResult := none }))) ∧
      (good → idle → (r.w 0x08).testBit 10 = false →
        (lane ≠ none → Turned (exec (.memLaneSet r) s) 0xD4 r s 0x0C) ∧
        (lane = none → StartedWith (exec (.memLaneSet r) s) 0xD4 r (fun u => SameMemory s u ∧ (u.channel ch).state = .training ∧
          (u.channel ch).retrain = some r.num ∧ (pinHalf pin = 0 → (u.channel ch).spare0 = some pin ∧ (u.channel ch).spare1 = c.spare1) ∧
          (pinHalf pin ≠ 0 → (u.channel ch).spare1 = some pin ∧ (u.channel ch).spare0 = c.spare0)))))) ∧
  (∀ (s : State) (chan : Nat), chan < 768 →
    let c := s.channel chan
    (s.gussetLevel ≠ 0 → exec .gussetHoldExpiry s = .next s) ∧
    (∀ w, s.gussetLevel = 0 → c.wantedAt = some w → c.moveWanted = true → c.state = .online ∨ c.state = .degraded →
      w + s.gussetHold ≤ s.tick.number → Gives (exec .gussetHoldExpiry s) (fun t => SameMemory s t ∧ (t.channel chan).state = .fenced)) ∧
    (s.moves.find? (fun m => m.src = chan) = none → ∀ unit errs failed, unit < 64 →
      exec (.channelCopyUnitAck chan unit errs failed) s = .next s) ∧
    (∀ unit errs failed, c.state = .fenced → unit < 64 → exec (.channelCopyUnitAck chan unit errs failed) s = .next s) ∧
    (∀ m unit errs, s.moves.find? (fun m => m.src = chan) = some m → unit < 64 → c.state ≠ .fenced →
      (Gives (exec (.channelCopyUnitAck chan unit errs true) s) (fun t => t = { s with moves := t.moves } ∧ { m with failed := true } ∈ t.moves)) ∧
      (∀ k, m.copySet.find? (fun k => !m.copied.contains k) = some k → unit ∉ m.units →
        let full : Prop := m.units.length + 1 = 64
        Gives (exec (.channelCopyUnitAck chan unit errs false) s) (fun t => t.host = s.host ∧
          (full → { m with units := [], copied := m.copied ++ [k] } ∈ t.moves) ∧ (¬ full → { m with units := m.units ++ [unit] } ∈ t.moves))) ∧
      (unit ∈ m.units ∨ m.copySet.find? (fun k => !m.copied.contains k) = none → exec (.channelCopyUnitAck chan unit errs false) s = .next s)) ∧
    (Gives (exec (.channelMoveDrain chan) s) (fun t => t = { s with moves := t.moves } ∧ ∀ m ∈ s.moves,
      (m.src = chan → (∀ k ∈ m.copySet, k ∈ m.copied) → s.tick.cutoff = false → m.failed = false → { m with staged := true } ∈ t.moves) ∧
      (m.src ≠ chan ∨ (∃ k ∈ m.copySet, k ∉ m.copied) ∨ s.tick.cutoff = true ∨ m.failed = true → m ∈ t.moves))) ∧
    (∀ failing passed,
      (c.state ≠ .training → exec (.channelRetrainDone chan failing passed) s = .next s) ∧
      (c.state = .training → Gives (exec (.channelRetrainDone chan failing passed) s) (fun t => SameMemory s t ∧
        (t.channel chan).state = .training ∧ (t.channel chan).retrain = c.retrain ∧ (t.channel chan).poison = [] ∧ (t.channel chan).lost = [] ∧
        (t.channel chan).moveWanted = false ∧
        (t.channel chan).trainResult = some (passed && decide ((t.channel chan).erased.length ≤ 2)) ∧
        (t.repairOf chan).erased = (t.channel chan).erased ∧
        (t.channel chan).corrLimit = (if 2 ≤ (t.channel chan).erased.length then 2 else 4) ∧
        (failing = [] → (t.channel chan).erased = (s.repairOf chan).erased)))))

-- ---------------------------------------------------------------- links and peers

/-- R48, R412 to R416, R420, R423 to R425, R427, R428, R572, R588, R589: a flit in order is accepted and its messages go on or are discarded as stale, one out of
order or in error is asked for again, and too many tag failures fence the link; a failing lane moves to the spare, then the link
runs on half its lanes, then it is fenced; lanes are recalibrated; training brings a link up with new keys; heartbeats and marks are
taken, and a silent, idle or named peer is declared lost. -/
def Obligations.LinksCarryFlitsAndFail : Prop :=
  ∀ (s : State) (l : Nat), l < 20 →
    let k := s.link l
    let only (x : Link) (t : State) : Prop := t = { s with links := t.links } ∧ t.link l = x ∧ ∀ j, j ≠ l → t.link j = s.link j
    let fencedBy (cause : Nat) (t : State) : Prop := (t.link l).state = .fenced ∧ (t.link l).cause = cause
    (k.carries = false → (∀ f, exec (.flitReceive l f) s = .next s) ∧ (∀ seq, exec (.nakReceive l seq) s = .next s) ∧
      (∀ h, exec (.heartbeatReceive l h) s = .next s) ∧ (∀ pos board sender, exec (.lossNoticeReceive l pos board sender) s = .next s) ∧
      (16 ≤ l → exec (.selvedgePortFence l) s = .next s)) ∧
    (∀ f : Flit, k.carries = true →
      (f.uncorrectable = true → Gives (exec (.flitReceive l f) s) (only { k with nak := true, uncorr := k.uncorr + 1 })) ∧
      (f.uncorrectable = false → f.tagBad = true →
        (k.tagFailTick < 16 → Gives (exec (.flitReceive l f) s)
          (only { k with nak := true, tagFail := k.tagFail + 1, tagFailTick := k.tagFailTick + 1 })) ∧
        (16 ≤ k.tagFailTick → Gives (exec (.flitReceive l f) s) (fencedBy 2))) ∧
      (f.uncorrectable = false → f.tagBad = false → f.seq ≠ k.expect → Gives (exec (.flitReceive l f) s) (only { k with nak := true })) ∧
      (f.uncorrectable = false → f.tagBad = false → f.seq = k.expect →
        (f.msgs = [] → Gives (exec (.flitReceive l f) s) (fun t => only (t.link l) t ∧ (t.link l).expect = (k.expect + 1) % 4096 ∧
          (t.link l).nak = false ∧ (t.link l).fecCorr = k.fecCorr + f.corrected ∧
          ∀ x ∈ k.retry, (x ∈ (t.link l).retry ↔ 2048 ≤ (f.ack + 4096 - x.seq) % 4096))) ∧
        (∀ m, f.msgs = [m] →
          (m.dest ≠ s.self → Gives (exec (.flitReceive l f) s) (fun t => SameMemory s t ∧ t.board.nextMsg = s.board.nextMsg + 1 ∧
            ∃ x, t.board.outgoing = s.board.outgoing ++ [x] ∧ x.dest = m.dest ∧ x.kind = m.kind ∧ x.epoch = m.epoch ∧ x.head = m.head ∧
              x.words = m.words)) ∧
          (m.dest = s.self → m.lossNotice = false → s.isReady = true → m.epoch = s.sendEpoch → m.mapVersion ≠ s.board.mapVersion → Gives (exec (.flitReceive l f) s) (fun t => SameMemory s t ∧
            t.staleGen = Nat.min (2 ^ 32 - 1) (s.staleGen + 1) ∧ (t.link l).stale = k.stale + 1)) ∧
          (m.dest = s.self → m.lossNotice = false → s.isReady = true → m.epoch ≠ s.sendEpoch →
            Gives (exec (.flitReceive l f) s) (fun t => SameMemory s t ∧ t.staleEpoch = Nat.min (2 ^ 32 - 1) (s.staleEpoch + 1) ∧
              (t.link l).stale = k.stale + 1)) ∧
          (m.dest = s.self → m.lossNotice = true ∨ (m.mapVersion = s.board.mapVersion ∧ m.epoch = s.sendEpoch) →
            Gives (exec (.flitReceive l f) s) (fun t => only (t.link l) t ∧ (t.link l).stale = k.stale))))) ∧
    (k.tagFailTick ≤ 16 ∨ k.state = .fenced → exec (.linkAuthFence l) s = .next s) ∧
    (16 < k.tagFailTick → k.state ≠ .fenced → Gives (exec (.linkAuthFence l) s) (fencedBy 2)) ∧
    (∀ seq, k.carries = true → Gives (exec (.nakReceive l seq) s) (fun t => only (t.link l) t ∧ ∃ again,
      again = k.retry.filter (fun x => decide ((x.seq + 4096 - seq % 4096) % 4096 < 2048)) ∧ (t.link l).retry = again ∧
      (t.link l).replayed = k.replayed + again.length)) ∧
    (∀ lane rate, lane ≤ 8 →
      (k.carries = false ∨ k.usesLane lane = false → exec (.laneFault l lane rate) s = .next s) ∧
      (k.carries = true → k.usesLane lane = true →
        (k.state = .half → Gives (exec (.laneFault l lane rate) s) (fencedBy 1)) ∧
        (k.state ≠ .half → k.spareFor = none → Gives (exec (.laneFault l lane rate) s) (fun t => SameMemory s t ∧
          (t.link l).spareFor = some lane ∧ lane ∈ (t.link l).lanesOut ∧ (t.link l).state = k.state ∧ (t.link l).recals = k.recals + 1)) ∧
        (k.state ≠ .half → k.spareFor ≠ none → Gives (exec (.laneFault l lane rate) s) (fun t => SameMemory s t ∧ (t.link l).state = .half ∧
          (t.link l).half = 1 - k.halfOf lane ∧ lane ∈ (t.link l).lanesOut)))) ∧
    (∀ lane boundary, lane ≤ 8 → boundary < 4096 →
      let moved : Link := { k with spareFor := some lane, recals := k.recals + 1, switchTicks := s.now :: k.switchTicks }
      (k.carries = true → k.spareFor = none → lane < 8 → Gives (exec (.laneFlit l lane boundary) s) (only moved)) ∧
      (k.carries = false ∨ k.spareFor ≠ none ∨ lane = 8 → exec (.laneFlit l lane boundary) s = .next s)) ∧
    (∀ r : CmdReq, DevReq s r .plain [(0x08, fld 0 5 + fld 8 3)] → r.origin = .mgmt →
      (20 ≤ r.f 0x08 0 5 → Turned (exec (.laneRecal r) s) 0xB4 r s 0x0C) ∧
      (r.f 0x08 0 5 = l → k.canRecal = false → Turned (exec (.laneRecal r) s) 0xB4 r s 0x0E) ∧
      (r.f 0x08 0 5 = l → k.canRecal = true → StartedWith (exec (.laneRecal r) s) 0xB4 r (fun u => u = { s with links := u.links } ∧
        (u.link l).state = .recal ∧ (u.link l).recalLane = some (r.f 0x08 8 3) ∧ (u.link l).spareFor = some (r.f 0x08 8 3) ∧
        (u.link l).recalCmd = some r.num))) ∧
    (∀ lane, lane < 8 →
      (k.canRecal = false → exec (.laneEyeMarginLow l lane) s = .next s) ∧
      (k.canRecal = true → Gives (exec (.laneEyeMarginLow l lane) s) (fun t => only (t.link l) t ∧ (t.link l).state = .recal ∧
        (t.link l).recalLane = some lane ∧ (t.link l).spareFor = some lane ∧ (t.link l).recalCmd = none))) ∧
    (∀ ok,
      (k.recalLane = none → exec (.laneRecalDone l ok) s = .next s) ∧
      (∀ lane, k.recalLane = some lane → Gives (exec (.laneRecalDone l ok) s) (fun t => SameMemory s t ∧ (t.link l).state = .up ∧
        (t.link l).recalLane = none ∧ (ok = true → (t.link l).spareFor = none ∧ lane ∉ (t.link l).lanesOut) ∧
        (ok = false → (t.link l).spareFor = k.spareFor ∧ lane ∈ (t.link l).lanesOut) ∧
        (k.recalCmd = none → t.due = s.due) ∧ ∀ num, k.recalCmd = some num → t.due = s.due ++ [(num, if ok then 0x00 else 0x04, [])]))) ∧
    (let tries : Prop := ((k.state = .down ∧ k.cause ≠ 5) ∨ (k.state = .fenced ∧ k.cause ≠ 3)) ∧ s.mayTrain l = true
     (tries → Gives (exec (.linkTrainRetry l) s) (only { k with state := .training })) ∧ (¬ tries → exec (.linkTrainRetry l) s = .next s)) ∧
    (∀ t : Training,
      (k.state ≠ .training → k.state ≠ .fenced ∨ k.cause ≠ 3 ∨ t.reset = false → exec (.linkTrainingDone l t) s = .next s) ∧
      (k.state = .training → t.passed = false → Gives (exec (.linkTrainingDone l t) s) (only { k with state := .down })) ∧
      (k.state = .training → t.passed = true →
        let loop : Prop := l < 16 ∧ t.farPos = s.board.posId ∧ t.farBoard = s.board.boardId
        let proved : Prop := t.chainOk = true ∧ (s.thimble.owr ≠ none → t.proofOk = true)
        (loop → Gives (exec (.linkTrainingDone l t) s) (fun u => SameMemory s u ∧
          u.link l = { k with state := .down, cause := 5, farPos := t.farPos, farBoard := t.farBoard })) ∧
        let apart : Prop := l < 16 ∧ s.isReady = true ∧ t.ready = true ∧ t.farPos ∉ s.board.live ∧ t.tick ≠ s.tick.number
        (¬ loop → apart → Gives (exec (.linkTrainingDone l t) s) (only { k with state := .down })) ∧
        (¬ loop → ¬ apart → ¬ proved → Gives (exec (.linkTrainingDone l t) s) (only { k with state := .down, cause := 2 })) ∧
        (¬ loop → ¬ apart → proved → Gives (exec (.linkTrainingDone l t) s) (fun u => SameMemory s u ∧ (u.link l).state = .up ∧ (u.link l).farPos = t.farPos ∧
          (u.link l).farBoard = t.farBoard ∧ (u.link l).farId = t.farId ∧ (u.link l).spareFor = t.spare ∧ (u.link l).expect = 0 ∧ (u.link l).retry = [] ∧
          (∃ x, (u.link l).key = some x ∧ x.secret = t.secret ∧ x.genOut = 0 ∧ x.genIn = 0 ∧ x.mapVersion = s.board.mapVersion) ∧
          (l < 16 → t.farPos ∈ u.board.live ∧ s.board.posId ∈ u.board.live))))) ∧
    (∀ commit incoming,
      (k.carries = false ∨ commit < s.tick.number → exec (.linkKeyGenerationChange l commit incoming) s = .next s) ∧
      (k.carries = true → s.tick.number ≤ commit →
        Gives (exec (.linkKeyGenerationChange l commit true) s) (only { k with switchIn := some commit }) ∧
        (k.flits < 2 ^ 30 ∨ k.switchOut ≠ none → exec (.linkKeyGenerationChange l commit false) s = .next s) ∧
        (2 ^ 30 ≤ k.flits → k.switchOut = none → Gives (exec (.linkKeyGenerationChange l commit false) s) (only { k with switchOut := some commit })))) ∧
    (let named (t : State) : Prop := (k.farPos, s.board.boardId) ∈ t.board.named
     let others : Bool := (threadLinks s.board.posId k.farPos).all (fun j => j = l || (s.link j).idle)
     (k.state = .down ∨ k.state = .training → exec (.linkElectricalIdle l) s = .next s) ∧
     (k.carries = true → 16 ≤ l ∨ others = false → Gives (exec (.linkElectricalIdle l) s) (fencedBy 1)) ∧
     (k.state = .fenced → 16 ≤ l ∨ others = false → Gives (exec (.linkElectricalIdle l) s) (only { k with idle := true })) ∧
     (k.state ≠ .down → k.state ≠ .training → l < 16 → others = true → k.farPos ≠ s.board.posId → k.farPos ∈ s.board.live →
       Gives (exec (.linkElectricalIdle l) s) named) ∧
     (∀ h : Heartbeat, k.carries = true →
       (h.down = false ∨ 16 ≤ l → (h.tick ≠ s.tick.number → exec (.heartbeatReceive l h) s = .next s) ∧
         (h.tick = s.tick.number → Gives (exec (.heartbeatReceive l h) s) (only { k with beat := true }))) ∧
       (h.down = true → l < 16 → k.farPos ≠ s.board.posId → k.farPos ∈ s.board.live → Gives (exec (.heartbeatReceive l h) s) named))) ∧
    ((∀ p, p < 9 → p ≠ s.board.posId → p ∈ s.board.live → s.silent p = false) → exec .heartbeatSilence s = .next s) ∧
    (∀ p, p < 9 → p ≠ s.board.posId → p ∈ s.board.live → s.silent p = true → (∀ q, q < p → q ≠ s.board.posId → q ∈ s.board.live → s.silent q = false) →
      Gives (exec .heartbeatSilence s) (fun t => (p, s.board.boardId) ∈ t.board.named)) ∧
    (∀ tick period ahead, l < 16 →
      let taken : Prop := k.carries = true ∧ s.tick.isMaster = false ∧ k.farPos = s.board.masterPos ∧ s.tick.markNext = none ∧ s.tick.number < tick
      (¬ taken → exec (.tickMarkReceive l tick period ahead) s = .next s) ∧
      (taken → Gives (exec (.tickMarkReceive l tick period ahead) s) (fun t => SameMemory s t ∧ t.tick.markNext = some (tick, period % 128) ∧
        t.tick.freeRun = false ∧ t.tick.number = s.tick.number ∧ t.board.steer = max (-10) (min 10 ahead)))) ∧
    (∀ board hops tick offset ahead, 16 ≤ l →
      (k.carries = false → exec (.epochMarkReceive l board hops tick offset ahead) s = .next s) ∧
      (k.carries = true → s.board.refMark = none → Gives (exec (.epochMarkReceive l board hops tick offset ahead) s) (fun t => SameMemory s t ∧
        t.board.refMark = some ⟨board, hops, offset, tick, ahead⟩ ∧ (s.isReady = true → t.tick = s.tick)))) ∧
    (∀ pos board sender, k.carries = true →
      (board ≠ s.board.boardId ∨ pos ≠ s.board.posId →
        Gives (exec (.lossNoticeReceive l pos board sender) s) (fun t => (pos, board) ∈ t.board.named)) ∧
      (s.board.isolated = true → exec (.lossNoticeReceive l s.board.posId s.board.boardId sender) s = .next s) ∧
      (s.board.isolated = false → Gives (exec (.lossNoticeReceive l s.board.posId s.board.boardId sender) s) (fun t => t.board.isolated = true ∧
        ∀ j, j < 20 → (t.link j).state = .down ∨ (t.link j).state = .fenced))) ∧
    (16 ≤ l → k.carries = true → Gives (exec (.selvedgePortFence l) s) (fencedBy 1))

/-- R48, R149, R209, R212, R237 to R239: a message that reaches a router's site competes there, and one of a dead epoch is counted; a member's knot
operation is checked, applied and answered, and the result of one asked for here reaches its register; a peer's access is checked by
this device's own descriptor, performed and answered. -/
def Obligations.PeersReachThisDevice : Prop :=
  ∀ (s : State),
    (∀ b : Bid,
      b.fits = true → s.isReady = true →
      (b.epoch ≠ s.sendEpoch → Gives (exec (.routerMessage b) s) (fun t => SameMemory s t ∧ t.arbiters = s.arbiters ∧
        t.staleEpoch = Nat.min (2 ^ 32 - 1) (s.staleEpoch + 1) ∧ t.staleGen = s.staleGen)) ∧
      (∀ h rest, b.epoch = s.sendEpoch → s.arbiters = [] → hopsOf b = h :: rest → Gives (exec (.routerMessage b) s) (fun t =>
        t = { s with arbiters := t.arbiters } ∧ ∃ a o, FMap.get? t.arbiters h.site = some a ∧ a.owner = some (o, b.instant) ∧ a.waiting = [] ∧
          o.id = b.id ∧ o.input = h.input ∧ o.next = rest ∧ o.lock = b.locked ∧ o.dl = s.tick.deadline b.sender b.instant ∧
          o.beats = (b.bytes + beatBytes h.site - 1) / beatBytes h.site ∧ (a.ctr h.input).grants = 1))) ∧
    (∀ member msg op handle garment arg epoch, s.isReady = true →
      let i := handle % 2 ^ 14
      let ask : KnotMsg := .ask member msg op handle garment arg epoch
      (epoch ≠ s.sendEpoch → Gives (exec (.knotOperationMessage ask) s) (fun t => SameMemory s t ∧ t.knots = s.knots ∧ t.board = s.board ∧
        t.staleEpoch = Nat.min (2 ^ 32 - 1) (s.staleEpoch + 1))) ∧
      (epoch = s.sendEpoch → FMap.get? s.knots i = none ∨ FMap.get? s.garments garment = none ∨
          (∃ k, FMap.get? s.knots i = some k ∧ k.gen ≠ handle / 2 ^ 14 % 256) →
        Gives (exec (.knotOperationMessage ask) s) (fun t => SameMemory s t ∧ t.knots = s.knots ∧
          t.staleGen = Nat.min (2 ^ 32 - 1) (s.staleGen + 1) ∧ Sent s t member 7 [19, msg, 0, 0, 0x07])) ∧
      (∀ k, epoch = s.sendEpoch → FMap.get? s.knots i = some k → k.gen = handle / 2 ^ 14 % 256 → FMap.get? s.garments garment ≠ none →
        let shared : Prop := k.gknot = true ∧ ∃ cx, s.ctx? k.owner = some cx ∧ cx.garment = some garment
        (¬ shared → Gives (exec (.knotOperationMessage ask) s) (fun t => SameMemory s t ∧ t.knots = s.knots ∧ Sent s t member 7 [19, msg, 0, 0, 0x0C])) ∧
        (∀ s1 v x, shared → s.knotApply i k op (BitVec.ofNat 64 arg) (.remote (member / 16) (member % 16)) none = (s1, some (v, x)) →
          Gives (exec (.knotOperationMessage ask) s) (fun t => SameMemory s1 t ∧ t.knots = s1.knots ∧
            Sent s1 t member 7 [19, msg, v % 2 ^ 32, v / 2 ^ 32, 0x00])))) ∧
    (∀ n msg value status, n < Config.needles →
      let nd := s.needle n
      (nd.knotOps.find? (fun k => k.1 = msg) = none → exec (.knotOperationMessage (.result n msg value status)) s = .next s) ∧
      (∀ k, nd.knotOps.find? (fun k => k.1 = msg) = some k → nd.vq = [] → nd.mq = [] → Gives (exec (.knotOperationMessage (.result n msg value status)) s) (fun t =>
        SameMemory s t ∧ (k.2.2.1 ≠ 0 → k.2.2.1 < 32 → (t.needle n).getX k.2.2.1 = knotResult value status true)))) ∧
    (∀ a : PeerAccess, s.isReady = true → a.epoch ≠ s.sendEpoch → Gives (exec (.peerSegmentAccess a) s) (fun t => SameMemory s t ∧
      t.board = s.board ∧ t.staleEpoch = Nat.min (2 ^ 32 - 1) (s.staleEpoch + 1))) ∧
    (∀ a : PeerAccess, s.isReady = true → a.epoch = s.sendEpoch →
      (s.garmentCtx a.garment a.seg = none → Gives (exec (.peerSegmentAccess a) s) (fun t => SameMemory s t ∧
        t.staleGen = Nat.min (2 ^ 32 - 1) (s.staleGen + 1) ∧ Sent s t a.member 7 [19, a.msg, 0x07, 0])) ∧
      (∀ c cx, s.garmentCtx a.garment a.seg = some c → s.ctx? c = some cx →
        (∀ bs, a.data = some bs →
          (s.ctxSegOk cx a.seg a.off bs.length .write = false → Gives (exec (.peerSegmentAccess a) s) (fun t => SameMemory s t ∧
            Sent s t a.member 7 [19, a.msg, 0x0F, 0])) ∧
          (s.ctxSegOk cx a.seg a.off bs.length .write = true → ∀ s1, s.writeCtx c (a.seg * 2 ^ 42 + a.off) bs = s1 →
            Gives (exec (.peerSegmentAccess a) s) (fun t => SameMemory s1 t ∧ Sent s1 t a.member 7 [19, a.msg, 0x00, 0]))) ∧
        (a.data = none → a.load = true → cx.peerPriv = false → Gives (exec (.peerSegmentAccess a) s) (fun t => SameMemory s t ∧
          Sent s t a.member 7 [19, a.msg, 0x0C, 0])) ∧
        (a.data = none → a.load = false ∨ cx.peerPriv = true →
          (s.ctxSegOk cx a.seg a.off a.len .read = false → Gives (exec (.peerSegmentAccess a) s) (fun t => SameMemory s t ∧
            Sent s t a.member 7 [19, a.msg, 0x0F, 0])) ∧
          (∀ d, s.ctxSegOk cx a.seg a.off a.len .read = true → FMap.get? cx.segs a.seg = some d →
            let o := s.readSeg c d a.seg s.adm.nextId s.freeCtr a.off a.len
            Gives (exec (.peerSegmentAccess a) s) (fun t => SameMemory s t ∧
              Sent s t a.member 7 ([19, a.msg, if o.usable then 0x00 else 0x10] ++ o.bytes.map BitVec.toNat))))))

-- ---------------------------------------------------------------- the module and its management

/-- R72, R75, R77, R244, R245, R275, R559, R577, R582, R587, R601, R604, R605, R607 to R610, R612 to R615, R617, R618: power and resets hold the module and keep what
persists; bring-up goes through its steps, or fails with its cause, to READY; a port's reset ends its link, keys and sessions; the
sensors, the droop stretch and the governor follow what is read; the Chalk answers its bus; summaries are sent and their counts
cleared. -/
def Obligations.ModuleStartsAndSenses : Prop :=
  (∀ s : State,
    let held (t : State) : Prop := t.mod.state = (if s.mod.thermtripN then .held else .thermtrip) ∧ t.contexts = [] ∧ t.needles = [] ∧ t.requests = [] ∧
      t.thimble.ctxKeys = [] ∧ t.thimble.deviceKey = none ∧ t.thimble.sessions = [] ∧ t.stack = [] ∧ t.host = s.host ∧ t.images = s.images ∧
      t.thimble.slots = s.thimble.slots ∧ t.thimble.owr = s.thimble.owr ∧ t.mod.v48 = true ∧ t.pending = s.pending ∧ t.freeCtr = s.freeCtr
    (s.mod.v48 = false → exec .pwrOkFall s = .next { s with mod := { s.mod with pwrOk := false } } ∧ exec .inputVoltageFault s = .next s ∧
      exec .modResetAssert s = .next { s with mod := { s.mod with modResetN := false } } ∧
      (∀ pos board, exec (.bringupStart pos board) s = .next s) ∧ (∀ a, exec (.i3cDynamicAddress a) s = .next s) ∧
      (∀ on, exec (.i3cInterruptEnable on) s = .next s) ∧
      ∀ pos, exec (.input48vApplied pos) s = .next { s with mod := { s.mod with v48 := true, state := .held, staticAddr := 0x30 + pos % 16 } }) ∧
    (s.mod.v48 = true → Gives (exec .pwrOkFall s) (fun t => held t ∧ t.mod.pwrOk = false) ∧ Gives (exec .inputVoltageFault s) held ∧
      Gives (exec .modResetAssert s) (fun t => held t ∧ t.mod.modResetN = false) ∧ (∀ pos, exec (.input48vApplied pos) s = .next s) ∧
      (∀ a, exec (.i3cDynamicAddress a) s = .next { s with mod := { s.mod with dynAddr := some (a % 128) } }) ∧
      (∀ on, exec (.i3cInterruptEnable on) s = .next { s with mod := { s.mod with ibi := on } })) ∧
    Gives (exec .input48vRemoved s) (fun t => t.mod.state = .unpowered ∧ t.mod.v48 = false ∧ t.mod.thermtripN = true ∧ t.contexts = [] ∧
      t.thimble.deviceKey = none ∧ t.host = s.host ∧ t.images = s.images ∧ t.thimble.owr = s.thimble.owr) ∧
    (∀ pos board, s.mod.v48 = true →
      (s.mod.thermtripN = false → exec (.bringupStart pos board) s = .next s) ∧
      (s.mod.thermtripN = true → Gives (exec (.bringupStart pos board) s) (fun t => t.mod.state = .step 1 ∧ t.mod.pwrOk = true ∧
        t.mod.modResetN = true ∧ t.mod.port0 = s.mod.perst0N ∧ t.mod.port1 = s.mod.perst1N ∧ t.board.strapPos = pos % 16 ∧ t.contexts = [] ∧
        t.host = s.host ∧ (pos % 16 ≤ 8 → board / 16 % 4 ≤ 1 → t.board.posId = pos % 16) ∧
        (9 ≤ pos % 16 → t.board.posId = 0xF) ∧ (2 ≤ board / 16 % 4 → t.board.posId = 0xF)))) ∧
    (∀ port, port = 1 ∨ port = 2 →
      let high (m : Module) : Bool := if port = 1 then m.perst0N else m.perst1N
      let up (m : Module) : Bool := if port = 1 then m.port0 else m.port1
      (Gives (exec (.perstAssert port) s) (fun t => SameMemory s t ∧ t.contexts = s.contexts ∧ high t.mod = false ∧ up t.mod = false ∧
        (∀ p ∈ t.thimble.ide, p.1 / 16 ≠ port) ∧ (∀ x ∈ t.thimble.sessions, x.port ≠ port) ∧ ∀ p ∈ t.msix, p.1 / 2048 ≠ port)) ∧
      (Gives (exec (.perstDeassert port) s) (fun t => t = { s with mod := t.mod } ∧ high t.mod = true ∧
        (s.mod.state = .unpowered ∨ s.mod.state = .held ∨ s.mod.state = .thermtrip → up t.mod = false) ∧
        (s.mod.state = .ready ∨ s.mod.state = .withdrawn ∨ s.mod.state = .failed ∨ (∃ k, s.mod.state = .step k) → up t.mod = true))) ∧
      (s.hostPortUp port = false → exec (.configRequest port) s = .next s) ∧
      (s.hostPortUp port = true → exec (.configRequest port) s =
        .next { s with mod := { s.mod with config := FMap.set s.mod.config port (s.isReady || s.mod.state.isOut) } })) ∧
    (s.isReady = true →
      (s.mod.refLost = 0 → exec .tickRefLoss s = .next { s with mod := { s.mod with refLost := 2 } } ∧ exec .tickRefReturn s = .next s) ∧
      (s.mod.refLost = 2 → exec .tickRefReturn s = .next { s with mod := { s.mod with refLost := 0 } } ∧ exec .tickRefLoss s = .next s)) ∧
    (∀ b, b ≤ 2 →
      let up : Prop := if b = 0 then s.mod.v48 = true else s.isReady = true ∧ s.hostPortUp b = true
      let said (x : PldmAnswer) : Host.Outcome State Fault Refusal := .next { s with mod := { s.mod with pldm := FMap.set s.mod.pldm b x } }
      (¬ up → exec (.pldmBaseRequest b) s = .next s ∧ exec (.pldmFruRequest b) s = .next s ∧ exec (.mctpEndpointIdAssign b 9) s = .next s) ∧
      (up → exec (.pldmBaseRequest b) s = said (.types [0, 2, 4]) ∧
        exec (.pldmFruRequest b) s = said (.fru (wordsLE orderingWords) (Config.serial % 2 ^ 64) 0x30 s.thimble.version) ∧
        (∀ eid, exec (.mctpEndpointIdAssign b eid) s = .next { s with mod := { s.mod with eids := FMap.set s.mod.eids b (eid % 256) } }) ∧
        (∀ id, id ∉ sensorIds → exec (.pldmPlatformRequest b id) s = said .unknown) ∧
        (∀ id v, id ∈ sensorIds → s.reading id = some v → exec (.pldmPlatformRequest b id) s = said (.reading v)) ∧
        (∀ id, id ∈ sensorIds → s.reading id = none → exec (.pldmPlatformRequest b id) s = said .unavailable))) ∧
    (∀ inlet outlet flow, s.mod.v48 = true → Gives (exec (.coolantMeasure inlet outlet flow) s) (fun t => SameMemory s t ∧
      t.adm.inletMilliC = inlet ∧ FMap.get? t.mod.sensors 0x10 = some (inlet / 100) ∧ FMap.get? t.mod.sensors 0x11 = some (outlet / 100) ∧
      FMap.get? t.mod.sensors 0x12 = some (flow : Int))) ∧
    (∀ cv da w boltC, s.mod.v48 = true →
      (s.dieRuns = true → 95 ≤ boltC → Gives (exec (.sensorRefresh cv da w boltC) s) (fun t => t.mod.state = .thermtrip ∧ t.mod.thermtripN = false)) ∧
      (boltC < 95 ∨ s.dieRuns = false → Gives (exec (.sensorRefresh cv da w boltC) s) (fun t => t = { s with mod := t.mod } ∧
        FMap.get? t.mod.sensors 0x01 = some (cv : Int) ∧ FMap.get? t.mod.sensors 0x02 = some (da : Int) ∧ FMap.get? t.mod.sensors 0x03 = some (w : Int)))) ∧
    (s.dieRuns = true →
      (∀ p v, p < 6 → (110000 ≤ v → Gives (exec (.hotspotRead p v) s) (fun t => t.mod.state = .thermtrip ∧ t.mod.thermtripN = false)) ∧
        (v < 110000 → Gives (exec (.hotspotRead p v) s) (fun t => t = { s with adm := t.adm } ∧ t.panel p = { s.panel p with hotspot := v }))) ∧
      (∀ k die t0, k < 24 → die < 12 →
        let d := FMap.getD (s.controller k).dies die Die.cold
        (105 ≤ t0 → Gives (exec (.dieTempRead k die t0) s) (fun t => t.mod.state = .thermtrip ∧ t.mod.thermtripN = false)) ∧
        (t0 < 105 → Gives (exec (.dieTempRead k die t0) s) (fun t => t = { s with controllers := t.controllers } ∧
          FMap.get? (t.controller k).dies die = some ⟨t0, decide (85 ≤ t0) || (d.refresh2 && decide (82 < t0)),
            decide (95 ≤ t0) || (d.slow && decide (92 < t0))⟩)))) ∧
    (s.isReady = true →
      (∀ p at_, p < 6 →
        let x := s.panel p
        (x.stretched = false → exec (.droopRecover p at_) s = .next s ∧ Gives (exec (.droopDetect p at_) s) (fun t => t = { s with adm := t.adm } ∧
          t.panel p = { x with stretched := true, stretchAt := at_ })) ∧
        (x.stretched = true → exec (.droopDetect p at_) s = .next s ∧ Gives (exec (.droopRecover p at_) s) (fun t => t = { s with adm := t.adm } ∧
          t.panel p = { x with stretched := false, stretchNs := x.stretchNs + (at_ - x.stretchAt) }))) ∧
      (∀ mw,
        (mw ≤ Nat.min (s.adm.limit * 10500) 3600000 → exec (.governorAct mw) s = .next s) ∧
        (Nat.min (s.adm.limit * 10500) 3600000 < mw → Gives (exec (.governorAct mw) s) (fun t => SameMemory s t ∧ t.adm.governorActed = true ∧
          t.adm.governedAt = some s.tick.number ∧ ∃ f, 4 ≤ f ∧ f ≤ 15 ∧ ∀ p, p < 6 → (t.panel p).governor = f)) ∧
        (s.adm.limit * 10000 ≤ mw → exec (.governorRestore mw) s = .next s) ∧
        (mw < s.adm.limit * 10000 → Gives (exec (.governorRestore mw) s) (fun t => t = { s with adm := t.adm } ∧
          ∀ p, p < 6 → (t.panel p).governor = 16))) ∧
      (s.tick.number % 1024 ≠ 0 ∨ (∀ k, k < 4 → FMap.getD s.fences.ce k 0 = 0) → exec .evCeSummary s = .next s) ∧
      (s.tick.number % 1024 = 0 → (∃ k, k < 4 ∧ FMap.getD s.fences.ce k 0 ≠ 0) → Gives (exec .evCeSummary s) (fun t => SameMemory s t ∧
        t.fences.ce = [] ∧ t.contexts = s.contexts)) ∧
      Gives (exec .evKnotCycle s) (fun t => SameMemory s t ∧ t.cycles = s.cycles.map (fun k =>
        if decide (3 ≤ k.seen) && !k.reported then { k with reported := true } else k)))) ∧
  (∀ (s : State) (r : Bringup) (i : Instr), i = .bringupStepDone r ∨ i = .bringupStepTimeout r →
    let fails (cause : Nat) (t : State) : Prop := t.mod.state = .failed ∧ t.mod.failCause = cause ∧ t.mod.alertN = false
    (s.mod.state = .ready ∨ s.mod.state = .held → exec i s = .next s) ∧
    (∀ k, s.mod.state = .step k → r.logicOk = false → Gives (exec i s) (fails 3)) ∧
    (r.logicOk = true →
      (s.mod.state = .step 1 →
        (r.refOk = true → exec i s = .next { s with mod := { s.mod with state := .step 2 } }) ∧
        (r.refOk = false → Gives (exec i s) (fun t => t.mod.state = .step 2 ∧ t.board.posId = 0xF ∧
          (s.board.posId ≠ 0xF → t.mod.refLost = 1) ∧ (s.board.posId = 0xF → t.mod.refLost = s.mod.refLost)))) ∧
      (s.mod.state = .step 2 →
        (r.thimbleOk = false → Gives (exec i s) (fun t => fails 1 t ∧ t.thimble.error = true)) ∧
        (r.thimbleOk = true → Gives (exec i s) (fun t => t.mod.state = .step 3 ∧ t.thimble.deviceKey = some s.thimble.nextKey ∧
          t.thimble.stockKey = some (s.thimble.nextKey + 1) ∧ (s.thimble.modeNext = none → t.thimble.approved = s.thimble.modeApproved)))) ∧
      (s.mod.state = .step 3 →
        (r.clusterA = false → r.clusterB = false → Gives (exec i s) (fails 2)) ∧
        (r.clusterA = true ∨ r.clusterB = true → Gives (exec i s) (fun t => t.mod.state = .step 4 ∧
          t.tailor.clusterA = (if r.clusterA then .active else .fenced) ∧ t.tailor.activeB = !r.clusterA ∧
          t.tailor.clusterB = (if r.clusterB then (if r.clusterA then .standby else .active) else .fenced)))) ∧
      (s.mod.state = .step 4 → Gives (exec i s) (fun t => t.mod.state = .step 5 ∧ (∀ n ∈ r.needles, n < 288 → (t.needle n).fenced = true) ∧
        t.host = s.host ∧ t.contexts = s.contexts)) ∧
      (s.mod.state = .step 5 → Gives (exec i s) (fun t => t.mod.state = (if s.board.posId = 0xF then .step 7 else .step 6) ∧ t.host = s.host)) ∧
      (s.mod.state = .step 6 → Gives (exec i s) (fun t => t.mod.state = .step 7 ∧ ∀ p ∈ t.links, p.2.state ≠ .training)) ∧
      (s.mod.state = .step 7 → Gives (exec i s) (fun t => t.mod.state = .ready ∧ SameMemory s t ∧ t.adm.carry = 0 ∧
        t.tick.number = (if s.tick.freeRun then 0 else (s.tick.number + 1) % 2 ^ 48) ∧ t.devStatus.getLsbD 0 = true))))

/-- R568, R591, R597, R598: an attestation request on a host port is answered from READY, with Busy while the Thimble restarts; what it gives and
what it changes of the connection, its sessions and the stream keys. -/
def Obligations.AttestationAnswers : Prop :=
  ∀ (s : State) (port : Nat), port = 1 ∨ port = 2 →
    let up : Prop := s.isReady = true ∧ s.hostPortUp port = true
    let said (t : State) (a : SpdmAnswer) : Host.Outcome State Fault Refusal :=
      .next { t with thimble := { t.thimble with answers := FMap.set t.thimble.answers port a } }
    let p := s.spdm port
    let conn (x : SpdmPort) : State := { s with thimble := { s.thimble with ports := FMap.set s.thimble.ports port x } }
    let sess (l : List SpdmSession) : State := { s with thimble := { s.thimble with sessions := l } }
    (¬ up → exec (.getVersion port) s = .next s ∧ exec (.keyExchange port) s = .next s ∧ exec (.heartbeat port 1) s = .next s) ∧
    (up → s.thimbleBusy = true → exec (.getVersion port) s = said s .busy ∧ exec (.challenge port 0 0) s = said s .busy ∧
      exec (.keyUpdate port 1) s = said s .busy) ∧
    (up → s.thimbleBusy = false →
      Gives (exec (.getVersion port) s) (fun t => t = { s with thimble := t.thimble } ∧ t.spdm port = ⟨true, false, 0⟩ ∧
        (∀ x ∈ t.thimble.sessions, x.port ≠ port) ∧ FMap.get? t.thimble.answers port = some .version) ∧
      (p.version = false → exec (.getCapabilities port) s = said s .error) ∧
      (p.version = true → exec (.getCapabilities port) s = said (conn { p with capabilities := true }) .capabilities) ∧
      (∀ algs, p.capabilities = false ∨ algs % 4 ≠ 3 → exec (.negotiateAlgorithms port algs) s = said s .error) ∧
      (∀ algs, p.capabilities = true → algs % 4 = 3 → exec (.negotiateAlgorithms port algs) s =
        said (conn { p with algorithms := algs % 16 }) (.algorithms (algs % 16))) ∧
      (p.algorithms = 0 → exec (.getDigests port) s = said s .error ∧ exec (.getCertificate port 0 0 64) s = said s .error ∧
        exec (.challenge port 0 0) s = said s .error ∧ exec (.getMeasurements port 1 0 false) s = said s .error ∧ exec (.keyExchange port) s = said s .error) ∧
      (p.algorithms ≠ 0 →
        exec (.getDigests port) s = said s (.digests (Config.digest Config.certChain)) ∧
        (∀ off len, exec (.getCertificate port 0 off len) s = said s (.certificate ((Config.certChain.drop off).take len))) ∧
        (∀ slot off len, slot ≠ 0 → exec (.getCertificate port slot off len) s = said s .error) ∧
        (∀ nonce, exec (.challenge port 0 nonce) s = said s (.challenge (Config.sign identityEcdsa (natLE 32 nonce)))) ∧
        (∀ slot nonce, slot ≠ 0 → exec (.challenge port slot nonce) s = said s .error) ∧
        (∀ i nonce, 1 ≤ i → i ≤ 7 → exec (.getMeasurements port i nonce false) s = said s (.measurements [(i, s.measurement i)] none)) ∧
        (∀ i nonce, 1 ≤ i → i ≤ 7 → exec (.getMeasurements port i nonce true) s = said s (.measurements [(i, s.measurement i)]
          (some (Config.sign identityEcdsa (natLE 48 (s.measurement i) ++ natLE 32 nonce))))) ∧
        (∀ i nonce sign, i = 0 ∨ (8 ≤ i ∧ i ≠ 0xFF) → exec (.getMeasurements port i nonce sign) s = said s .error) ∧
        (p.algorithms ≠ 15 ∨ 4 ≤ (s.sessionsOn port).length → exec (.keyExchange port) s = said s .error) ∧
        (p.algorithms = 15 → (s.sessionsOn port).length < 4 → Gives (exec (.keyExchange port) s) (fun t => t = { s with thimble := t.thimble } ∧
          t.thimble.sessions = s.thimble.sessions ++ [⟨s.thimble.nextSession, port, false, 0⟩] ∧
          FMap.get? t.thimble.answers port = some (.session s.thimble.nextSession)))) ∧
      (∀ id, s.thimble.sessions.find? (fun x => x.id = id && x.port = port) = none →
        exec (.finish port id true) s = said s .error ∧ exec (.keyUpdate port id) s = said s .error ∧ exec (.heartbeat port id) s = said s .error ∧
        exec (.endSession port id) s = said s .error ∧ exec (.ideKm port id 0 .stop) s = said s .error) ∧
      (∀ id x, s.thimble.sessions.find? (fun x => x.id = id && x.port = port) = some x →
        let others := s.thimble.sessions.filter (fun y => y.id != id)
        let put (z : SpdmSession) := s.thimble.sessions.map (fun y => if y.id = x.id then z else y)
        (x.finished = true → exec (.finish port id true) s = said s .error ∧ exec (.heartbeat port id) s = said s .done ∧
          exec (.keyUpdate port id) s = said (sess (put { x with updates := x.updates + 1 })) .done ∧
          exec (.endSession port id) s = said (sess others) .done ∧
          (∀ stream op, 8 < stream → exec (.ideKm port id stream op) s = said s .error) ∧
          (∀ stream key, stream ≤ 8 → exec (.ideKm port id stream (.program key)) s =
            said { s with thimble := { s.thimble with ide := FMap.set s.thimble.ide (port * 16 + stream) key } } .done) ∧
          (∀ stream, stream ≤ 8 → exec (.ideKm port id stream .stop) s =
            said { s with thimble := { s.thimble with ide := FMap.del s.thimble.ide (port * 16 + stream) } } .done)) ∧
        (x.finished = false → exec (.heartbeat port id) s = said s .error ∧ exec (.keyUpdate port id) s = said s .error ∧
          exec (.endSession port id) s = said s .error ∧ exec (.finish port id false) s = said (sess others) .error ∧
          exec (.finish port id true) s = said (sess (put { x with finished := true })) .done)))

-- ---------------------------------------------------------------- rules stated whole

/-- R26: after reset T is 2.00 ms and G 40 µs; TICK_SET sets both for the tick it names, at 0.50 to 16.00 ms in steps of 125 µs and 20 to 400 µs,
G at most T / 4; one that breaks a limit completes with BAD_PARAM and changes nothing. Times are in µs. -/
def Obligations.TickPeriodAndGuardBand : Prop :=
  let period (code : Nat) : Nat := 500 + 125 * code
  period State.reset.tick.periodCode = 2000 ∧ State.reset.tick.guardUs = 40 ∧ period 0 = 500 ∧ period 124 = 16000 ∧
  ∀ (s : State) (r : CmdReq), DevReq s r .plain [(0x08, fld 0 7 + fld 16 9), (0x0C, 2 ^ 32 - 1), (0x10, fld 0 16)] → r.origin = .mgmt →
    let code := r.f 0x08 0 7
    let g := r.f 0x08 16 9
    let e := r.d 0x0C
    let limits : Prop := 500 ≤ period code ∧ period code ≤ 16000 ∧ 20 ≤ g ∧ g ≤ 400 ∧ 4 * g ≤ period code
    (¬ limits → Turned (exec (.tickSet r) s) 0x02 r s 0x0C) ∧
    (s.tick.number + 16 ≤ e → limits → Done (exec (.tickSet r) s) 0x02 r
      { s with tick := { s.tick with staged := s.tick.staged ++ [{ at_ := e, period := code, guardUs := g }] } } [e % 2 ^ 32, e / 2 ^ 32]) ∧
    (e < s.tick.number + 16 → Turned (exec (.tickSet r) s) 0x02 r s 0x0C)

/-- R490: RISK_SET stages HIGH and LOW and, where bit 31 of 0x0C is set, the host hint; it needs LOW below HIGH. -/
def Obligations.RiskThresholdsAreStaged : Prop :=
  ∀ (s : State) (r : CmdReq) (c : Nat) (cx : Context), CtxReq s r .plain [(0x08, fld 0 10 + fld 16 10), (0x0C, fld 0 10 + fld 31 1)] c cx →
    let high := r.f 0x08 0 10
    let low := r.f 0x08 16 10
    (low < high → (r.w 0x0C).testBit 31 = true → Stages (exec (.riskSet r) s) 0x82 r s [.risk c high low (some (r.f 0x0C 0 10))]) ∧
    (low < high → (r.w 0x0C).testBit 31 = false → Stages (exec (.riskSet r) s) 0x82 r s [.risk c high low none]) ∧
    (high ≤ low → Turned (exec (.riskSet r) s) 0x82 r s 0x0C)

/-- R90, R95: of the codes of N4 only 0x8 is a NaN, none is an infinity or a negative zero, and the others read as in E2M1; the Shears write 0x0
where a result would be negative zero, and 0x8 for no number unless OVF_NAN asks for it; an element reads as its value times its
block's scale, and as NaN where the scale is 0xFF. -/
def Obligations.NarrowFormatCodes : Prop :=
  (∀ c, c < 16 →
    (Fmt.n4.decode c = .nan ↔ c = 8) ∧ (∀ n, Fmt.n4.decode c ≠ .inf n) ∧ (∀ e, Fmt.n4.decode c ≠ .fin true 0 e) ∧
    (c ≠ 8 → Fmt.n4.decode c = Fmt.e2m1.decode c)) ∧
  (∀ (ovf plane : Bool) (r : Round) (x : Nat) (n : Bool) (m : Nat) (e : Int),
    (convertElem .n4 ovf r plane x (.fin n 0 e)).1 = 0 ∧
    (convertElem .n4 false r plane x (.fin n m e)).1 ≠ 8 ∧ (convertElem .n4 ovf r plane x (.fin n m e)).1 < 16 ∧
    ((convertElem .n4 ovf r plane x (.fin n m e)).1 = 8 → ovf = true ∧ (convertElem .n4 ovf r plane x (.fin n m e)).2 = shOvf)) ∧
  (∀ (v : FVal), scaledVal v (some 0xFF) = .nan) ∧
  (∀ (x : Nat) (n : Bool) (m : Nat) (e : Int), x < 0xFF → scaledVal (.fin n m e) (some x) = .fin n m (e + x - 127))
end

