-- ==== Sys2Proof/Machine/Xts.lean ====
section
/-! DEFINITION. Memory encryption (R261, R585, R587): the XTS key table of every memory controller, the key of a chunk's owner, and the
burst that a channel holds. State keeps the plaintext of the stacks; the ciphertext and the code over it are functions of that plaintext,
the keys and the address. -/

namespace Sys2Proof.Machine

/-- R585: entry `i` of the key table, the same in every memory controller: 0 to 1,023 the memory keys of the context indices, 1,024 the
shared-stock key, 1,025 the device data key. A destroyed key leaves its entry empty. -/
def State.xtsKey (s : State) (i : Nat) : Option Nat :=
  if i < 1024 then FMap.get? s.thimble.ctxKeys i
  else if i = 1024 then s.thimble.stockKey
  else if i = 1025 then s.thimble.deviceKey
  else none

/-- R295, R585: the context whose save area holds a channel chunk. -/
def State.areaOwner (s : State) (ch k : Nat) : Option Nat :=
  s.contexts.findSome? (fun p =>
    let n := areaChunks p.2.needles p.2.liveMax
    if (List.range n).any (fun j => p.2.areaPlace 0 j = some (ch, k) || p.2.areaPlace 1 j = some (ch, k)) then some p.1 else none)

/-- R585: the entry of the table that a chunk's owner selects; none for a chunk that nothing owns. -/
def State.keyEntry (s : State) (ch k : Nat) : Option Nat :=
  match s.chunkOwner ch k with
  | .context c _ _ _ => some c
  | .stock _ _ => some 1024
  | .free => s.areaOwner ch k

/-- R261: the tweak of a burst: its device-physical address. -/
def burstTweak (ch b : Nat) : Nat := ch * 2 ^ 32 + 64 * b

/-- R261, R585: the 64 bytes of ciphertext of plaintext that burst `b` of channel `ch` holds; none while no key selects, when what the
burst holds is ciphertext under a key that no longer exists (R587). -/
def State.sealBurst (s : State) (ch b : Nat) (plain : List Byte) : Option (List Byte) :=
  ((s.keyEntry ch (b / 1024)).bind s.xtsKey).map (fun k => unit64 (Config.cipher k (burstTweak ch b) plain))

/-- R260, R261: the plaintext of a burst as its controller's merge, adders and Pincushion see it. -/
def State.burstPlain (s : State) (ch b : Nat) : List Byte := Mem.readN s.stack (burstTweak ch b) 64

/-- R261, R262, R263: the 72 symbols that the channel holds of a burst: the code is computed over the ciphertext. -/
def State.storedBurst (s : State) (ch b : Nat) : Option (List Nat) :=
  (s.sealBurst ch b (s.burstPlain ch b)).map (fun c => burstSymbols b (c.map BitVec.toNat))

/-- R301, R585: what a gusset copy writes at burst `b` of the destination: the source's plaintext under the owner's key and the destination
address. -/
def State.copiedBurst (s : State) (src dst b : Nat) : Option (List Nat) :=
  ((s.keyEntry src (b / 1024)).bind s.xtsKey).map (fun k =>
    burstSymbols b ((unit64 (Config.cipher k (burstTweak dst b) (s.burstPlain src b))).map BitVec.toNat))

end Sys2Proof.Machine
end

