-- ==== Sys2Proof/Laws/Encryption.lean ====
section
/-! SUPPORT. What memory encryption says of a burst (R261, R301, R585, R587). -/

namespace Sys2Proof.Laws

open Sys2Proof.Machine

/-- R301, R585: where the destination of a gusset copy has the source's owner and holds the source's plaintext, under the same keys, what
the copy writes is what the destination's burst holds: ciphertext under the owner's key and the destination address, with its code. -/
theorem copied_burst_is_stored (s t : State) (src dst b : Nat) (he : t.keyEntry dst (b / 1024) = s.keyEntry src (b / 1024))
    (hk : t.thimble = s.thimble) (hp : t.burstPlain dst b = s.burstPlain src b) : s.copiedBurst src dst b = t.storedBurst dst b := by
  have hx : t.xtsKey = s.xtsKey := by funext i; simp [State.xtsKey, hk]
  simp only [State.copiedBurst, State.storedBurst, State.sealBurst, he, hx, hp, Option.map_map]
  rfl

/-- R585, R587: a burst whose owner's key is gone holds nothing that decrypts. -/
theorem sealed_needs_key (s : State) (ch b i : Nat) (plain : List Byte) (he : s.keyEntry ch (b / 1024) = some i) (hk : s.xtsKey i = none) :
    s.sealBurst ch b plain = none := by
  simp [State.sealBurst, he, hk]

/-- R585: the table has 1,026 entries. -/
theorem key_table_ends (s : State) (i : Nat) (h : 1026 ≤ i) : s.xtsKey i = none := by
  have h1 : ¬ i < 1024 := by omega
  have h2 : i ≠ 1024 := by omega
  have h3 : i ≠ 1025 := by omega
  simp [State.xtsKey, h1, h2, h3]

end Sys2Proof.Laws
end

