-- ==== Sys2Proof/Laws/Issue.lean ====
section
/-! SUPPORT. Everything that issuing an instruction can do (R137, R139, R143, R152, R155). -/

namespace Sys2Proof.Laws

open Sys2Proof.Machine

/-- R155: past the image, and at an unassigned word, issue ends the stitch with ILLEGAL. -/
theorem issue_illegal {s : State} {n : Nat} {r : RunStitch} (named : List Nat) (ok : Bool) (body : Needle → RunStitch → State)
    (hn : n < Config.needles) (hr : (s.needle n).run = some r) (he : r.ended = none)
    (h : (s.needle n).imageLen ≤ (s.needle n).pc ∨ (s.needle n).atAssigned = false) :
    s.issue n named ok body = .next (s.faultStitch n fkIllegal) := by
  have h0 : ¬ Config.needles ≤ n := by omega
  rcases h with h | h <;> simp [State.issue, h0, hr, he, h]

/-- R143: a field out of its range, or an X register that does not exist, ends the stitch with ILLEGAL. -/
theorem issue_bad_field {s : State} {n : Nat} {r : RunStitch} {named : List Nat} {ok : Bool} (body : Needle → RunStitch → State)
    (hn : n < Config.needles) (hr : (s.needle n).run = some r) (he : r.ended = none) (h : ok = false ∨ ∃ x ∈ named, 32 ≤ x) :
    s.issue n named ok body = .next (s.faultStitch n fkIllegal) := by
  have h0 : ¬ Config.needles ≤ n := by omega
  rcases h with h | ⟨x, hx, h32⟩
  · simp [State.issue, h0, hr, he, h]
  · have : named.any (fun x => decide (32 ≤ x)) = true := List.any_eq_true.mpr ⟨x, hx, by simpa using h32⟩
    simp only [State.issue, h0, hr, he, this]
    simp

/-- R139: an instruction that names a pending X register stalls. -/
theorem issue_stalls {s : State} {n : Nat} {r : RunStitch} {named : List Nat} (body : Needle → RunStitch → State)
    (hn : n < Config.needles) (hr : (s.needle n).run = some r) (he : r.ended = none) (hp : (s.needle n).pc < (s.needle n).imageLen)
    (ha : (s.needle n).atAssigned = true) (hx : ∀ x ∈ named, x < 32) (h : ∃ x ∈ named, x ∈ (s.needle n).xPend) :
    s.issue n named true body = .next s := by
  have h0 : ¬ Config.needles ≤ n := by omega
  have h1 : ¬ (s.needle n).imageLen ≤ (s.needle n).pc := by omega
  have h2 : named.any (fun x => decide (32 ≤ x)) = false := List.any_eq_false.mpr (fun x hm => by have := hx x hm; simp; omega)
  have h3 : named.any (fun x => (s.needle n).xPend.contains x) = true := by
    obtain ⟨x, hm, hp⟩ := h
    exact List.any_eq_true.mpr ⟨x, hm, by simpa using hp⟩
  simp only [State.issue, h0, hr, he, h1, ha, h2, h3]
  simp

/-- R137, R152: with its registers there and its fields in range, an instruction does what its body says. -/
theorem issue_runs {s : State} {n : Nat} {r : RunStitch} {named : List Nat} (body : Needle → RunStitch → State)
    (hn : n < Config.needles) (hr : (s.needle n).run = some r) (he : r.ended = none) (hp : (s.needle n).pc < (s.needle n).imageLen)
    (ha : (s.needle n).atAssigned = true) (h : ∀ x ∈ named, x < 32 ∧ x ∉ (s.needle n).xPend) :
    s.issue n named true body = .next (body (s.needle n) r) := by
  have h0 : ¬ Config.needles ≤ n := by omega
  have h1 : ¬ (s.needle n).imageLen ≤ (s.needle n).pc := by omega
  have h2 : named.any (fun x => decide (32 ≤ x)) = false := List.any_eq_false.mpr (fun x hm => by have := (h x hm).1; simp; omega)
  have h3 : named.any (fun x => (s.needle n).xPend.contains x) = false := List.any_eq_false.mpr (fun x hm => by simpa using (h x hm).2)
  simp only [State.issue, h0, hr, he, h1, ha, h2, h3]
  simp

/-- A needle that runs no stitch issues nothing. -/
theorem issue_idle {s : State} {n : Nat} (named : List Nat) (ok : Bool) (body : Needle → RunStitch → State) (hn : n < Config.needles)
    (hr : (s.needle n).run = none) : s.issue n named ok body = .next s := by
  have h0 : ¬ Config.needles ≤ n := by omega
  simp [State.issue, h0, hr]

end Sys2Proof.Laws
end

