-- ==== Sys2Proof/Laws/Maps.lean ====
section
/-! SUPPORT. What the operations of the sparse map and of memory do: reads after writes, and the canonical form. -/

namespace Sys2Proof

variable {α : Type}

-- ---------------------------------------------------------------- the sparse map

@[simp] theorem FMap.get?_nil (k : Nat) : FMap.get? ([] : FMap α) k = none := rfl

theorem FMap.get?_cons (p : Nat × α) (t : FMap α) (k : Nat) :
    FMap.get? (p :: t) k = if p.1 = k then some p.2 else FMap.get? t k := rfl

@[simp] theorem FMap.get?_set_self (m : FMap α) (k : Nat) (v : α) : FMap.get? (FMap.set m k v) k = some v := by
  induction m with
  | nil => simp [FMap.set, FMap.get?]
  | cons p t ih =>
    simp only [FMap.set]
    split
    · simp [FMap.get?]
    · split
      · simp [FMap.get?]
      · rename_i h; have h' : ¬ p.1 = k := fun e => h e.symm; simp [FMap.get?_cons, ih, h']

theorem FMap.get?_set_other (m : FMap α) {k j : Nat} (v : α) (h : j ≠ k) :
    FMap.get? (FMap.set m k v) j = FMap.get? m j := by
  have hk : ¬ k = j := fun e => h e.symm
  induction m with
  | nil => simp [FMap.set, FMap.get?, hk]
  | cons p t ih =>
    simp only [FMap.set]
    split
    · simp [FMap.get?_cons, hk]
    · split
      · rename_i e; subst e; simp [FMap.get?_cons, hk]
      · simp [FMap.get?_cons, ih]

theorem FMap.get?_set (m : FMap α) (k j : Nat) (v : α) :
    FMap.get? (FMap.set m k v) j = if j = k then some v else FMap.get? m j := by
  split
  · rename_i h; subst h; simp
  · rename_i h; exact FMap.get?_set_other m v h

@[simp] theorem FMap.getD_set_self (m : FMap α) (k : Nat) (v d : α) : FMap.getD (FMap.set m k v) k d = v := by
  simp [FMap.getD]

theorem FMap.getD_set_other (m : FMap α) {k j : Nat} (v d : α) (h : j ≠ k) :
    FMap.getD (FMap.set m k v) j d = FMap.getD m j d := by
  simp [FMap.getD, FMap.get?_set_other m v h]

theorem FMap.getD_set (m : FMap α) (k j : Nat) (v d : α) :
    FMap.getD (FMap.set m k v) j d = if j = k then v else FMap.getD m j d := by
  simp only [FMap.getD, FMap.get?_set]; split <;> rfl

@[simp] theorem FMap.get?_del_self (m : FMap α) (k : Nat) : FMap.get? (FMap.del m k) k = none := by
  induction m with
  | nil => rfl
  | cons p t ih =>
    by_cases h : p.1 = k
    · simpa [FMap.del, h] using ih
    · simpa [FMap.del, h, FMap.get?_cons] using ih

theorem FMap.get?_del_other (m : FMap α) {k j : Nat} (h : j ≠ k) : FMap.get? (FMap.del m k) j = FMap.get? m j := by
  induction m with
  | nil => rfl
  | cons p t ih =>
    by_cases hp : p.1 = k
    · have hj : ¬ p.1 = j := fun e => h (e.symm.trans hp)
      have hk : ¬ k = j := fun e => h e.symm
      simpa [FMap.del, hp, FMap.get?_cons, hk] using ih
    · simp only [FMap.del] at ih
      simp [FMap.del, hp, FMap.get?_cons, ih]

theorem FMap.get?_modify (m : FMap α) (k j : Nat) (f : α → α) :
    FMap.get? (FMap.modify m k f) j = if j = k then (FMap.get? m j).map f else FMap.get? m j := by
  induction m with
  | nil => simp [FMap.modify]
  | cons p t ih =>
    simp only [FMap.modify] at ih
    simp only [FMap.modify, List.map_cons, FMap.get?_cons, ih]
    by_cases hp : p.1 = k
    · by_cases hj : p.1 = j
      · subst hj; subst hp; simp
      · have : ¬ j = k := fun e => hj (hp.trans e.symm)
        have hk : ¬ k = j := fun e => this e.symm
        simp [hp, this, hk]
    · by_cases hj : p.1 = j
      · subst hj; simp [hp]
      · simp [hp, hj]

theorem FMap.has_eq (m : FMap α) (k : Nat) : FMap.has m k = (FMap.get? m k).isSome := rfl

-- ---------------------------------------------------------------- the canonical form

theorem FMap.wf_iff (m : FMap α) : FMap.wf m = true ↔ m.Pairwise (fun a b => a.1 < b.1) := by
  induction m with
  | nil => simp [FMap.wf]
  | cons p t ih =>
    cases t with
    | nil => simp [FMap.wf]
    | cons q u =>
      simp only [FMap.wf, Bool.and_eq_true, decide_eq_true_eq, ih, List.pairwise_cons]
      constructor
      · rintro ⟨h, hq, hu⟩
        refine ⟨?_, hq, hu⟩
        intro r hr
        rcases List.mem_cons.1 hr with rfl | hr
        · exact h
        · exact Nat.lt_trans h (hq r hr)
      · rintro ⟨h, hq, hu⟩
        exact ⟨h q (by simp), hq, hu⟩

theorem FMap.mem_set {m : FMap α} {k : Nat} {v : α} {p : Nat × α} (h : p ∈ FMap.set m k v) : p = (k, v) ∨ p ∈ m := by
  induction m with
  | nil => simpa [FMap.set] using h
  | cons q t ih =>
    simp only [FMap.set] at h
    split at h
    · simpa using h
    · split at h
      · rcases List.mem_cons.1 h with h | h
        · exact .inl h
        · exact .inr (List.mem_cons_of_mem _ h)
      · rcases List.mem_cons.1 h with h | h
        · exact .inr (by simp [h])
        · rcases ih h with h | h
          · exact .inl h
          · exact .inr (List.mem_cons_of_mem _ h)

theorem FMap.wf_set (m : FMap α) (k : Nat) (v : α) (h : FMap.wf m = true) : FMap.wf (FMap.set m k v) = true := by
  rw [FMap.wf_iff] at h ⊢
  induction m with
  | nil => simp [FMap.set]
  | cons q t ih =>
    rw [List.pairwise_cons] at h
    simp only [FMap.set]
    split
    · rename_i hk
      refine List.pairwise_cons.2 ⟨?_, List.pairwise_cons.2 h⟩
      intro r hr
      rcases List.mem_cons.1 hr with rfl | hr
      · exact hk
      · exact Nat.lt_trans hk (h.1 r hr)
    · split
      · rename_i hk; subst hk; exact List.pairwise_cons.2 h
      · rename_i h1 h2
        refine List.pairwise_cons.2 ⟨?_, ih h.2⟩
        intro r hr
        rcases FMap.mem_set hr with rfl | hr
        · simp only; omega
        · exact h.1 r hr

theorem FMap.wf_filter (m : FMap α) (p : Nat × α → Bool) (h : FMap.wf m = true) : FMap.wf (m.filter p : FMap α) = true := by
  rw [FMap.wf_iff] at h ⊢
  exact h.filter p

theorem FMap.wf_del (m : FMap α) (k : Nat) (h : FMap.wf m = true) : FMap.wf (FMap.del m k) = true := FMap.wf_filter m _ h

-- ---------------------------------------------------------------- memory

theorem Mem.wf_iff (m : Mem) : Mem.wf m = true ↔ FMap.wf m = true ∧ ∀ p ∈ m, p.2 ≠ 0#8 := by
  simp [Mem.wf]

theorem Mem.wf_filter (m : Mem) (p : Nat × Byte → Bool) (h : Mem.wf m = true) : Mem.wf (m.filter p : Mem) = true := by
  rw [Mem.wf_iff] at h ⊢
  exact ⟨FMap.wf_filter m p h.1, fun q hq => h.2 q (List.mem_filter.1 hq).1⟩

/-- A write keeps the canonical form. -/
theorem Mem.wf_write (m : Mem) (a : Nat) (b : Byte) (h : Mem.wf m = true) : Mem.wf (Mem.write m a b) = true := by
  unfold Mem.write
  split
  · exact Mem.wf_filter m _ h
  · rename_i hb
    rw [Mem.wf_iff] at h ⊢
    refine ⟨FMap.wf_set m a b h.1, ?_⟩
    intro p hp
    rcases FMap.mem_set hp with rfl | hp
    · exact hb
    · exact h.2 p hp

theorem Mem.wf_writeN (m : Mem) (a : Nat) (bs : List Byte) (h : Mem.wf m = true) : Mem.wf (Mem.writeN m a bs) = true := by
  induction bs generalizing m a with
  | nil => exact h
  | cons b t ih => exact ih _ _ (Mem.wf_write m a b h)

theorem Mem.wf_writeLE (m : Mem) (a n v : Nat) (h : Mem.wf m = true) : Mem.wf (Mem.writeLE m a n v) = true := Mem.wf_writeN _ _ _ h

theorem Mem.wf_clearRange (m : Mem) (a n : Nat) (h : Mem.wf m = true) : Mem.wf (Mem.clearRange m a n) = true := Mem.wf_filter m _ h

theorem Mem.wf_foldl_write {β : Type} (l : List β) (m : Mem) (f : β → Nat) (g : β → Byte) (h : Mem.wf m = true) :
    Mem.wf (l.foldl (fun a p => Mem.write a (f p) (g p)) m) = true := by
  induction l generalizing m with
  | nil => exact h
  | cons p t ih => exact ih _ (Mem.wf_write _ _ _ h)

theorem Mem.wf_copyRange (m : Mem) (src dst n : Nat) (h : Mem.wf m = true) : Mem.wf (Mem.copyRange m src dst n) = true :=
  Mem.wf_foldl_write _ _ _ _ (Mem.wf_clearRange m dst n h)

/-- A byte reads as it was written. -/
@[simp] theorem Mem.read_write_self (m : Mem) (a : Nat) (b : Byte) : Mem.read (Mem.write m a b) a = b := by
  unfold Mem.write Mem.read
  split
  · rename_i h; simp [FMap.getD, h]
  · simp

/-- A write leaves every other byte alone. -/
theorem Mem.read_write_other (m : Mem) {a c : Nat} (b : Byte) (h : c ≠ a) : Mem.read (Mem.write m a b) c = Mem.read m c := by
  unfold Mem.write Mem.read
  split
  · simp [FMap.getD, FMap.get?_del_other m h]
  · exact FMap.getD_set_other m b _ h

theorem Mem.read_writeN_outside (m : Mem) (a c : Nat) (bs : List Byte) (h : c < a ∨ a + bs.length ≤ c) :
    Mem.read (Mem.writeN m a bs) c = Mem.read m c := by
  induction bs generalizing m a with
  | nil => rfl
  | cons b t ih =>
    simp only [List.length_cons] at h
    rw [Mem.writeN, ih _ _ (by omega), Mem.read_write_other _ _ (by omega)]

theorem Mem.read_writeN_inside (m : Mem) (a i : Nat) (bs : List Byte) (h : i < bs.length) :
    Mem.read (Mem.writeN m a bs) (a + i) = bs[i] := by
  induction bs generalizing m a i with
  | nil => simp at h
  | cons b t ih =>
    cases i with
    | zero => simp [Mem.writeN, Mem.read_writeN_outside _ (a + 1) a t (by omega)]
    | succ i =>
      simp only [List.length_cons] at h
      have := ih (Mem.write m a b) (a + 1) i (by omega)
      rw [Mem.writeN, show a + (i + 1) = a + 1 + i by omega, this]; rfl

@[simp] theorem Mem.length_readN (m : Mem) (a n : Nat) : (Mem.readN m a n).length = n := by
  induction n generalizing a with
  | zero => rfl
  | succ n ih => simp [Mem.readN, ih]

/-- Bytes read back as they were written. -/
theorem Mem.readN_writeN (m : Mem) (a : Nat) (bs : List Byte) : Mem.readN (Mem.writeN m a bs) a bs.length = bs := by
  induction bs generalizing m a with
  | nil => rfl
  | cons b t ih =>
    simp only [List.length_cons, Mem.readN, Mem.writeN]
    rw [ih, Mem.read_writeN_outside _ (a + 1) a t (by omega), Mem.read_write_self]

/-- A slice of bytes read from memory is the bytes read at its place. -/
theorem Mem.slice_readN (m : Mem) (a n i k : Nat) (h : i + k ≤ n) : slice (Mem.readN m a n) i k = Mem.readN m (a + i) k := by
  unfold slice
  induction i generalizing a n with
  | zero =>
    simp only [List.drop_zero, Nat.add_zero]
    induction k generalizing a n with
    | zero => rfl
    | succ k ih =>
      cases n with
      | zero => omega
      | succ n => simp only [Mem.readN, List.take_succ_cons]; rw [ih (a + 1) n (by omega)]
  | succ i ih =>
    cases n with
    | zero => omega
    | succ n =>
      simp only [Mem.readN, List.drop_succ_cons]
      rw [ih (a + 1) n (by omega)]
      congr 1
      omega

theorem Mem.readN_congr (m m' : Mem) (a n : Nat) (h : ∀ c, a ≤ c → c < a + n → Mem.read m' c = Mem.read m c) :
    Mem.readN m' a n = Mem.readN m a n := by
  induction n generalizing a with
  | zero => rfl
  | succ n ih =>
    simp only [Mem.readN]
    rw [h a (by omega) (by omega), ih (a + 1) (fun c h1 h2 => h c (by omega) (by omega))]

@[simp] theorem length_natLE (n v : Nat) : (natLE n v).length = n := by
  induction n generalizing v with
  | zero => rfl
  | succ n ih => simp [natLE, ih]

/-- The bytes of a number spell it. -/
theorem leNat_natLE (n v : Nat) : leNat (natLE n v) = v % 256 ^ n := by
  induction n generalizing v with
  | zero => simp [natLE, leNat, Nat.mod_one]
  | succ n ih =>
    have e : (BitVec.ofNat 8 v).toNat = v % 256 := rfl
    rw [natLE, leNat, ih, e, Nat.pow_succ, Nat.mul_comm (256 ^ n) 256, Nat.mod_mul]

/-- A number reads back as it was written. -/
theorem Mem.readLE_writeLE (m : Mem) (a n v : Nat) : Mem.readLE (Mem.writeLE m a n v) a n = v % 256 ^ n := by
  have h := Mem.readN_writeN m a (natLE n v)
  simp only [length_natLE] at h
  rw [Mem.readLE, Mem.writeLE, h, leNat_natLE]

end Sys2Proof
end

