-- ==== Sys2Proof/Laws/Placement.lean ====
section
/-! SUPPORT. What placing chunks on channels leaves, and that fresh channels have room (R292, R295, R471). -/

namespace Sys2Proof.Machine

/-- R292: fresh channels have room at chunk 0. -/
theorem State.findSlots_fresh (s : State) (n : Nat) (hn : n ≤ channelChunks) : ∀ l : List Nat, (∀ ch ∈ l, (s.channel ch).runs = []) →
    s.findSlots n l = some (l.map (fun ch => (ch, 0)))
  | [], _ => rfl
  | ch :: t, h => by
    have h0 : lowestFree (s.channel ch).runs n channelChunks = some 0 := by
      rw [h ch (List.mem_cons_self ..)]
      simp [lowestFree, runFree, hn]
    have ht := State.findSlots_fresh s n hn t (fun c hc => h c (List.mem_cons_of_mem _ hc))
    simp [State.findSlots, h0, ht]

/-- R292: the slots are found where every channel has a free run. -/
theorem State.findSlots_isSome (s : State) (n : Nat) : ∀ l : List Nat, (∀ ch ∈ l, (lowestFree (s.channel ch).runs n channelChunks).isSome = true) →
    (s.findSlots n l).isSome = true
  | [], _ => rfl
  | ch :: t, h => by
    obtain ⟨b, hb⟩ := Option.isSome_iff_exists.mp (h ch (List.mem_cons_self ..))
    obtain ⟨a, ha⟩ := Option.isSome_iff_exists.mp (State.findSlots_isSome s n t (fun c hc => h c (List.mem_cons_of_mem _ hc)))
    simp [State.findSlots, hb, ha]

/-- R292: a channel all of whose runs are the first `n` chunks has room for as many again. -/
theorem lowestFree_above (runs : List ChunkRun) (n : Nat) (hn : n + n ≤ channelChunks) (h : ∀ r ∈ runs, r = { start := 0, len := n }) :
    (lowestFree runs n channelChunks).isSome = true := by
  have hf : runFree runs n n = true := by
    simp only [runFree, List.all_eq_true]
    intro r hr
    rw [h r hr]
    simp
  have hmem : (0 :: runs.map (fun r => r.start + r.len)).filter (fun st => decide (st + n ≤ channelChunks) && runFree runs st n) ≠ [] := by
    intro he
    have hall := List.filter_eq_nil_iff.mp he
    cases runs with
    | nil => exact hall 0 (List.mem_cons_self ..) (by simp [runFree]; omega)
    | cons r t =>
      refine hall n (List.mem_cons_of_mem _ ?_) (by simp [hf]; omega)
      have := h r (List.mem_cons_self ..)
      simp [this]
  simp only [lowestFree]
  split
  · rename_i he; exact absurd he hmem
  · rfl

/-- Placing a run touches the channels and the stacks' bytes only. -/
theorem State.takeArea_same (s : State) (slots : List (Nat × Nat)) (n : Nat) :
    s.takeArea slots n = { s with channels := (s.takeArea slots n).channels, stack := (s.takeArea slots n).stack } := by
  unfold State.takeArea
  generalize perSlot n slots.length false = k
  induction slots generalizing s with
  | nil => rfl
  | cons a t ih =>
    rw [List.foldl_cons, ih (s.takeRun k a)]
    rfl

/-- Runs of the first `n` chunks stay such. -/
theorem State.takeRun_runs (s : State) (n ch j : Nat) (h : ∀ r ∈ (s.channel j).runs, r = { start := 0, len := n }) :
    ∀ r ∈ ((s.takeRun n (ch, 0)).channel j).runs, r = { start := 0, len := n } := by
  intro r hr
  have hc : (s.takeRun n (ch, 0)).channel j = if j = ch then { s.channel ch with
      runs := (s.channel ch).runs ++ [{ start := 0, len := n }]
      lost := (s.channel ch).lost.filter (fun k => !(decide (0 ≤ k) && decide (k < 0 + n)))
      poison := (s.channel ch).poison.filter (fun b => !(decide (1024 * 0 ≤ b) && decide (b < 1024 * (0 + n)))) } else s.channel j := by
    simp only [State.takeRun, State.channel, State.setChannel, FMap.getD_set]
  by_cases hj : j = ch
  · subst hj
    rw [hc, if_pos rfl] at hr
    rcases List.mem_append.mp hr with h1 | h1
    · exact h r h1
    · simpa using h1
  · rw [hc, if_neg hj] at hr
    exact h r hr

/-- R295, R471: a save area is placed where every eligible channel is fresh and its two copies fit. -/
theorem State.placeArea_fresh (s : State) (n : Nat) (h2 : (areaTurn (s.spreadChannels 1 0)).isSome = true)
    (hn : 2 * perSlot n (s.spreadChannels 1 0).length false ≤ channelChunks) (hf : ∀ ch, (s.channel ch).runs = []) :
    ∃ t a b, s.placeArea n = some (t, a, b) ∧ t = { s with channels := t.channels, stack := t.stack } := by
  generalize hl : s.spreadChannels 1 0 = l at h2 hn
  obtain ⟨d, hd⟩ := Option.isSome_iff_exists.mp h2
  generalize hk : perSlot n l.length false = k at hn
  have ha := s.findSlots_fresh k (by omega) l (fun ch _ => hf ch)
  have key : ∀ (t : List Nat) (u : State), (∀ j, ∀ r ∈ (u.channel j).runs, r = { start := 0, len := k }) →
      ∀ j, ∀ r ∈ (((t.map (fun ch => (ch, 0))).foldl (fun (a : State) sl => a.takeRun k sl) u).channel j).runs, r = { start := 0, len := k } := by
    intro t
    induction t with
    | nil => intro u hu; exact hu
    | cons c t ih => intro u hu; exact ih _ (fun j => u.takeRun_runs k c j (hu j))
  have hs1 : ∀ j, ∀ r ∈ ((s.takeArea (l.map (fun ch => (ch, 0))) n).channel j).runs, r = { start := 0, len := k } := by
    have hlen : (l.map (fun ch => (ch, 0))).length = l.length := List.length_map ..
    intro j
    unfold State.takeArea
    rw [hlen, hk]
    exact key l s (fun i r hr => by rw [hf i] at hr; cases hr) j
  obtain ⟨b, hb⟩ := Option.isSome_iff_exists.mp ((s.takeArea (l.map (fun ch => (ch, 0))) n).findSlots_isSome k (turned d l)
    (fun ch _ => lowestFree_above _ k (by omega) (hs1 ch)))
  refine ⟨(s.takeArea (l.map (fun ch => (ch, 0))) n).takeArea b n, l.map (fun ch => (ch, 0)), b, ?_, ?_⟩
  · simp only [State.placeArea, hl, hk, ha, hb, hd, Option.map_some]
  · rw [State.takeArea_same, State.takeArea_same s]

/-- R471: opening a context's spool does not look at the channels or the stacks' bytes. -/
theorem State.openCtxSpool_same (s : State) (x : FMap Channel) (y : Mem) (c kind : Nat) (ws : List Nat) :
    ({ s with channels := x, stack := y } : State).openCtxSpool c kind ws =
      (s.openCtxSpool c kind ws).map (fun p => ({ p.1 with channels := x, stack := y }, p.2)) := by
  unfold State.openCtxSpool
  have hg : ∀ i, ({ s with channels := x, stack := y } : State).spoolGen i = s.spoolGen i := fun _ => rfl
  have ha : ∀ (f i : Nat) (u : Nat → Bool), ({ s with channels := x, stack := y } : State).allocGo 2 u i f = s.allocGo 2 u i f := by
    intro f
    induction f with
    | zero => intro i u; rfl
    | succ f ih =>
      intro i u
      simp only [State.allocGo, ih]
      rfl
  simp only [State.allocIndex, ha, hg]
  cases s.allocGo 2 (fun i => FMap.has s.spools i) 3 (Config.spools - 3) with
  | none => rfl
  | some i =>
    simp only []
    cases readSpoolDesc ws (s.spoolGen i) (some c) false with
    | none => rfl
    | some sp =>
      simp only []
      split <;> rfl

end Sys2Proof.Machine
end

