-- ==== Sys2Proof/Laws/State.lean ====
section
/-! SUPPORT. One lemma per field of State per named update of it, and what the updates of a unit read back as. -/

namespace Sys2Proof.Machine

variable (s : State)

-- ---------------------------------------------------------------- setNeedle

@[simp] theorem State.setNeedle_pending (n : Nat) (nd : Needle) : (s.setNeedle n nd).pending = s.pending := rfl
@[simp] theorem State.setNeedle_freeCtr (n : Nat) (nd : Needle) : (s.setNeedle n nd).freeCtr = s.freeCtr := rfl
@[simp] theorem State.setNeedle_tick (n : Nat) (nd : Needle) : (s.setNeedle n nd).tick = s.tick := rfl
@[simp] theorem State.setNeedle_adm (n : Nat) (nd : Needle) : (s.setNeedle n nd).adm = s.adm := rfl
@[simp] theorem State.setNeedle_needles (n : Nat) (nd : Needle) : (s.setNeedle n nd).needles = FMap.set s.needles n nd := rfl
@[simp] theorem State.setNeedle_finished (n : Nat) (nd : Needle) : (s.setNeedle n nd).finished = s.finished := rfl
@[simp] theorem State.setNeedle_scratchWriters (n : Nat) (nd : Needle) : (s.setNeedle n nd).scratchWriters = s.scratchWriters := rfl
@[simp] theorem State.setNeedle_arbiters (n : Nat) (nd : Needle) : (s.setNeedle n nd).arbiters = s.arbiters := rfl
@[simp] theorem State.setNeedle_knots (n : Nat) (nd : Needle) : (s.setNeedle n nd).knots = s.knots := rfl
@[simp] theorem State.setNeedle_knotGens (n : Nat) (nd : Needle) : (s.setNeedle n nd).knotGens = s.knotGens := rfl
@[simp] theorem State.setNeedle_cycles (n : Nat) (nd : Needle) : (s.setNeedle n nd).cycles = s.cycles := rfl
@[simp] theorem State.setNeedle_nextCycle (n : Nat) (nd : Needle) : (s.setNeedle n nd).nextCycle = s.nextCycle := rfl
@[simp] theorem State.setNeedle_spools (n : Nat) (nd : Needle) : (s.setNeedle n nd).spools = s.spools := rfl
@[simp] theorem State.setNeedle_spoolGens (n : Nat) (nd : Needle) : (s.setNeedle n nd).spoolGens = s.spoolGens := rfl
@[simp] theorem State.setNeedle_lists (n : Nat) (nd : Needle) : (s.setNeedle n nd).lists = s.lists := rfl
@[simp] theorem State.setNeedle_freeAt (n : Nat) (nd : Needle) : (s.setNeedle n nd).freeAt = s.freeAt := rfl
@[simp] theorem State.setNeedle_staleEpoch (n : Nat) (nd : Needle) : (s.setNeedle n nd).staleEpoch = s.staleEpoch := rfl
@[simp] theorem State.setNeedle_staleGen (n : Nat) (nd : Needle) : (s.setNeedle n nd).staleGen = s.staleGen := rfl
@[simp] theorem State.setNeedle_staleLast (n : Nat) (nd : Needle) : (s.setNeedle n nd).staleLast = s.staleLast := rfl
@[simp] theorem State.setNeedle_channels (n : Nat) (nd : Needle) : (s.setNeedle n nd).channels = s.channels := rfl
@[simp] theorem State.setNeedle_controllers (n : Nat) (nd : Needle) : (s.setNeedle n nd).controllers = s.controllers := rfl
@[simp] theorem State.setNeedle_scrubHours (n : Nat) (nd : Needle) : (s.setNeedle n nd).scrubHours = s.scrubHours := rfl
@[simp] theorem State.setNeedle_gussetReserve (n : Nat) (nd : Needle) : (s.setNeedle n nd).gussetReserve = s.gussetReserve := rfl
@[simp] theorem State.setNeedle_gussetHold (n : Nat) (nd : Needle) : (s.setNeedle n nd).gussetHold = s.gussetHold := rfl
@[simp] theorem State.setNeedle_moves (n : Nat) (nd : Needle) : (s.setNeedle n nd).moves = s.moves := rfl
@[simp] theorem State.setNeedle_stack (n : Nat) (nd : Needle) : (s.setNeedle n nd).stack = s.stack := rfl
@[simp] theorem State.setNeedle_host (n : Nat) (nd : Needle) : (s.setNeedle n nd).host = s.host := rfl
@[simp] theorem State.setNeedle_bolt0 (n : Nat) (nd : Needle) : (s.setNeedle n nd).bolt0 = s.bolt0 := rfl
@[simp] theorem State.setNeedle_bolt1 (n : Nat) (nd : Needle) : (s.setNeedle n nd).bolt1 = s.bolt1 := rfl
@[simp] theorem State.setNeedle_images (n : Nat) (nd : Needle) : (s.setNeedle n nd).images = s.images := rfl
@[simp] theorem State.setNeedle_stock (n : Nat) (nd : Needle) : (s.setNeedle n nd).stock = s.stock := rfl
@[simp] theorem State.setNeedle_loads (n : Nat) (nd : Needle) : (s.setNeedle n nd).loads = s.loads := rfl
@[simp] theorem State.setNeedle_contexts (n : Nat) (nd : Needle) : (s.setNeedle n nd).contexts = s.contexts := rfl
@[simp] theorem State.setNeedle_ctxGens (n : Nat) (nd : Needle) : (s.setNeedle n nd).ctxGens = s.ctxGens := rfl
@[simp] theorem State.setNeedle_requests (n : Nat) (nd : Needle) : (s.setNeedle n nd).requests = s.requests := rfl
@[simp] theorem State.setNeedle_reqGens (n : Nat) (nd : Needle) : (s.setNeedle n nd).reqGens = s.reqGens := rfl
@[simp] theorem State.setNeedle_shadowUpdates (n : Nat) (nd : Needle) : (s.setNeedle n nd).shadowUpdates = s.shadowUpdates := rfl
@[simp] theorem State.setNeedle_closedNow (n : Nat) (nd : Needle) : (s.setNeedle n nd).closedNow = s.closedNow := rfl
@[simp] theorem State.setNeedle_turns (n : Nat) (nd : Needle) : (s.setNeedle n nd).turns = s.turns := rfl
@[simp] theorem State.setNeedle_links (n : Nat) (nd : Needle) : (s.setNeedle n nd).links = s.links := rfl
@[simp] theorem State.setNeedle_board (n : Nat) (nd : Needle) : (s.setNeedle n nd).board = s.board := rfl
@[simp] theorem State.setNeedle_garments (n : Nat) (nd : Needle) : (s.setNeedle n nd).garments = s.garments := rfl
@[simp] theorem State.setNeedle_mgmt (n : Nat) (nd : Needle) : (s.setNeedle n nd).mgmt = s.mgmt := rfl
@[simp] theorem State.setNeedle_pages (n : Nat) (nd : Needle) : (s.setNeedle n nd).pages = s.pages := rfl
@[simp] theorem State.setNeedle_mgmtPage (n : Nat) (nd : Needle) : (s.setNeedle n nd).mgmtPage = s.mgmtPage := rfl
@[simp] theorem State.setNeedle_msix (n : Nat) (nd : Needle) : (s.setNeedle n nd).msix = s.msix := rfl
@[simp] theorem State.setNeedle_msixPending (n : Nat) (nd : Needle) : (s.setNeedle n nd).msixPending = s.msixPending := rfl
@[simp] theorem State.setNeedle_msixSent (n : Nat) (nd : Needle) : (s.setNeedle n nd).msixSent = s.msixSent := rfl
@[simp] theorem State.setNeedle_nextCmd (n : Nat) (nd : Needle) : (s.setNeedle n nd).nextCmd = s.nextCmd := rfl
@[simp] theorem State.setNeedle_fetched (n : Nat) (nd : Needle) : (s.setNeedle n nd).fetched = s.fetched := rfl
@[simp] theorem State.setNeedle_cutPidx (n : Nat) (nd : Needle) : (s.setNeedle n nd).cutPidx = s.cutPidx := rfl
@[simp] theorem State.setNeedle_running (n : Nat) (nd : Needle) : (s.setNeedle n nd).running = s.running := rfl
@[simp] theorem State.setNeedle_due (n : Nat) (nd : Needle) : (s.setNeedle n nd).due = s.due := rfl
@[simp] theorem State.setNeedle_shadow (n : Nat) (nd : Needle) : (s.setNeedle n nd).shadow = s.shadow := rfl
@[simp] theorem State.setNeedle_shadowNext (n : Nat) (nd : Needle) : (s.setNeedle n nd).shadowNext = s.shadowNext := rfl
@[simp] theorem State.setNeedle_out (n : Nat) (nd : Needle) : (s.setNeedle n nd).out = s.out := rfl
@[simp] theorem State.setNeedle_window (n : Nat) (nd : Needle) : (s.setNeedle n nd).window = s.window := rfl
@[simp] theorem State.setNeedle_fences (n : Nat) (nd : Needle) : (s.setNeedle n nd).fences = s.fences := rfl
@[simp] theorem State.setNeedle_tailor (n : Nat) (nd : Needle) : (s.setNeedle n nd).tailor = s.tailor := rfl
@[simp] theorem State.setNeedle_thimble (n : Nat) (nd : Needle) : (s.setNeedle n nd).thimble = s.thimble := rfl
@[simp] theorem State.setNeedle_mod (n : Nat) (nd : Needle) : (s.setNeedle n nd).mod = s.mod := rfl
@[simp] theorem State.setNeedle_devStatus (n : Nat) (nd : Needle) : (s.setNeedle n nd).devStatus = s.devStatus := rfl
@[simp] theorem State.setNeedle_boardState (n : Nat) (nd : Needle) : (s.setNeedle n nd).boardState = s.boardState := rfl
@[simp] theorem State.setNeedle_activeSpools (n : Nat) (nd : Needle) : (s.setNeedle n nd).activeSpools = s.activeSpools := rfl
@[simp] theorem State.setNeedle_repair (n : Nat) (nd : Needle) : (s.setNeedle n nd).repair = s.repair := rfl
@[simp] theorem State.setNeedle_hemPlain (n : Nat) (nd : Needle) : (s.setNeedle n nd).hemPlain = s.hemPlain := rfl
@[simp] theorem State.setNeedle_tableWrites (n : Nat) (nd : Needle) : (s.setNeedle n nd).tableWrites = s.tableWrites := rfl

-- ---------------------------------------------------------------- setChannel

@[simp] theorem State.setChannel_pending (c : Nat) (ch : Channel) : (s.setChannel c ch).pending = s.pending := rfl
@[simp] theorem State.setChannel_freeCtr (c : Nat) (ch : Channel) : (s.setChannel c ch).freeCtr = s.freeCtr := rfl
@[simp] theorem State.setChannel_tick (c : Nat) (ch : Channel) : (s.setChannel c ch).tick = s.tick := rfl
@[simp] theorem State.setChannel_adm (c : Nat) (ch : Channel) : (s.setChannel c ch).adm = s.adm := rfl
@[simp] theorem State.setChannel_needles (c : Nat) (ch : Channel) : (s.setChannel c ch).needles = s.needles := rfl
@[simp] theorem State.setChannel_finished (c : Nat) (ch : Channel) : (s.setChannel c ch).finished = s.finished := rfl
@[simp] theorem State.setChannel_scratchWriters (c : Nat) (ch : Channel) : (s.setChannel c ch).scratchWriters = s.scratchWriters := rfl
@[simp] theorem State.setChannel_arbiters (c : Nat) (ch : Channel) : (s.setChannel c ch).arbiters = s.arbiters := rfl
@[simp] theorem State.setChannel_knots (c : Nat) (ch : Channel) : (s.setChannel c ch).knots = s.knots := rfl
@[simp] theorem State.setChannel_knotGens (c : Nat) (ch : Channel) : (s.setChannel c ch).knotGens = s.knotGens := rfl
@[simp] theorem State.setChannel_cycles (c : Nat) (ch : Channel) : (s.setChannel c ch).cycles = s.cycles := rfl
@[simp] theorem State.setChannel_nextCycle (c : Nat) (ch : Channel) : (s.setChannel c ch).nextCycle = s.nextCycle := rfl
@[simp] theorem State.setChannel_spools (c : Nat) (ch : Channel) : (s.setChannel c ch).spools = s.spools := rfl
@[simp] theorem State.setChannel_spoolGens (c : Nat) (ch : Channel) : (s.setChannel c ch).spoolGens = s.spoolGens := rfl
@[simp] theorem State.setChannel_lists (c : Nat) (ch : Channel) : (s.setChannel c ch).lists = s.lists := rfl
@[simp] theorem State.setChannel_freeAt (c : Nat) (ch : Channel) : (s.setChannel c ch).freeAt = s.freeAt := rfl
@[simp] theorem State.setChannel_staleEpoch (c : Nat) (ch : Channel) : (s.setChannel c ch).staleEpoch = s.staleEpoch := rfl
@[simp] theorem State.setChannel_staleGen (c : Nat) (ch : Channel) : (s.setChannel c ch).staleGen = s.staleGen := rfl
@[simp] theorem State.setChannel_staleLast (c : Nat) (ch : Channel) : (s.setChannel c ch).staleLast = s.staleLast := rfl
@[simp] theorem State.setChannel_channels (c : Nat) (ch : Channel) : (s.setChannel c ch).channels = FMap.set s.channels c ch := rfl
@[simp] theorem State.setChannel_controllers (c : Nat) (ch : Channel) : (s.setChannel c ch).controllers = s.controllers := rfl
@[simp] theorem State.setChannel_scrubHours (c : Nat) (ch : Channel) : (s.setChannel c ch).scrubHours = s.scrubHours := rfl
@[simp] theorem State.setChannel_gussetReserve (c : Nat) (ch : Channel) : (s.setChannel c ch).gussetReserve = s.gussetReserve := rfl
@[simp] theorem State.setChannel_gussetHold (c : Nat) (ch : Channel) : (s.setChannel c ch).gussetHold = s.gussetHold := rfl
@[simp] theorem State.setChannel_moves (c : Nat) (ch : Channel) : (s.setChannel c ch).moves = s.moves := rfl
@[simp] theorem State.setChannel_stack (c : Nat) (ch : Channel) : (s.setChannel c ch).stack = s.stack := rfl
@[simp] theorem State.setChannel_host (c : Nat) (ch : Channel) : (s.setChannel c ch).host = s.host := rfl
@[simp] theorem State.setChannel_bolt0 (c : Nat) (ch : Channel) : (s.setChannel c ch).bolt0 = s.bolt0 := rfl
@[simp] theorem State.setChannel_bolt1 (c : Nat) (ch : Channel) : (s.setChannel c ch).bolt1 = s.bolt1 := rfl
@[simp] theorem State.setChannel_images (c : Nat) (ch : Channel) : (s.setChannel c ch).images = s.images := rfl
@[simp] theorem State.setChannel_stock (c : Nat) (ch : Channel) : (s.setChannel c ch).stock = s.stock := rfl
@[simp] theorem State.setChannel_loads (c : Nat) (ch : Channel) : (s.setChannel c ch).loads = s.loads := rfl
@[simp] theorem State.setChannel_contexts (c : Nat) (ch : Channel) : (s.setChannel c ch).contexts = s.contexts := rfl
@[simp] theorem State.setChannel_ctxGens (c : Nat) (ch : Channel) : (s.setChannel c ch).ctxGens = s.ctxGens := rfl
@[simp] theorem State.setChannel_requests (c : Nat) (ch : Channel) : (s.setChannel c ch).requests = s.requests := rfl
@[simp] theorem State.setChannel_reqGens (c : Nat) (ch : Channel) : (s.setChannel c ch).reqGens = s.reqGens := rfl
@[simp] theorem State.setChannel_shadowUpdates (c : Nat) (ch : Channel) : (s.setChannel c ch).shadowUpdates = s.shadowUpdates := rfl
@[simp] theorem State.setChannel_closedNow (c : Nat) (ch : Channel) : (s.setChannel c ch).closedNow = s.closedNow := rfl
@[simp] theorem State.setChannel_turns (c : Nat) (ch : Channel) : (s.setChannel c ch).turns = s.turns := rfl
@[simp] theorem State.setChannel_links (c : Nat) (ch : Channel) : (s.setChannel c ch).links = s.links := rfl
@[simp] theorem State.setChannel_board (c : Nat) (ch : Channel) : (s.setChannel c ch).board = s.board := rfl
@[simp] theorem State.setChannel_garments (c : Nat) (ch : Channel) : (s.setChannel c ch).garments = s.garments := rfl
@[simp] theorem State.setChannel_mgmt (c : Nat) (ch : Channel) : (s.setChannel c ch).mgmt = s.mgmt := rfl
@[simp] theorem State.setChannel_pages (c : Nat) (ch : Channel) : (s.setChannel c ch).pages = s.pages := rfl
@[simp] theorem State.setChannel_mgmtPage (c : Nat) (ch : Channel) : (s.setChannel c ch).mgmtPage = s.mgmtPage := rfl
@[simp] theorem State.setChannel_msix (c : Nat) (ch : Channel) : (s.setChannel c ch).msix = s.msix := rfl
@[simp] theorem State.setChannel_msixPending (c : Nat) (ch : Channel) : (s.setChannel c ch).msixPending = s.msixPending := rfl
@[simp] theorem State.setChannel_msixSent (c : Nat) (ch : Channel) : (s.setChannel c ch).msixSent = s.msixSent := rfl
@[simp] theorem State.setChannel_nextCmd (c : Nat) (ch : Channel) : (s.setChannel c ch).nextCmd = s.nextCmd := rfl
@[simp] theorem State.setChannel_fetched (c : Nat) (ch : Channel) : (s.setChannel c ch).fetched = s.fetched := rfl
@[simp] theorem State.setChannel_cutPidx (c : Nat) (ch : Channel) : (s.setChannel c ch).cutPidx = s.cutPidx := rfl
@[simp] theorem State.setChannel_running (c : Nat) (ch : Channel) : (s.setChannel c ch).running = s.running := rfl
@[simp] theorem State.setChannel_due (c : Nat) (ch : Channel) : (s.setChannel c ch).due = s.due := rfl
@[simp] theorem State.setChannel_shadow (c : Nat) (ch : Channel) : (s.setChannel c ch).shadow = s.shadow := rfl
@[simp] theorem State.setChannel_shadowNext (c : Nat) (ch : Channel) : (s.setChannel c ch).shadowNext = s.shadowNext := rfl
@[simp] theorem State.setChannel_out (c : Nat) (ch : Channel) : (s.setChannel c ch).out = s.out := rfl
@[simp] theorem State.setChannel_window (c : Nat) (ch : Channel) : (s.setChannel c ch).window = s.window := rfl
@[simp] theorem State.setChannel_fences (c : Nat) (ch : Channel) : (s.setChannel c ch).fences = s.fences := rfl
@[simp] theorem State.setChannel_tailor (c : Nat) (ch : Channel) : (s.setChannel c ch).tailor = s.tailor := rfl
@[simp] theorem State.setChannel_thimble (c : Nat) (ch : Channel) : (s.setChannel c ch).thimble = s.thimble := rfl
@[simp] theorem State.setChannel_mod (c : Nat) (ch : Channel) : (s.setChannel c ch).mod = s.mod := rfl
@[simp] theorem State.setChannel_devStatus (c : Nat) (ch : Channel) : (s.setChannel c ch).devStatus = s.devStatus := rfl
@[simp] theorem State.setChannel_boardState (c : Nat) (ch : Channel) : (s.setChannel c ch).boardState = s.boardState := rfl
@[simp] theorem State.setChannel_activeSpools (c : Nat) (ch : Channel) : (s.setChannel c ch).activeSpools = s.activeSpools := rfl
@[simp] theorem State.setChannel_repair (c : Nat) (ch : Channel) : (s.setChannel c ch).repair = s.repair := rfl
@[simp] theorem State.setChannel_hemPlain (c : Nat) (ch : Channel) : (s.setChannel c ch).hemPlain = s.hemPlain := rfl
@[simp] theorem State.setChannel_tableWrites (c : Nat) (ch : Channel) : (s.setChannel c ch).tableWrites = s.tableWrites := rfl

-- ---------------------------------------------------------------- setController

@[simp] theorem State.setController_pending (k : Nat) (c : Controller) : (s.setController k c).pending = s.pending := rfl
@[simp] theorem State.setController_freeCtr (k : Nat) (c : Controller) : (s.setController k c).freeCtr = s.freeCtr := rfl
@[simp] theorem State.setController_tick (k : Nat) (c : Controller) : (s.setController k c).tick = s.tick := rfl
@[simp] theorem State.setController_adm (k : Nat) (c : Controller) : (s.setController k c).adm = s.adm := rfl
@[simp] theorem State.setController_needles (k : Nat) (c : Controller) : (s.setController k c).needles = s.needles := rfl
@[simp] theorem State.setController_finished (k : Nat) (c : Controller) : (s.setController k c).finished = s.finished := rfl
@[simp] theorem State.setController_scratchWriters (k : Nat) (c : Controller) : (s.setController k c).scratchWriters = s.scratchWriters := rfl
@[simp] theorem State.setController_arbiters (k : Nat) (c : Controller) : (s.setController k c).arbiters = s.arbiters := rfl
@[simp] theorem State.setController_knots (k : Nat) (c : Controller) : (s.setController k c).knots = s.knots := rfl
@[simp] theorem State.setController_knotGens (k : Nat) (c : Controller) : (s.setController k c).knotGens = s.knotGens := rfl
@[simp] theorem State.setController_cycles (k : Nat) (c : Controller) : (s.setController k c).cycles = s.cycles := rfl
@[simp] theorem State.setController_nextCycle (k : Nat) (c : Controller) : (s.setController k c).nextCycle = s.nextCycle := rfl
@[simp] theorem State.setController_spools (k : Nat) (c : Controller) : (s.setController k c).spools = s.spools := rfl
@[simp] theorem State.setController_spoolGens (k : Nat) (c : Controller) : (s.setController k c).spoolGens = s.spoolGens := rfl
@[simp] theorem State.setController_lists (k : Nat) (c : Controller) : (s.setController k c).lists = s.lists := rfl
@[simp] theorem State.setController_freeAt (k : Nat) (c : Controller) : (s.setController k c).freeAt = s.freeAt := rfl
@[simp] theorem State.setController_staleEpoch (k : Nat) (c : Controller) : (s.setController k c).staleEpoch = s.staleEpoch := rfl
@[simp] theorem State.setController_staleGen (k : Nat) (c : Controller) : (s.setController k c).staleGen = s.staleGen := rfl
@[simp] theorem State.setController_staleLast (k : Nat) (c : Controller) : (s.setController k c).staleLast = s.staleLast := rfl
@[simp] theorem State.setController_channels (k : Nat) (c : Controller) : (s.setController k c).channels = s.channels := rfl
@[simp] theorem State.setController_controllers (k : Nat) (c : Controller) : (s.setController k c).controllers = FMap.set s.controllers k c := rfl
@[simp] theorem State.setController_scrubHours (k : Nat) (c : Controller) : (s.setController k c).scrubHours = s.scrubHours := rfl
@[simp] theorem State.setController_gussetReserve (k : Nat) (c : Controller) : (s.setController k c).gussetReserve = s.gussetReserve := rfl
@[simp] theorem State.setController_gussetHold (k : Nat) (c : Controller) : (s.setController k c).gussetHold = s.gussetHold := rfl
@[simp] theorem State.setController_moves (k : Nat) (c : Controller) : (s.setController k c).moves = s.moves := rfl
@[simp] theorem State.setController_stack (k : Nat) (c : Controller) : (s.setController k c).stack = s.stack := rfl
@[simp] theorem State.setController_host (k : Nat) (c : Controller) : (s.setController k c).host = s.host := rfl
@[simp] theorem State.setController_bolt0 (k : Nat) (c : Controller) : (s.setController k c).bolt0 = s.bolt0 := rfl
@[simp] theorem State.setController_bolt1 (k : Nat) (c : Controller) : (s.setController k c).bolt1 = s.bolt1 := rfl
@[simp] theorem State.setController_images (k : Nat) (c : Controller) : (s.setController k c).images = s.images := rfl
@[simp] theorem State.setController_stock (k : Nat) (c : Controller) : (s.setController k c).stock = s.stock := rfl
@[simp] theorem State.setController_loads (k : Nat) (c : Controller) : (s.setController k c).loads = s.loads := rfl
@[simp] theorem State.setController_contexts (k : Nat) (c : Controller) : (s.setController k c).contexts = s.contexts := rfl
@[simp] theorem State.setController_ctxGens (k : Nat) (c : Controller) : (s.setController k c).ctxGens = s.ctxGens := rfl
@[simp] theorem State.setController_requests (k : Nat) (c : Controller) : (s.setController k c).requests = s.requests := rfl
@[simp] theorem State.setController_reqGens (k : Nat) (c : Controller) : (s.setController k c).reqGens = s.reqGens := rfl
@[simp] theorem State.setController_shadowUpdates (k : Nat) (c : Controller) : (s.setController k c).shadowUpdates = s.shadowUpdates := rfl
@[simp] theorem State.setController_closedNow (k : Nat) (c : Controller) : (s.setController k c).closedNow = s.closedNow := rfl
@[simp] theorem State.setController_turns (k : Nat) (c : Controller) : (s.setController k c).turns = s.turns := rfl
@[simp] theorem State.setController_links (k : Nat) (c : Controller) : (s.setController k c).links = s.links := rfl
@[simp] theorem State.setController_board (k : Nat) (c : Controller) : (s.setController k c).board = s.board := rfl
@[simp] theorem State.setController_garments (k : Nat) (c : Controller) : (s.setController k c).garments = s.garments := rfl
@[simp] theorem State.setController_mgmt (k : Nat) (c : Controller) : (s.setController k c).mgmt = s.mgmt := rfl
@[simp] theorem State.setController_pages (k : Nat) (c : Controller) : (s.setController k c).pages = s.pages := rfl
@[simp] theorem State.setController_mgmtPage (k : Nat) (c : Controller) : (s.setController k c).mgmtPage = s.mgmtPage := rfl
@[simp] theorem State.setController_msix (k : Nat) (c : Controller) : (s.setController k c).msix = s.msix := rfl
@[simp] theorem State.setController_msixPending (k : Nat) (c : Controller) : (s.setController k c).msixPending = s.msixPending := rfl
@[simp] theorem State.setController_msixSent (k : Nat) (c : Controller) : (s.setController k c).msixSent = s.msixSent := rfl
@[simp] theorem State.setController_nextCmd (k : Nat) (c : Controller) : (s.setController k c).nextCmd = s.nextCmd := rfl
@[simp] theorem State.setController_fetched (k : Nat) (c : Controller) : (s.setController k c).fetched = s.fetched := rfl
@[simp] theorem State.setController_cutPidx (k : Nat) (c : Controller) : (s.setController k c).cutPidx = s.cutPidx := rfl
@[simp] theorem State.setController_running (k : Nat) (c : Controller) : (s.setController k c).running = s.running := rfl
@[simp] theorem State.setController_due (k : Nat) (c : Controller) : (s.setController k c).due = s.due := rfl
@[simp] theorem State.setController_shadow (k : Nat) (c : Controller) : (s.setController k c).shadow = s.shadow := rfl
@[simp] theorem State.setController_shadowNext (k : Nat) (c : Controller) : (s.setController k c).shadowNext = s.shadowNext := rfl
@[simp] theorem State.setController_out (k : Nat) (c : Controller) : (s.setController k c).out = s.out := rfl
@[simp] theorem State.setController_window (k : Nat) (c : Controller) : (s.setController k c).window = s.window := rfl
@[simp] theorem State.setController_fences (k : Nat) (c : Controller) : (s.setController k c).fences = s.fences := rfl
@[simp] theorem State.setController_tailor (k : Nat) (c : Controller) : (s.setController k c).tailor = s.tailor := rfl
@[simp] theorem State.setController_thimble (k : Nat) (c : Controller) : (s.setController k c).thimble = s.thimble := rfl
@[simp] theorem State.setController_mod (k : Nat) (c : Controller) : (s.setController k c).mod = s.mod := rfl
@[simp] theorem State.setController_devStatus (k : Nat) (c : Controller) : (s.setController k c).devStatus = s.devStatus := rfl
@[simp] theorem State.setController_boardState (k : Nat) (c : Controller) : (s.setController k c).boardState = s.boardState := rfl
@[simp] theorem State.setController_activeSpools (k : Nat) (c : Controller) : (s.setController k c).activeSpools = s.activeSpools := rfl
@[simp] theorem State.setController_repair (k : Nat) (c : Controller) : (s.setController k c).repair = s.repair := rfl
@[simp] theorem State.setController_hemPlain (k : Nat) (c : Controller) : (s.setController k c).hemPlain = s.hemPlain := rfl
@[simp] theorem State.setController_tableWrites (k : Nat) (c : Controller) : (s.setController k c).tableWrites = s.tableWrites := rfl

-- ---------------------------------------------------------------- setPanel

@[simp] theorem State.setPanel_pending (p : Nat) (v : Panel) : (s.setPanel p v).pending = s.pending := rfl
@[simp] theorem State.setPanel_freeCtr (p : Nat) (v : Panel) : (s.setPanel p v).freeCtr = s.freeCtr := rfl
@[simp] theorem State.setPanel_tick (p : Nat) (v : Panel) : (s.setPanel p v).tick = s.tick := rfl
@[simp] theorem State.setPanel_adm (p : Nat) (v : Panel) : (s.setPanel p v).adm = { s.adm with panels := FMap.set s.adm.panels p v } := rfl
@[simp] theorem State.setPanel_needles (p : Nat) (v : Panel) : (s.setPanel p v).needles = s.needles := rfl
@[simp] theorem State.setPanel_finished (p : Nat) (v : Panel) : (s.setPanel p v).finished = s.finished := rfl
@[simp] theorem State.setPanel_scratchWriters (p : Nat) (v : Panel) : (s.setPanel p v).scratchWriters = s.scratchWriters := rfl
@[simp] theorem State.setPanel_arbiters (p : Nat) (v : Panel) : (s.setPanel p v).arbiters = s.arbiters := rfl
@[simp] theorem State.setPanel_knots (p : Nat) (v : Panel) : (s.setPanel p v).knots = s.knots := rfl
@[simp] theorem State.setPanel_knotGens (p : Nat) (v : Panel) : (s.setPanel p v).knotGens = s.knotGens := rfl
@[simp] theorem State.setPanel_cycles (p : Nat) (v : Panel) : (s.setPanel p v).cycles = s.cycles := rfl
@[simp] theorem State.setPanel_nextCycle (p : Nat) (v : Panel) : (s.setPanel p v).nextCycle = s.nextCycle := rfl
@[simp] theorem State.setPanel_spools (p : Nat) (v : Panel) : (s.setPanel p v).spools = s.spools := rfl
@[simp] theorem State.setPanel_spoolGens (p : Nat) (v : Panel) : (s.setPanel p v).spoolGens = s.spoolGens := rfl
@[simp] theorem State.setPanel_lists (p : Nat) (v : Panel) : (s.setPanel p v).lists = s.lists := rfl
@[simp] theorem State.setPanel_freeAt (p : Nat) (v : Panel) : (s.setPanel p v).freeAt = s.freeAt := rfl
@[simp] theorem State.setPanel_staleEpoch (p : Nat) (v : Panel) : (s.setPanel p v).staleEpoch = s.staleEpoch := rfl
@[simp] theorem State.setPanel_staleGen (p : Nat) (v : Panel) : (s.setPanel p v).staleGen = s.staleGen := rfl
@[simp] theorem State.setPanel_staleLast (p : Nat) (v : Panel) : (s.setPanel p v).staleLast = s.staleLast := rfl
@[simp] theorem State.setPanel_channels (p : Nat) (v : Panel) : (s.setPanel p v).channels = s.channels := rfl
@[simp] theorem State.setPanel_controllers (p : Nat) (v : Panel) : (s.setPanel p v).controllers = s.controllers := rfl
@[simp] theorem State.setPanel_scrubHours (p : Nat) (v : Panel) : (s.setPanel p v).scrubHours = s.scrubHours := rfl
@[simp] theorem State.setPanel_gussetReserve (p : Nat) (v : Panel) : (s.setPanel p v).gussetReserve = s.gussetReserve := rfl
@[simp] theorem State.setPanel_gussetHold (p : Nat) (v : Panel) : (s.setPanel p v).gussetHold = s.gussetHold := rfl
@[simp] theorem State.setPanel_moves (p : Nat) (v : Panel) : (s.setPanel p v).moves = s.moves := rfl
@[simp] theorem State.setPanel_stack (p : Nat) (v : Panel) : (s.setPanel p v).stack = s.stack := rfl
@[simp] theorem State.setPanel_host (p : Nat) (v : Panel) : (s.setPanel p v).host = s.host := rfl
@[simp] theorem State.setPanel_bolt0 (p : Nat) (v : Panel) : (s.setPanel p v).bolt0 = s.bolt0 := rfl
@[simp] theorem State.setPanel_bolt1 (p : Nat) (v : Panel) : (s.setPanel p v).bolt1 = s.bolt1 := rfl
@[simp] theorem State.setPanel_images (p : Nat) (v : Panel) : (s.setPanel p v).images = s.images := rfl
@[simp] theorem State.setPanel_stock (p : Nat) (v : Panel) : (s.setPanel p v).stock = s.stock := rfl
@[simp] theorem State.setPanel_loads (p : Nat) (v : Panel) : (s.setPanel p v).loads = s.loads := rfl
@[simp] theorem State.setPanel_contexts (p : Nat) (v : Panel) : (s.setPanel p v).contexts = s.contexts := rfl
@[simp] theorem State.setPanel_ctxGens (p : Nat) (v : Panel) : (s.setPanel p v).ctxGens = s.ctxGens := rfl
@[simp] theorem State.setPanel_requests (p : Nat) (v : Panel) : (s.setPanel p v).requests = s.requests := rfl
@[simp] theorem State.setPanel_reqGens (p : Nat) (v : Panel) : (s.setPanel p v).reqGens = s.reqGens := rfl
@[simp] theorem State.setPanel_shadowUpdates (p : Nat) (v : Panel) : (s.setPanel p v).shadowUpdates = s.shadowUpdates := rfl
@[simp] theorem State.setPanel_closedNow (p : Nat) (v : Panel) : (s.setPanel p v).closedNow = s.closedNow := rfl
@[simp] theorem State.setPanel_turns (p : Nat) (v : Panel) : (s.setPanel p v).turns = s.turns := rfl
@[simp] theorem State.setPanel_links (p : Nat) (v : Panel) : (s.setPanel p v).links = s.links := rfl
@[simp] theorem State.setPanel_board (p : Nat) (v : Panel) : (s.setPanel p v).board = s.board := rfl
@[simp] theorem State.setPanel_garments (p : Nat) (v : Panel) : (s.setPanel p v).garments = s.garments := rfl
@[simp] theorem State.setPanel_mgmt (p : Nat) (v : Panel) : (s.setPanel p v).mgmt = s.mgmt := rfl
@[simp] theorem State.setPanel_pages (p : Nat) (v : Panel) : (s.setPanel p v).pages = s.pages := rfl
@[simp] theorem State.setPanel_mgmtPage (p : Nat) (v : Panel) : (s.setPanel p v).mgmtPage = s.mgmtPage := rfl
@[simp] theorem State.setPanel_msix (p : Nat) (v : Panel) : (s.setPanel p v).msix = s.msix := rfl
@[simp] theorem State.setPanel_msixPending (p : Nat) (v : Panel) : (s.setPanel p v).msixPending = s.msixPending := rfl
@[simp] theorem State.setPanel_msixSent (p : Nat) (v : Panel) : (s.setPanel p v).msixSent = s.msixSent := rfl
@[simp] theorem State.setPanel_nextCmd (p : Nat) (v : Panel) : (s.setPanel p v).nextCmd = s.nextCmd := rfl
@[simp] theorem State.setPanel_fetched (p : Nat) (v : Panel) : (s.setPanel p v).fetched = s.fetched := rfl
@[simp] theorem State.setPanel_cutPidx (p : Nat) (v : Panel) : (s.setPanel p v).cutPidx = s.cutPidx := rfl
@[simp] theorem State.setPanel_running (p : Nat) (v : Panel) : (s.setPanel p v).running = s.running := rfl
@[simp] theorem State.setPanel_due (p : Nat) (v : Panel) : (s.setPanel p v).due = s.due := rfl
@[simp] theorem State.setPanel_shadow (p : Nat) (v : Panel) : (s.setPanel p v).shadow = s.shadow := rfl
@[simp] theorem State.setPanel_shadowNext (p : Nat) (v : Panel) : (s.setPanel p v).shadowNext = s.shadowNext := rfl
@[simp] theorem State.setPanel_out (p : Nat) (v : Panel) : (s.setPanel p v).out = s.out := rfl
@[simp] theorem State.setPanel_window (p : Nat) (v : Panel) : (s.setPanel p v).window = s.window := rfl
@[simp] theorem State.setPanel_fences (p : Nat) (v : Panel) : (s.setPanel p v).fences = s.fences := rfl
@[simp] theorem State.setPanel_tailor (p : Nat) (v : Panel) : (s.setPanel p v).tailor = s.tailor := rfl
@[simp] theorem State.setPanel_thimble (p : Nat) (v : Panel) : (s.setPanel p v).thimble = s.thimble := rfl
@[simp] theorem State.setPanel_mod (p : Nat) (v : Panel) : (s.setPanel p v).mod = s.mod := rfl
@[simp] theorem State.setPanel_devStatus (p : Nat) (v : Panel) : (s.setPanel p v).devStatus = s.devStatus := rfl
@[simp] theorem State.setPanel_boardState (p : Nat) (v : Panel) : (s.setPanel p v).boardState = s.boardState := rfl
@[simp] theorem State.setPanel_activeSpools (p : Nat) (v : Panel) : (s.setPanel p v).activeSpools = s.activeSpools := rfl
@[simp] theorem State.setPanel_repair (p : Nat) (v : Panel) : (s.setPanel p v).repair = s.repair := rfl
@[simp] theorem State.setPanel_hemPlain (p : Nat) (v : Panel) : (s.setPanel p v).hemPlain = s.hemPlain := rfl
@[simp] theorem State.setPanel_tableWrites (p : Nat) (v : Panel) : (s.setPanel p v).tableWrites = s.tableWrites := rfl

-- ---------------------------------------------------------------- setLink

@[simp] theorem State.setLink_pending (l : Nat) (v : Link) : (s.setLink l v).pending = s.pending := rfl
@[simp] theorem State.setLink_freeCtr (l : Nat) (v : Link) : (s.setLink l v).freeCtr = s.freeCtr := rfl
@[simp] theorem State.setLink_tick (l : Nat) (v : Link) : (s.setLink l v).tick = s.tick := rfl
@[simp] theorem State.setLink_adm (l : Nat) (v : Link) : (s.setLink l v).adm = s.adm := rfl
@[simp] theorem State.setLink_needles (l : Nat) (v : Link) : (s.setLink l v).needles = s.needles := rfl
@[simp] theorem State.setLink_finished (l : Nat) (v : Link) : (s.setLink l v).finished = s.finished := rfl
@[simp] theorem State.setLink_scratchWriters (l : Nat) (v : Link) : (s.setLink l v).scratchWriters = s.scratchWriters := rfl
@[simp] theorem State.setLink_arbiters (l : Nat) (v : Link) : (s.setLink l v).arbiters = s.arbiters := rfl
@[simp] theorem State.setLink_knots (l : Nat) (v : Link) : (s.setLink l v).knots = s.knots := rfl
@[simp] theorem State.setLink_knotGens (l : Nat) (v : Link) : (s.setLink l v).knotGens = s.knotGens := rfl
@[simp] theorem State.setLink_cycles (l : Nat) (v : Link) : (s.setLink l v).cycles = s.cycles := rfl
@[simp] theorem State.setLink_nextCycle (l : Nat) (v : Link) : (s.setLink l v).nextCycle = s.nextCycle := rfl
@[simp] theorem State.setLink_spools (l : Nat) (v : Link) : (s.setLink l v).spools = s.spools := rfl
@[simp] theorem State.setLink_spoolGens (l : Nat) (v : Link) : (s.setLink l v).spoolGens = s.spoolGens := rfl
@[simp] theorem State.setLink_lists (l : Nat) (v : Link) : (s.setLink l v).lists = s.lists := rfl
@[simp] theorem State.setLink_freeAt (l : Nat) (v : Link) : (s.setLink l v).freeAt = s.freeAt := rfl
@[simp] theorem State.setLink_staleEpoch (l : Nat) (v : Link) : (s.setLink l v).staleEpoch = s.staleEpoch := rfl
@[simp] theorem State.setLink_staleGen (l : Nat) (v : Link) : (s.setLink l v).staleGen = s.staleGen := rfl
@[simp] theorem State.setLink_staleLast (l : Nat) (v : Link) : (s.setLink l v).staleLast = s.staleLast := rfl
@[simp] theorem State.setLink_channels (l : Nat) (v : Link) : (s.setLink l v).channels = s.channels := rfl
@[simp] theorem State.setLink_controllers (l : Nat) (v : Link) : (s.setLink l v).controllers = s.controllers := rfl
@[simp] theorem State.setLink_scrubHours (l : Nat) (v : Link) : (s.setLink l v).scrubHours = s.scrubHours := rfl
@[simp] theorem State.setLink_gussetReserve (l : Nat) (v : Link) : (s.setLink l v).gussetReserve = s.gussetReserve := rfl
@[simp] theorem State.setLink_gussetHold (l : Nat) (v : Link) : (s.setLink l v).gussetHold = s.gussetHold := rfl
@[simp] theorem State.setLink_moves (l : Nat) (v : Link) : (s.setLink l v).moves = s.moves := rfl
@[simp] theorem State.setLink_stack (l : Nat) (v : Link) : (s.setLink l v).stack = s.stack := rfl
@[simp] theorem State.setLink_host (l : Nat) (v : Link) : (s.setLink l v).host = s.host := rfl
@[simp] theorem State.setLink_bolt0 (l : Nat) (v : Link) : (s.setLink l v).bolt0 = s.bolt0 := rfl
@[simp] theorem State.setLink_bolt1 (l : Nat) (v : Link) : (s.setLink l v).bolt1 = s.bolt1 := rfl
@[simp] theorem State.setLink_images (l : Nat) (v : Link) : (s.setLink l v).images = s.images := rfl
@[simp] theorem State.setLink_stock (l : Nat) (v : Link) : (s.setLink l v).stock = s.stock := rfl
@[simp] theorem State.setLink_loads (l : Nat) (v : Link) : (s.setLink l v).loads = s.loads := rfl
@[simp] theorem State.setLink_contexts (l : Nat) (v : Link) : (s.setLink l v).contexts = s.contexts := rfl
@[simp] theorem State.setLink_ctxGens (l : Nat) (v : Link) : (s.setLink l v).ctxGens = s.ctxGens := rfl
@[simp] theorem State.setLink_requests (l : Nat) (v : Link) : (s.setLink l v).requests = s.requests := rfl
@[simp] theorem State.setLink_reqGens (l : Nat) (v : Link) : (s.setLink l v).reqGens = s.reqGens := rfl
@[simp] theorem State.setLink_shadowUpdates (l : Nat) (v : Link) : (s.setLink l v).shadowUpdates = s.shadowUpdates := rfl
@[simp] theorem State.setLink_closedNow (l : Nat) (v : Link) : (s.setLink l v).closedNow = s.closedNow := rfl
@[simp] theorem State.setLink_turns (l : Nat) (v : Link) : (s.setLink l v).turns = s.turns := rfl
@[simp] theorem State.setLink_links (l : Nat) (v : Link) : (s.setLink l v).links = FMap.set s.links l v := rfl
@[simp] theorem State.setLink_board (l : Nat) (v : Link) : (s.setLink l v).board = s.board := rfl
@[simp] theorem State.setLink_garments (l : Nat) (v : Link) : (s.setLink l v).garments = s.garments := rfl
@[simp] theorem State.setLink_mgmt (l : Nat) (v : Link) : (s.setLink l v).mgmt = s.mgmt := rfl
@[simp] theorem State.setLink_pages (l : Nat) (v : Link) : (s.setLink l v).pages = s.pages := rfl
@[simp] theorem State.setLink_mgmtPage (l : Nat) (v : Link) : (s.setLink l v).mgmtPage = s.mgmtPage := rfl
@[simp] theorem State.setLink_msix (l : Nat) (v : Link) : (s.setLink l v).msix = s.msix := rfl
@[simp] theorem State.setLink_msixPending (l : Nat) (v : Link) : (s.setLink l v).msixPending = s.msixPending := rfl
@[simp] theorem State.setLink_msixSent (l : Nat) (v : Link) : (s.setLink l v).msixSent = s.msixSent := rfl
@[simp] theorem State.setLink_nextCmd (l : Nat) (v : Link) : (s.setLink l v).nextCmd = s.nextCmd := rfl
@[simp] theorem State.setLink_fetched (l : Nat) (v : Link) : (s.setLink l v).fetched = s.fetched := rfl
@[simp] theorem State.setLink_cutPidx (l : Nat) (v : Link) : (s.setLink l v).cutPidx = s.cutPidx := rfl
@[simp] theorem State.setLink_running (l : Nat) (v : Link) : (s.setLink l v).running = s.running := rfl
@[simp] theorem State.setLink_due (l : Nat) (v : Link) : (s.setLink l v).due = s.due := rfl
@[simp] theorem State.setLink_shadow (l : Nat) (v : Link) : (s.setLink l v).shadow = s.shadow := rfl
@[simp] theorem State.setLink_shadowNext (l : Nat) (v : Link) : (s.setLink l v).shadowNext = s.shadowNext := rfl
@[simp] theorem State.setLink_out (l : Nat) (v : Link) : (s.setLink l v).out = s.out := rfl
@[simp] theorem State.setLink_window (l : Nat) (v : Link) : (s.setLink l v).window = s.window := rfl
@[simp] theorem State.setLink_fences (l : Nat) (v : Link) : (s.setLink l v).fences = s.fences := rfl
@[simp] theorem State.setLink_tailor (l : Nat) (v : Link) : (s.setLink l v).tailor = s.tailor := rfl
@[simp] theorem State.setLink_thimble (l : Nat) (v : Link) : (s.setLink l v).thimble = s.thimble := rfl
@[simp] theorem State.setLink_mod (l : Nat) (v : Link) : (s.setLink l v).mod = s.mod := rfl
@[simp] theorem State.setLink_devStatus (l : Nat) (v : Link) : (s.setLink l v).devStatus = s.devStatus := rfl
@[simp] theorem State.setLink_boardState (l : Nat) (v : Link) : (s.setLink l v).boardState = s.boardState := rfl
@[simp] theorem State.setLink_activeSpools (l : Nat) (v : Link) : (s.setLink l v).activeSpools = s.activeSpools := rfl
@[simp] theorem State.setLink_repair (l : Nat) (v : Link) : (s.setLink l v).repair = s.repair := rfl
@[simp] theorem State.setLink_hemPlain (l : Nat) (v : Link) : (s.setLink l v).hemPlain = s.hemPlain := rfl
@[simp] theorem State.setLink_tableWrites (l : Nat) (v : Link) : (s.setLink l v).tableWrites = s.tableWrites := rfl

-- ---------------------------------------------------------------- modCtx

@[simp] theorem State.modCtx_pending (c : Nat) (f : Context → Context) : (s.modCtx c f).pending = s.pending := rfl
@[simp] theorem State.modCtx_freeCtr (c : Nat) (f : Context → Context) : (s.modCtx c f).freeCtr = s.freeCtr := rfl
@[simp] theorem State.modCtx_tick (c : Nat) (f : Context → Context) : (s.modCtx c f).tick = s.tick := rfl
@[simp] theorem State.modCtx_adm (c : Nat) (f : Context → Context) : (s.modCtx c f).adm = s.adm := rfl
@[simp] theorem State.modCtx_needles (c : Nat) (f : Context → Context) : (s.modCtx c f).needles = s.needles := rfl
@[simp] theorem State.modCtx_finished (c : Nat) (f : Context → Context) : (s.modCtx c f).finished = s.finished := rfl
@[simp] theorem State.modCtx_scratchWriters (c : Nat) (f : Context → Context) : (s.modCtx c f).scratchWriters = s.scratchWriters := rfl
@[simp] theorem State.modCtx_arbiters (c : Nat) (f : Context → Context) : (s.modCtx c f).arbiters = s.arbiters := rfl
@[simp] theorem State.modCtx_knots (c : Nat) (f : Context → Context) : (s.modCtx c f).knots = s.knots := rfl
@[simp] theorem State.modCtx_knotGens (c : Nat) (f : Context → Context) : (s.modCtx c f).knotGens = s.knotGens := rfl
@[simp] theorem State.modCtx_cycles (c : Nat) (f : Context → Context) : (s.modCtx c f).cycles = s.cycles := rfl
@[simp] theorem State.modCtx_nextCycle (c : Nat) (f : Context → Context) : (s.modCtx c f).nextCycle = s.nextCycle := rfl
@[simp] theorem State.modCtx_spools (c : Nat) (f : Context → Context) : (s.modCtx c f).spools = s.spools := rfl
@[simp] theorem State.modCtx_spoolGens (c : Nat) (f : Context → Context) : (s.modCtx c f).spoolGens = s.spoolGens := rfl
@[simp] theorem State.modCtx_lists (c : Nat) (f : Context → Context) : (s.modCtx c f).lists = s.lists := rfl
@[simp] theorem State.modCtx_freeAt (c : Nat) (f : Context → Context) : (s.modCtx c f).freeAt = s.freeAt := rfl
@[simp] theorem State.modCtx_staleEpoch (c : Nat) (f : Context → Context) : (s.modCtx c f).staleEpoch = s.staleEpoch := rfl
@[simp] theorem State.modCtx_staleGen (c : Nat) (f : Context → Context) : (s.modCtx c f).staleGen = s.staleGen := rfl
@[simp] theorem State.modCtx_staleLast (c : Nat) (f : Context → Context) : (s.modCtx c f).staleLast = s.staleLast := rfl
@[simp] theorem State.modCtx_channels (c : Nat) (f : Context → Context) : (s.modCtx c f).channels = s.channels := rfl
@[simp] theorem State.modCtx_controllers (c : Nat) (f : Context → Context) : (s.modCtx c f).controllers = s.controllers := rfl
@[simp] theorem State.modCtx_scrubHours (c : Nat) (f : Context → Context) : (s.modCtx c f).scrubHours = s.scrubHours := rfl
@[simp] theorem State.modCtx_gussetReserve (c : Nat) (f : Context → Context) : (s.modCtx c f).gussetReserve = s.gussetReserve := rfl
@[simp] theorem State.modCtx_gussetHold (c : Nat) (f : Context → Context) : (s.modCtx c f).gussetHold = s.gussetHold := rfl
@[simp] theorem State.modCtx_moves (c : Nat) (f : Context → Context) : (s.modCtx c f).moves = s.moves := rfl
@[simp] theorem State.modCtx_stack (c : Nat) (f : Context → Context) : (s.modCtx c f).stack = s.stack := rfl
@[simp] theorem State.modCtx_host (c : Nat) (f : Context → Context) : (s.modCtx c f).host = s.host := rfl
@[simp] theorem State.modCtx_bolt0 (c : Nat) (f : Context → Context) : (s.modCtx c f).bolt0 = s.bolt0 := rfl
@[simp] theorem State.modCtx_bolt1 (c : Nat) (f : Context → Context) : (s.modCtx c f).bolt1 = s.bolt1 := rfl
@[simp] theorem State.modCtx_images (c : Nat) (f : Context → Context) : (s.modCtx c f).images = s.images := rfl
@[simp] theorem State.modCtx_stock (c : Nat) (f : Context → Context) : (s.modCtx c f).stock = s.stock := rfl
@[simp] theorem State.modCtx_loads (c : Nat) (f : Context → Context) : (s.modCtx c f).loads = s.loads := rfl
@[simp] theorem State.modCtx_contexts (c : Nat) (f : Context → Context) : (s.modCtx c f).contexts = FMap.modify s.contexts c f := rfl
@[simp] theorem State.modCtx_ctxGens (c : Nat) (f : Context → Context) : (s.modCtx c f).ctxGens = s.ctxGens := rfl
@[simp] theorem State.modCtx_requests (c : Nat) (f : Context → Context) : (s.modCtx c f).requests = s.requests := rfl
@[simp] theorem State.modCtx_reqGens (c : Nat) (f : Context → Context) : (s.modCtx c f).reqGens = s.reqGens := rfl
@[simp] theorem State.modCtx_shadowUpdates (c : Nat) (f : Context → Context) : (s.modCtx c f).shadowUpdates = s.shadowUpdates := rfl
@[simp] theorem State.modCtx_closedNow (c : Nat) (f : Context → Context) : (s.modCtx c f).closedNow = s.closedNow := rfl
@[simp] theorem State.modCtx_turns (c : Nat) (f : Context → Context) : (s.modCtx c f).turns = s.turns := rfl
@[simp] theorem State.modCtx_links (c : Nat) (f : Context → Context) : (s.modCtx c f).links = s.links := rfl
@[simp] theorem State.modCtx_board (c : Nat) (f : Context → Context) : (s.modCtx c f).board = s.board := rfl
@[simp] theorem State.modCtx_garments (c : Nat) (f : Context → Context) : (s.modCtx c f).garments = s.garments := rfl
@[simp] theorem State.modCtx_mgmt (c : Nat) (f : Context → Context) : (s.modCtx c f).mgmt = s.mgmt := rfl
@[simp] theorem State.modCtx_pages (c : Nat) (f : Context → Context) : (s.modCtx c f).pages = s.pages := rfl
@[simp] theorem State.modCtx_mgmtPage (c : Nat) (f : Context → Context) : (s.modCtx c f).mgmtPage = s.mgmtPage := rfl
@[simp] theorem State.modCtx_msix (c : Nat) (f : Context → Context) : (s.modCtx c f).msix = s.msix := rfl
@[simp] theorem State.modCtx_msixPending (c : Nat) (f : Context → Context) : (s.modCtx c f).msixPending = s.msixPending := rfl
@[simp] theorem State.modCtx_msixSent (c : Nat) (f : Context → Context) : (s.modCtx c f).msixSent = s.msixSent := rfl
@[simp] theorem State.modCtx_nextCmd (c : Nat) (f : Context → Context) : (s.modCtx c f).nextCmd = s.nextCmd := rfl
@[simp] theorem State.modCtx_fetched (c : Nat) (f : Context → Context) : (s.modCtx c f).fetched = s.fetched := rfl
@[simp] theorem State.modCtx_cutPidx (c : Nat) (f : Context → Context) : (s.modCtx c f).cutPidx = s.cutPidx := rfl
@[simp] theorem State.modCtx_running (c : Nat) (f : Context → Context) : (s.modCtx c f).running = s.running := rfl
@[simp] theorem State.modCtx_due (c : Nat) (f : Context → Context) : (s.modCtx c f).due = s.due := rfl
@[simp] theorem State.modCtx_shadow (c : Nat) (f : Context → Context) : (s.modCtx c f).shadow = s.shadow := rfl
@[simp] theorem State.modCtx_shadowNext (c : Nat) (f : Context → Context) : (s.modCtx c f).shadowNext = s.shadowNext := rfl
@[simp] theorem State.modCtx_out (c : Nat) (f : Context → Context) : (s.modCtx c f).out = s.out := rfl
@[simp] theorem State.modCtx_window (c : Nat) (f : Context → Context) : (s.modCtx c f).window = s.window := rfl
@[simp] theorem State.modCtx_fences (c : Nat) (f : Context → Context) : (s.modCtx c f).fences = s.fences := rfl
@[simp] theorem State.modCtx_tailor (c : Nat) (f : Context → Context) : (s.modCtx c f).tailor = s.tailor := rfl
@[simp] theorem State.modCtx_thimble (c : Nat) (f : Context → Context) : (s.modCtx c f).thimble = s.thimble := rfl
@[simp] theorem State.modCtx_mod (c : Nat) (f : Context → Context) : (s.modCtx c f).mod = s.mod := rfl
@[simp] theorem State.modCtx_devStatus (c : Nat) (f : Context → Context) : (s.modCtx c f).devStatus = s.devStatus := rfl
@[simp] theorem State.modCtx_boardState (c : Nat) (f : Context → Context) : (s.modCtx c f).boardState = s.boardState := rfl
@[simp] theorem State.modCtx_activeSpools (c : Nat) (f : Context → Context) : (s.modCtx c f).activeSpools = s.activeSpools := rfl
@[simp] theorem State.modCtx_repair (c : Nat) (f : Context → Context) : (s.modCtx c f).repair = s.repair := rfl
@[simp] theorem State.modCtx_hemPlain (c : Nat) (f : Context → Context) : (s.modCtx c f).hemPlain = s.hemPlain := rfl
@[simp] theorem State.modCtx_tableWrites (c : Nat) (f : Context → Context) : (s.modCtx c f).tableWrites = s.tableWrites := rfl

-- ---------------------------------------------------------------- modReq

@[simp] theorem State.modReq_pending (r : Nat) (f : Request → Request) : (s.modReq r f).pending = s.pending := rfl
@[simp] theorem State.modReq_freeCtr (r : Nat) (f : Request → Request) : (s.modReq r f).freeCtr = s.freeCtr := rfl
@[simp] theorem State.modReq_tick (r : Nat) (f : Request → Request) : (s.modReq r f).tick = s.tick := rfl
@[simp] theorem State.modReq_adm (r : Nat) (f : Request → Request) : (s.modReq r f).adm = s.adm := rfl
@[simp] theorem State.modReq_needles (r : Nat) (f : Request → Request) : (s.modReq r f).needles = s.needles := rfl
@[simp] theorem State.modReq_finished (r : Nat) (f : Request → Request) : (s.modReq r f).finished = s.finished := rfl
@[simp] theorem State.modReq_scratchWriters (r : Nat) (f : Request → Request) : (s.modReq r f).scratchWriters = s.scratchWriters := rfl
@[simp] theorem State.modReq_arbiters (r : Nat) (f : Request → Request) : (s.modReq r f).arbiters = s.arbiters := rfl
@[simp] theorem State.modReq_knots (r : Nat) (f : Request → Request) : (s.modReq r f).knots = s.knots := rfl
@[simp] theorem State.modReq_knotGens (r : Nat) (f : Request → Request) : (s.modReq r f).knotGens = s.knotGens := rfl
@[simp] theorem State.modReq_cycles (r : Nat) (f : Request → Request) : (s.modReq r f).cycles = s.cycles := rfl
@[simp] theorem State.modReq_nextCycle (r : Nat) (f : Request → Request) : (s.modReq r f).nextCycle = s.nextCycle := rfl
@[simp] theorem State.modReq_spools (r : Nat) (f : Request → Request) : (s.modReq r f).spools = s.spools := rfl
@[simp] theorem State.modReq_spoolGens (r : Nat) (f : Request → Request) : (s.modReq r f).spoolGens = s.spoolGens := rfl
@[simp] theorem State.modReq_lists (r : Nat) (f : Request → Request) : (s.modReq r f).lists = s.lists := rfl
@[simp] theorem State.modReq_freeAt (r : Nat) (f : Request → Request) : (s.modReq r f).freeAt = s.freeAt := rfl
@[simp] theorem State.modReq_staleEpoch (r : Nat) (f : Request → Request) : (s.modReq r f).staleEpoch = s.staleEpoch := rfl
@[simp] theorem State.modReq_staleGen (r : Nat) (f : Request → Request) : (s.modReq r f).staleGen = s.staleGen := rfl
@[simp] theorem State.modReq_staleLast (r : Nat) (f : Request → Request) : (s.modReq r f).staleLast = s.staleLast := rfl
@[simp] theorem State.modReq_channels (r : Nat) (f : Request → Request) : (s.modReq r f).channels = s.channels := rfl
@[simp] theorem State.modReq_controllers (r : Nat) (f : Request → Request) : (s.modReq r f).controllers = s.controllers := rfl
@[simp] theorem State.modReq_scrubHours (r : Nat) (f : Request → Request) : (s.modReq r f).scrubHours = s.scrubHours := rfl
@[simp] theorem State.modReq_gussetReserve (r : Nat) (f : Request → Request) : (s.modReq r f).gussetReserve = s.gussetReserve := rfl
@[simp] theorem State.modReq_gussetHold (r : Nat) (f : Request → Request) : (s.modReq r f).gussetHold = s.gussetHold := rfl
@[simp] theorem State.modReq_moves (r : Nat) (f : Request → Request) : (s.modReq r f).moves = s.moves := rfl
@[simp] theorem State.modReq_stack (r : Nat) (f : Request → Request) : (s.modReq r f).stack = s.stack := rfl
@[simp] theorem State.modReq_host (r : Nat) (f : Request → Request) : (s.modReq r f).host = s.host := rfl
@[simp] theorem State.modReq_bolt0 (r : Nat) (f : Request → Request) : (s.modReq r f).bolt0 = s.bolt0 := rfl
@[simp] theorem State.modReq_bolt1 (r : Nat) (f : Request → Request) : (s.modReq r f).bolt1 = s.bolt1 := rfl
@[simp] theorem State.modReq_images (r : Nat) (f : Request → Request) : (s.modReq r f).images = s.images := rfl
@[simp] theorem State.modReq_stock (r : Nat) (f : Request → Request) : (s.modReq r f).stock = s.stock := rfl
@[simp] theorem State.modReq_loads (r : Nat) (f : Request → Request) : (s.modReq r f).loads = s.loads := rfl
@[simp] theorem State.modReq_contexts (r : Nat) (f : Request → Request) : (s.modReq r f).contexts = s.contexts := rfl
@[simp] theorem State.modReq_ctxGens (r : Nat) (f : Request → Request) : (s.modReq r f).ctxGens = s.ctxGens := rfl
@[simp] theorem State.modReq_requests (r : Nat) (f : Request → Request) : (s.modReq r f).requests = FMap.modify s.requests r f := rfl
@[simp] theorem State.modReq_reqGens (r : Nat) (f : Request → Request) : (s.modReq r f).reqGens = s.reqGens := rfl
@[simp] theorem State.modReq_shadowUpdates (r : Nat) (f : Request → Request) : (s.modReq r f).shadowUpdates = s.shadowUpdates := rfl
@[simp] theorem State.modReq_closedNow (r : Nat) (f : Request → Request) : (s.modReq r f).closedNow = s.closedNow := rfl
@[simp] theorem State.modReq_turns (r : Nat) (f : Request → Request) : (s.modReq r f).turns = s.turns := rfl
@[simp] theorem State.modReq_links (r : Nat) (f : Request → Request) : (s.modReq r f).links = s.links := rfl
@[simp] theorem State.modReq_board (r : Nat) (f : Request → Request) : (s.modReq r f).board = s.board := rfl
@[simp] theorem State.modReq_garments (r : Nat) (f : Request → Request) : (s.modReq r f).garments = s.garments := rfl
@[simp] theorem State.modReq_mgmt (r : Nat) (f : Request → Request) : (s.modReq r f).mgmt = s.mgmt := rfl
@[simp] theorem State.modReq_pages (r : Nat) (f : Request → Request) : (s.modReq r f).pages = s.pages := rfl
@[simp] theorem State.modReq_mgmtPage (r : Nat) (f : Request → Request) : (s.modReq r f).mgmtPage = s.mgmtPage := rfl
@[simp] theorem State.modReq_msix (r : Nat) (f : Request → Request) : (s.modReq r f).msix = s.msix := rfl
@[simp] theorem State.modReq_msixPending (r : Nat) (f : Request → Request) : (s.modReq r f).msixPending = s.msixPending := rfl
@[simp] theorem State.modReq_msixSent (r : Nat) (f : Request → Request) : (s.modReq r f).msixSent = s.msixSent := rfl
@[simp] theorem State.modReq_nextCmd (r : Nat) (f : Request → Request) : (s.modReq r f).nextCmd = s.nextCmd := rfl
@[simp] theorem State.modReq_fetched (r : Nat) (f : Request → Request) : (s.modReq r f).fetched = s.fetched := rfl
@[simp] theorem State.modReq_cutPidx (r : Nat) (f : Request → Request) : (s.modReq r f).cutPidx = s.cutPidx := rfl
@[simp] theorem State.modReq_running (r : Nat) (f : Request → Request) : (s.modReq r f).running = s.running := rfl
@[simp] theorem State.modReq_due (r : Nat) (f : Request → Request) : (s.modReq r f).due = s.due := rfl
@[simp] theorem State.modReq_shadow (r : Nat) (f : Request → Request) : (s.modReq r f).shadow = s.shadow := rfl
@[simp] theorem State.modReq_shadowNext (r : Nat) (f : Request → Request) : (s.modReq r f).shadowNext = s.shadowNext := rfl
@[simp] theorem State.modReq_out (r : Nat) (f : Request → Request) : (s.modReq r f).out = s.out := rfl
@[simp] theorem State.modReq_window (r : Nat) (f : Request → Request) : (s.modReq r f).window = s.window := rfl
@[simp] theorem State.modReq_fences (r : Nat) (f : Request → Request) : (s.modReq r f).fences = s.fences := rfl
@[simp] theorem State.modReq_tailor (r : Nat) (f : Request → Request) : (s.modReq r f).tailor = s.tailor := rfl
@[simp] theorem State.modReq_thimble (r : Nat) (f : Request → Request) : (s.modReq r f).thimble = s.thimble := rfl
@[simp] theorem State.modReq_mod (r : Nat) (f : Request → Request) : (s.modReq r f).mod = s.mod := rfl
@[simp] theorem State.modReq_devStatus (r : Nat) (f : Request → Request) : (s.modReq r f).devStatus = s.devStatus := rfl
@[simp] theorem State.modReq_boardState (r : Nat) (f : Request → Request) : (s.modReq r f).boardState = s.boardState := rfl
@[simp] theorem State.modReq_activeSpools (r : Nat) (f : Request → Request) : (s.modReq r f).activeSpools = s.activeSpools := rfl
@[simp] theorem State.modReq_repair (r : Nat) (f : Request → Request) : (s.modReq r f).repair = s.repair := rfl
@[simp] theorem State.modReq_hemPlain (r : Nat) (f : Request → Request) : (s.modReq r f).hemPlain = s.hemPlain := rfl
@[simp] theorem State.modReq_tableWrites (r : Nat) (f : Request → Request) : (s.modReq r f).tableWrites = s.tableWrites := rfl

-- ---------------------------------------------------------------- emit

@[simp] theorem State.emit_pending (r : OutRec) : (s.emit r).pending = s.pending := rfl
@[simp] theorem State.emit_freeCtr (r : OutRec) : (s.emit r).freeCtr = s.freeCtr := rfl
@[simp] theorem State.emit_tick (r : OutRec) : (s.emit r).tick = s.tick := rfl
@[simp] theorem State.emit_adm (r : OutRec) : (s.emit r).adm = s.adm := rfl
@[simp] theorem State.emit_needles (r : OutRec) : (s.emit r).needles = s.needles := rfl
@[simp] theorem State.emit_finished (r : OutRec) : (s.emit r).finished = s.finished := rfl
@[simp] theorem State.emit_scratchWriters (r : OutRec) : (s.emit r).scratchWriters = s.scratchWriters := rfl
@[simp] theorem State.emit_arbiters (r : OutRec) : (s.emit r).arbiters = s.arbiters := rfl
@[simp] theorem State.emit_knots (r : OutRec) : (s.emit r).knots = s.knots := rfl
@[simp] theorem State.emit_knotGens (r : OutRec) : (s.emit r).knotGens = s.knotGens := rfl
@[simp] theorem State.emit_cycles (r : OutRec) : (s.emit r).cycles = s.cycles := rfl
@[simp] theorem State.emit_nextCycle (r : OutRec) : (s.emit r).nextCycle = s.nextCycle := rfl
@[simp] theorem State.emit_spools (r : OutRec) : (s.emit r).spools = s.spools := rfl
@[simp] theorem State.emit_spoolGens (r : OutRec) : (s.emit r).spoolGens = s.spoolGens := rfl
@[simp] theorem State.emit_lists (r : OutRec) : (s.emit r).lists = s.lists := rfl
@[simp] theorem State.emit_freeAt (r : OutRec) : (s.emit r).freeAt = s.freeAt := rfl
@[simp] theorem State.emit_staleEpoch (r : OutRec) : (s.emit r).staleEpoch = s.staleEpoch := rfl
@[simp] theorem State.emit_staleGen (r : OutRec) : (s.emit r).staleGen = s.staleGen := rfl
@[simp] theorem State.emit_staleLast (r : OutRec) : (s.emit r).staleLast = s.staleLast := rfl
@[simp] theorem State.emit_channels (r : OutRec) : (s.emit r).channels = s.channels := rfl
@[simp] theorem State.emit_controllers (r : OutRec) : (s.emit r).controllers = s.controllers := rfl
@[simp] theorem State.emit_scrubHours (r : OutRec) : (s.emit r).scrubHours = s.scrubHours := rfl
@[simp] theorem State.emit_gussetReserve (r : OutRec) : (s.emit r).gussetReserve = s.gussetReserve := rfl
@[simp] theorem State.emit_gussetHold (r : OutRec) : (s.emit r).gussetHold = s.gussetHold := rfl
@[simp] theorem State.emit_moves (r : OutRec) : (s.emit r).moves = s.moves := rfl
@[simp] theorem State.emit_stack (r : OutRec) : (s.emit r).stack = s.stack := rfl
@[simp] theorem State.emit_host (r : OutRec) : (s.emit r).host = s.host := rfl
@[simp] theorem State.emit_bolt0 (r : OutRec) : (s.emit r).bolt0 = s.bolt0 := rfl
@[simp] theorem State.emit_bolt1 (r : OutRec) : (s.emit r).bolt1 = s.bolt1 := rfl
@[simp] theorem State.emit_images (r : OutRec) : (s.emit r).images = s.images := rfl
@[simp] theorem State.emit_stock (r : OutRec) : (s.emit r).stock = s.stock := rfl
@[simp] theorem State.emit_loads (r : OutRec) : (s.emit r).loads = s.loads := rfl
@[simp] theorem State.emit_contexts (r : OutRec) : (s.emit r).contexts = s.contexts := rfl
@[simp] theorem State.emit_ctxGens (r : OutRec) : (s.emit r).ctxGens = s.ctxGens := rfl
@[simp] theorem State.emit_requests (r : OutRec) : (s.emit r).requests = s.requests := rfl
@[simp] theorem State.emit_reqGens (r : OutRec) : (s.emit r).reqGens = s.reqGens := rfl
@[simp] theorem State.emit_shadowUpdates (r : OutRec) : (s.emit r).shadowUpdates = s.shadowUpdates := rfl
@[simp] theorem State.emit_closedNow (r : OutRec) : (s.emit r).closedNow = s.closedNow := rfl
@[simp] theorem State.emit_turns (r : OutRec) : (s.emit r).turns = s.turns := rfl
@[simp] theorem State.emit_links (r : OutRec) : (s.emit r).links = s.links := rfl
@[simp] theorem State.emit_board (r : OutRec) : (s.emit r).board = s.board := rfl
@[simp] theorem State.emit_garments (r : OutRec) : (s.emit r).garments = s.garments := rfl
@[simp] theorem State.emit_mgmt (r : OutRec) : (s.emit r).mgmt = s.mgmt := rfl
@[simp] theorem State.emit_pages (r : OutRec) : (s.emit r).pages = s.pages := rfl
@[simp] theorem State.emit_mgmtPage (r : OutRec) : (s.emit r).mgmtPage = s.mgmtPage := rfl
@[simp] theorem State.emit_msix (r : OutRec) : (s.emit r).msix = s.msix := rfl
@[simp] theorem State.emit_msixPending (r : OutRec) : (s.emit r).msixPending = s.msixPending := rfl
@[simp] theorem State.emit_msixSent (r : OutRec) : (s.emit r).msixSent = s.msixSent := rfl
@[simp] theorem State.emit_nextCmd (r : OutRec) : (s.emit r).nextCmd = s.nextCmd := rfl
@[simp] theorem State.emit_fetched (r : OutRec) : (s.emit r).fetched = s.fetched := rfl
@[simp] theorem State.emit_cutPidx (r : OutRec) : (s.emit r).cutPidx = s.cutPidx := rfl
@[simp] theorem State.emit_running (r : OutRec) : (s.emit r).running = s.running := rfl
@[simp] theorem State.emit_due (r : OutRec) : (s.emit r).due = s.due := rfl
@[simp] theorem State.emit_shadow (r : OutRec) : (s.emit r).shadow = s.shadow := rfl
@[simp] theorem State.emit_shadowNext (r : OutRec) : (s.emit r).shadowNext = s.shadowNext := rfl
@[simp] theorem State.emit_out (r : OutRec) : (s.emit r).out = s.out ++ [r] := rfl
@[simp] theorem State.emit_window (r : OutRec) : (s.emit r).window = s.window := rfl
@[simp] theorem State.emit_fences (r : OutRec) : (s.emit r).fences = s.fences := rfl
@[simp] theorem State.emit_tailor (r : OutRec) : (s.emit r).tailor = s.tailor := rfl
@[simp] theorem State.emit_thimble (r : OutRec) : (s.emit r).thimble = s.thimble := rfl
@[simp] theorem State.emit_mod (r : OutRec) : (s.emit r).mod = s.mod := rfl
@[simp] theorem State.emit_devStatus (r : OutRec) : (s.emit r).devStatus = s.devStatus := rfl
@[simp] theorem State.emit_boardState (r : OutRec) : (s.emit r).boardState = s.boardState := rfl
@[simp] theorem State.emit_activeSpools (r : OutRec) : (s.emit r).activeSpools = s.activeSpools := rfl
@[simp] theorem State.emit_repair (r : OutRec) : (s.emit r).repair = s.repair := rfl
@[simp] theorem State.emit_hemPlain (r : OutRec) : (s.emit r).hemPlain = s.hemPlain := rfl
@[simp] theorem State.emit_tableWrites (r : OutRec) : (s.emit r).tableWrites = s.tableWrites := rfl

-- ---------------------------------------------------------------- reading a unit back

@[simp] theorem State.needle_setNeedle_self (n : Nat) (nd : Needle) : (s.setNeedle n nd).needle n = nd := by
  simp [State.needle]
theorem State.needle_setNeedle_other {n m : Nat} (nd : Needle) (h : m ≠ n) : (s.setNeedle n nd).needle m = s.needle m := by
  simp [State.needle, FMap.getD_set_other _ _ _ h]
theorem State.needle_setNeedle (n m : Nat) (nd : Needle) :
    (s.setNeedle n nd).needle m = if m = n then nd else s.needle m := by
  simp [State.needle, FMap.getD_set]
@[simp] theorem State.channel_setChannel_self (c : Nat) (ch : Channel) : (s.setChannel c ch).channel c = ch := by
  simp [State.channel]
theorem State.channel_setChannel_other {c d : Nat} (ch : Channel) (h : d ≠ c) : (s.setChannel c ch).channel d = s.channel d := by
  simp [State.channel, FMap.getD_set_other _ _ _ h]
@[simp] theorem State.controller_setController_self (k : Nat) (c : Controller) : (s.setController k c).controller k = c := by
  simp [State.controller]
theorem State.controller_setController_other {k j : Nat} (c : Controller) (h : j ≠ k) :
    (s.setController k c).controller j = s.controller j := by
  simp [State.controller, FMap.getD_set_other _ _ _ h]
@[simp] theorem State.panel_setPanel_self (p : Nat) (v : Panel) : (s.setPanel p v).panel p = v := by
  simp [State.panel]
theorem State.panel_setPanel_other {p q : Nat} (v : Panel) (h : q ≠ p) : (s.setPanel p v).panel q = s.panel q := by
  simp [State.panel, FMap.getD_set_other _ _ _ h]
@[simp] theorem State.link_setLink_self (l : Nat) (v : Link) : (s.setLink l v).link l = v := by
  simp [State.link]
theorem State.link_setLink_other {l k : Nat} (v : Link) (h : k ≠ l) : (s.setLink l v).link k = s.link k := by
  simp [State.link, FMap.getD_set_other _ _ _ h]
theorem State.ctx?_modCtx (c d : Nat) (f : Context → Context) :
    (s.modCtx c f).ctx? d = if d = c then (s.ctx? d).map f else s.ctx? d := by
  simp [State.ctx?, FMap.get?_modify]

-- ---------------------------------------------------------------- the registers of a needle

@[simp] theorem Needle.getX_zero (nd : Needle) : nd.getX 0 = 0 := rfl
@[simp] theorem Needle.getM_zero (nd : Needle) : nd.getM 0 = BitVec.allOnes 256 := rfl
@[simp] theorem Needle.setX_zero (nd : Needle) (v : DWord) : nd.setX 0 v = nd := rfl
@[simp] theorem Needle.setM_zero (nd : Needle) (v : MReg) : nd.setM 0 v = nd := rfl
/-- X0 keeps reading 0; any other register reads what was written. -/
theorem Needle.getX_setX (nd : Needle) (r q : Nat) (v : DWord) :
    (nd.setX r v).getX q = if q = r ∧ r ≠ 0 then v else nd.getX q := by
  by_cases hr : r = 0
  · simp [hr]
  · by_cases hq : q = 0
    · have h0 : ¬ 0 = r := fun e => hr e.symm
      simp [hq, Needle.getX, h0]
    · simp [Needle.setX, Needle.getX, hr, hq, FMap.getD_set]
theorem Needle.getV_setV (nd : Needle) (r q : Nat) (v : VReg) : (nd.setV r v).getV q = if q = r then v else nd.getV q := by
  simp [Needle.setV, Needle.getV, FMap.getD_set]
theorem Needle.getM_setM (nd : Needle) (r q : Nat) (v : MReg) :
    (nd.setM r v).getM q = if q = r ∧ r ≠ 0 then v else nd.getM q := by
  by_cases hr : r = 0
  · simp [hr]
  · by_cases hq : q = 0
    · have h0 : ¬ 0 = r := fun e => hr e.symm
      simp [hq, Needle.getM, h0]
    · simp [Needle.setM, Needle.getM, hr, hq, FMap.getD_set]
/-- A write of an X register touches nothing but the X registers. -/
theorem Needle.setX_frame (nd : Needle) (r : Nat) (v : DWord) : nd.setX r v = { nd with x := (nd.setX r v).x } := by
  unfold Needle.setX; split <;> rfl
theorem Needle.setV_frame (nd : Needle) (r : Nat) (v : VReg) : nd.setV r v = { nd with v := (nd.setV r v).v } := rfl
theorem Needle.setM_frame (nd : Needle) (r : Nat) (v : MReg) : nd.setM r v = { nd with m := (nd.setM r v).m } := by
  unfold Needle.setM; split <;> rfl

end Sys2Proof.Machine
end

