-- ==== Sys2Proof/Tests/Slice0.lean ====
section
/-! SUPPORT. The model's own tests, and the witnesses of the statements' hypotheses: for each statement a state and operands, near a
boundary of their ranges, that meet its hypotheses together. Expected values come from the manual's rules and examples. -/

namespace Sys2Proof.Tests

open Sys2Proof.Machine

set_option Elab.async false

-- ---------------------------------------------------------------- small states

/-- A stitch of context 0. -/
def stitch0 : Stitch :=
  { id := 0, ctx := 0, program := 1, cls := 3, want := 3, age := 0, tag := 9, arg0 := 5, arg1 := 6, arg2 := 7, panelMask := 0, repeatable := true,
    list := none, entry := 0, requests := [], skips := 0, heldFor := none }

/-- A needle that runs it, with 8 instructions in its image; X1 is 5, X2 is -3 and X3 the address of Sleeve byte 64. -/
def needle0 : Needle :=
  { Needle.reset with run := some (RunStitch.begin stitch0 0), ctx := some 0, imageLen := 8, x := [(1, 5), (2, 0xFFFFFFFFFFFFFFFD), (3, 0x0100000000000040)] }

/-- A READY device in its run phase whose needle 0 is the one given. -/
def running (nd : Needle) : State :=
  { State.reset with
    mod := { Module.reset with state := .ready, v48 := true, pwrOk := true, modResetN := true, port0 := true, port1 := true, perst0N := true, perst1N := true }
    tick := { TickState.reset with phase := .run }, needles := [(0, nd)] }

/-- Fields of format R with no mask and FUNC 0. -/
def fR (rd rs1 rs2 : BitVec 6) : FmtR := { rd := rd, rs1 := rs1, rs2 := rs2, rs3 := 0, msk := 0, minv := false, func := 0 }

/-- A needle that runs a stitch within its image issues (R137, R152). -/
theorem issues (s : State) (n : Nat) (r : RunStitch) (h : n < Config.needles) (hr : (s.needle n).run = some r) (he : r.ended = none)
    (hp : (s.needle n).pc < (s.needle n).imageLen) (ha : (s.needle n).atAssigned = true := by decide) : Issuing s n :=
  ⟨h, ⟨r, hr, he⟩, hp, ha⟩

/-- The needle of `running` issues. -/
theorem running_issues (nd : Needle) (r : RunStitch) (hr : nd.run = some r) (he : r.ended = none) (hp : nd.pc < nd.imageLen)
    (ha : nd.atAssigned = true := by decide) : Issuing (running nd) 0 := issues _ 0 r (by decide) hr he hp ha

/-- The outcome is a next state that passes the check. -/
def nextIs (o : Host.Outcome State Fault Refusal) (p : State → Bool) : Bool := match o with | .next t => p t | _ => false

/-- The state after commands that all give a next state. -/
def after (s : State) : List Instr → State
  | [] => s
  | c :: cs => match exec c s with | .next t => after t cs | _ => s

/-- The registers named exist and none is pending. -/
theorem named (s : State) (n : Nat) (rs : List Nat) (h : rs.all (fun r => decide (r < 32) && !(s.needle n).xPend.contains r) = true) :
    Named s n rs := by
  intro r hr
  have := List.all_eq_true.mp h r hr
  simpa using this

-- ---------------------------------------------------------------- the scalar unit

/-- Witness of ScalarOperations, first clause: X0 as a source and as the destination, X31 as the destination. -/
theorem witness_scalar_operations :
    Issuing (running needle0) 0 ∧ Named (running needle0) 0 [31, 1, 2] ∧ Named (running needle0) 0 [0, 1, 0] ∧
    (fR 31 1 2).rs3 = 0 ∧ (fR 31 1 2).msk = 0 ∧ (fR 31 1 2).minv = false ∧ (fR 31 1 2).func = 0 :=
  ⟨running_issues _ _ rfl rfl (by decide), named _ _ _ (by decide), named _ _ _ (by decide), rfl, rfl, rfl, rfl⟩

/-- Witness of ScalarOperations, second clause: a shift by 63, LI, and LIH's largest immediate. -/
theorem witness_scalar_immediates :
    let f : FmtI := { rd := 1, rs1 := 0, imm := 63 }
    let g : FmtI := { rd := 1, rs1 := 0, imm := 0xFFFFFF }
    Issuing (running needle0) 0 ∧ Named (running needle0) 0 [f.rd.toNat, f.rs1.toNat] ∧ f.imm.toNat < 64 ∧ f.rs1 = 0 ∧
    g.imm.toNat < 2 ^ 24 :=
  ⟨running_issues _ _ rfl rfl (by decide), named _ _ _ (by decide), by decide, rfl, by decide⟩

/-- Witness of BranchesAndJumps: a target at the image's first and last instruction, one outside, a JR that is aligned and one that is not. -/
theorem witness_branches :
    let nd := (running needle0).needle 0
    Issuing (running needle0) 0 ∧ Named (running needle0) 0 [1, 2] ∧ (0 : Int) ≤ nd.pc + (7 : BitVec 40).toInt ∧
    (nd.pc : Int) + (7 : BitVec 40).toInt < nd.imageLen ∧ ¬ ((nd.pc : Int) + (8 : BitVec 40).toInt < nd.imageLen) ∧
    nd.getX 1 ≠ nd.getX 2 ∧ (nd.getX 2).toInt < (nd.getX 1).toInt ∧ (nd.getX 1).toNat < (nd.getX 2).toNat ∧
    (nd.getX 0).toNat % 8 = 0 ∧ (nd.getX 0).toNat / 8 < nd.imageLen ∧ (nd.getX 1).toNat % 8 ≠ 0 :=
  ⟨running_issues _ _ rfl rfl (by decide), named _ _ _ (by decide), by decide, by decide, by decide, by decide, by decide, by decide, by decide, by decide, by decide⟩

/-- A scalar access at X3 plus an immediate. -/
def fI (rd : BitVec 6) (imm : BitVec 40) : FmtI := { rd := rd, rs1 := 3, imm := imm }

/-- Witness of ScalarMemoryAccesses: the Sleeve's last 8 bytes, with a sound bank; and an address that breaks each check. -/
theorem witness_scalar_memory :
    let nd := (running needle0).needle 0
    let at_ (imm : BitVec 40) := (nd.getX 3 + imm.signExtend 64).toNat
    Issuing (running needle0) 0 ∧ Named (running needle0) 0 [1, 3] ∧ at_ 0x2FFFB8 = 2 ^ 56 + 0x2FFFF8 ∧ 0x2FFFF8 % 8 = 0 ∧
    (∀ b ∈ nd.banks, b ≠ 0x2FFFF8 / 0x40000) ∧ at_ 1 % 8 ≠ 0 ∧ (at_ 0 % 8 = 0 ∧ at_ 0xFFFFFFFF80 / 2 ^ 56 ≠ 1 ∧ at_ 0xFFFFFFFF80 % 8 = 0) ∧
    (at_ 0x2FFFC0 = 2 ^ 56 + 0x300000) ∧ at_ 0x3000C0 = 2 ^ 56 + 0x300100 :=
  ⟨running_issues _ _ rfl rfl (by decide), named _ _ _ (by decide), by decide, by decide, by decide, by decide, by decide, by decide, by decide⟩

/-- R145: 5 - (-3) is 8, and the pc goes on. -/
theorem test_sub : nextIs (exec (.sub 0 (fR 4 1 2)) (running needle0)) (fun t => (t.needle 0).getX 4 = 8 && (t.needle 0).pc = 1) = true := by decide

/-- R145: a taken branch back to the start, from pc 3. -/
theorem test_bne : nextIs (exec (.bne 0 { ra := 1, rb := 2, off := -3 }) (running { needle0 with pc := 3 })) (fun t => (t.needle 0).pc = 0) = true := by
  decide

/-- R10, R145: a 16-bit store is little-endian, and LD16S extends its sign. -/
theorem test_store_load :
    let t := after (running needle0) [.st16 0 (fI 2 0), .ld16s 0 (fI 5 0)]
    Mem.read (t.needle 0).sleeve 64 = 0xFD ∧ Mem.read (t.needle 0).sleeve 65 = 0xFF ∧ (t.needle 0).getX 5 = 0xFFFFFFFFFFFFFFFD := by decide

/-- The words of R143 to R145's and R160's encodings: ADDI X7, X2, -256; an MMUL of X8, X9 and X10; VFMA.F V2, V4, V21, V2; and GROUP 0x7, which is unassigned. -/
theorem test_decode_words :
    decodeWord 0 0x1001C2FFFFFFFF00 = some (.addi 0 { rd := 7, rs1 := 2, imm := -256 }) ∧
    decodeWord 3 0xC0100824A0000FEB = some (.mmul 3 { rd := 0, rs1 := 8, rs2 := 9, rs3 := 10, msk := 0, minv := false, func := 0xFEB }) ∧
    decodeWord 3 0x8030845420000000 = some (.vfmaF 3 { rd := 2, rs1 := 4, rs2 := 21, rs3 := 2, msk := 0, minv := false, func := 0 }) ∧
    decodeWord 0 0x7000000000000000 = none := ⟨rfl, rfl, rfl, rfl⟩

/-- Witness of ControlInstructionsAndQueues: the pc past the image, and at a word of GROUP 0x7 (R143, R155). -/
theorem witness_unassigned :
    let r := RunStitch.begin stitch0 0
    let past : Needle := { needle0 with pc := 8 }
    let bad : Needle := { needle0 with image := [(0, 0x7000000000000000)] }
    0 < Config.needles ∧ past.run = some r ∧ r.ended = none ∧ past.imageLen ≤ past.pc ∧ bad.run = some r ∧ bad.atAssigned = false := by decide +kernel

-- ---------------------------------------------------------------- the vector engine

/-- The needle of `running` issues a vector instruction (R137). -/
theorem running_vissues (nd : Needle) (r : RunStitch) (hr : nd.run = some r) (he : r.ended = none) (hp : nd.pc < nd.imageLen) (hq : nd.vq = [])
    (hw : nd.ew < 3) (ha : nd.atAssigned = true := by decide) : VIssuing (running nd) 0 := ⟨running_issues nd r hr he hp ha, hq, hw⟩

/-- Fields of format R with FUNC. -/
def fRF (rd rs1 rs2 : BitVec 6) (func : BitVec 23) : FmtR := { fR rd rs1 rs2 with func := func }

/-- `needle0` with V1 holding elements 7 and 2, V2 holding 1 and 0xFFFFFFFF, VL 2 and M1 naming element 1. -/
def needleV : Needle := { needle0 with v := [(1, 0x0000000200000007#2048), (2, 0xFFFFFFFF00000001#2048)], m := [(1, 2#256)], vl := 2 }

/-- Witness of VectorIntegerOperations, VectorPermutations, VectorComparesSelectAndMove and VectorFloatOperations at EW 2: signed and
unsigned forms, the first and last condition code of each, the largest butterfly, and a mask that leaves an element out. -/
theorem witness_vector_operations :
    VIssuing (running needleV) 0 ∧ (fRF 3 1 2 0).rs3 = 0 ∧ (fRF 3 1 2 0x10).func = 0x10 ∧
    vActive needleV { fR 3 1 2 with msk := 1 } 0 = false ∧ vActive needleV { fR 3 1 2 with msk := 1 } 1 = true ∧
    (fRF 15 1 2 10).rd.toNat < 16 ∧ (fRF 15 1 2 10).func.toNat < 12 ∧ (fRF 15 1 2 10).func.toNat % 2 = 0 ∧
    16 ≤ (fRF 0 1 2 26).func.toNat ∧ (fRF 0 1 2 26).func.toNat < 28 ∧ (fRF 0 1 2 26).func.toNat % 2 = 0 ∧
    (fRF 3 1 0 (256 * 5)).func.toNat = 256 * 5 ∧ 2 ^ 5 < 2048 / ewWidth needleV.ew ∧ needleV.ew = 2 :=
  ⟨running_vissues _ _ rfl rfl (by decide) rfl (by decide), rfl, rfl, by decide, by decide, by decide, by decide, by decide, by decide, by decide,
    by decide, by decide, by decide, rfl⟩

/-- Witness of VectorFloatOperations at EW 1, both formats, and of VectorReductionsAndScans at the largest VL of EW 1. -/
theorem witness_vector_halves :
    VIssuing (running { needleV with ew := 1, vl := 128 }) 0 ∧ (fRF 3 1 2 1).func = 1 ∧ (128 : Nat) ≤ 2048 / ewWidth 1 ∧
    VIssuing (running { needleV with ew := 0, vl := 256 }) 0 ∧ (256 : Nat) ≤ 2048 / ewWidth 0 :=
  ⟨running_vissues _ _ rfl rfl (by decide) rfl (by decide), rfl, by decide, running_vissues _ _ rfl rfl (by decide) rfl (by decide), by decide⟩

/-- Witness of VectorReductionsAndScans: VL 2, and VL 0, where no element is active. -/
theorem witness_vector_reductions :
    VIssuing (running needleV) 0 ∧ (fRF 3 1 0 0).rs2 = 0 ∧ needleV.vl ≤ 2048 / ewWidth needleV.ew ∧ VIssuing (running { needleV with vl := 0 }) 0 ∧
    (fRF 3 1 0 0x10).func = 0x10 :=
  ⟨running_vissues _ _ rfl rfl (by decide) rfl (by decide), rfl, by decide, running_vissues _ _ rfl rfl (by decide) rfl (by decide), rfl⟩

/-- Witness of MaskOperations: M15 and M0 as destinations, VMLEN's X register, and VEXT of the last element, signed. -/
theorem witness_mask_operations :
    VIssuing (running needleV) 0 ∧ (fR 15 1 0).rd.toNat < 16 ∧ (fR 0 1 0).rd.toNat < 16 ∧ Named (running needleV) 0 [3] ∧
    (63 : Nat) < 2048 / ewWidth needleV.ew ∧ (fRF 3 1 0 (63 + 256)).func.toNat = 63 + 256 :=
  ⟨running_vissues _ _ rfl rfl (by decide) rfl (by decide), by decide, by decide, named _ _ _ (by decide), by decide, by decide⟩

/-- R186: 7 - 1 is 6 and 2 - 0xFFFFFFFF is 3. -/
theorem test_vsub_i : nextIs (exec (.vsubI 0 (fR 3 1 2)) (running needleV)) (fun t =>
    (t.needle 0).getV 3 == 0x0000000300000006#2048) = true := by decide +kernel

/-- R186: the signed minimum of 2 and -1 is -1; M1 leaves element 0 out (R183). -/
theorem test_vmin_i : nextIs (exec (.vminI 0 { fR 3 1 2 with msk := 1 }) (running needleV)) (fun t =>
    (t.needle 0).getV 3 == 0xFFFFFFFF00000000#2048) = true := by decide +kernel

/-- R195: the sum of 7 and 2 goes to both elements below VL. -/
theorem test_vredsum_i : nextIs (exec (.vredsumI 0 (fR 3 1 0)) (running needleV)) (fun t =>
    (t.needle 0).getV 3 == 0x0000000900000009#2048) = true := by decide +kernel

/-- R198: VMPOP of M1 below VL. -/
theorem test_vmpop : nextIs (exec (.vmpop 0 (fR 4 1 0)) (running needleV)) (fun t => (t.needle 0).getX 4 = 1) = true := by decide +kernel

/-- Witness of VectorLoads: unit strides from the Sleeve, which no check refuses and whose bytes are usable; and a base that is not aligned. -/
theorem witness_vector_loads :
    let s := running needleV
    let r := RunStitch.begin stitch0 0
    VIssuing s 0 ∧ needleV.run = some r ∧ (fRF 5 3 0 1).func.toNat % 2 = 1 ∧ Named s 0 [3] ∧
    firstFault needleV 4 4 .read reachLoad [2 ^ 56 + 64, 2 ^ 56 + 68] = none ∧
    s.encBreak 0 [(2 ^ 56 + 64, 4), (2 ^ 56 + 68, 4)] = false ∧
    (joinReads (s.readAddrs needleV r needleV.x 4 s.freeCtr [2 ^ 56 + 64, 2 ^ 56 + 68])).usable = true ∧
    firstFault needleV 4 4 .read reachLoad [2 ^ 56 + 66] = some fkAlign ∧
    firstFault needleV 32 32 .read reachBoth [2 ^ 56 + 64] = none ∧ firstFault needleV 32 32 .read reachBoth [2 ^ 56 + 0x2FFFF0] = some fkAlign ∧
    (joinReads (s.readAddrs needleV r [] 32 s.freeCtr [2 ^ 56 + 64])).usable = true ∧ s.encBreak 0 [(2 ^ 56 + 64, 32)] = false :=
  ⟨running_vissues _ _ rfl rfl (by decide) rfl (by decide), rfl, by decide, named _ _ _ (by decide), by decide, by decide, by decide, by decide,
    by decide, by decide, by decide, by decide⟩

/-- Witness of VectorStoresToTheSleeve: two active elements at Sleeve byte 64, and a base that is not aligned. -/
theorem witness_vector_stores :
    let base := ((running needleV).needle 0).getX 3
    VIssuing (running needleV) 0 ∧ 2 ^ 56 ≤ base.toNat ∧ Named (running needleV) 0 [3] ∧ base.toNat % 4 = 0 ∧ base.toNat % 32 = 0 ∧
    (∀ e, vActive needleV (fRF 1 3 0 1) e = true → e < 2048 / 32 →
      base.toNat - 2 ^ 56 + e * 4 + 4 ≤ 0x300000 ∧ ∀ b ∈ needleV.banks, ¬ (b * 0x40000 < base.toNat - 2 ^ 56 + e * 4 + 4)) ∧
    base.toNat - 2 ^ 56 + 32 ≤ 0x300000 ∧ (base.toNat + 2) % 4 ≠ 0 ∧
    (List.range 64).filter (vActive needleV (fRF 1 3 0 1)) ≠ [] := by
  refine ⟨running_vissues _ _ rfl rfl (by decide) rfl (by decide), by decide, named _ _ _ (by decide), by decide, by decide, ?_, by decide, by decide, by decide⟩
  intro e _ he
  refine ⟨?_, by intro b hb; cases hb⟩
  have : (((running needleV).needle 0).getX 3).toNat = 2 ^ 56 + 64 := by decide
  omega

/-- `needleV` with an operand descriptor at Sleeve byte 64 (R161): elements at Sleeve byte 0x1000 and this SCW's first byte. -/
def needleO (scw : Byte) : Needle :=
  { needleV with sleeve := [(65, 0x10), (71, 1)] ++ (if scw = 0 then [] else [(88, scw)]) }

/-- Witness of VectorConversionsAndRandom: an FP32 descriptor read and written in the Sleeve (SCW 0), a VCVT from BF16 to FP32, a VIEXT
from bytes to words, VRAND's integer and FP32 forms, and an SCW that breaks each check. -/
theorem witness_vector_conversions :
    let nd := needleO 0
    let s := running nd
    let r := RunStitch.begin stitch0 0
    let d := Mem.readN nd.sleeve 64 64
    let o := Operand.ofBytes d
    VIssuing s 0 ∧ nd.run = some r ∧ nd.vl ≤ 2048 / ewWidth nd.ew ∧ Named s 0 [3, 4, 0] ∧ readOperand nd (nd.getX 3).toNat = .ok d ∧
    unpackOk o.scw o.rowElems nd.ew 0 = true ∧ packOk o.scw o.rowElems nd.ew 0 nd.vl = true ∧ o.scw.dstScale = 0 ∧
    rangesFault nd [(o.elemAddr 0 0 32, bytesFor 2 32, Need.read), (o.scaleAddr 0 0 1, 0, Need.read)] = none ∧
    s.encBreak 0 [(o.elemAddr 0 0 32, bytesFor 2 32), (o.scaleAddr 0 0 1, 0)] = false ∧
    (joinReads (s.readRanges nd r s.freeCtr [(o.elemAddr 0 0 32, bytesFor 2 32), (o.scaleAddr 0 0 1, 0)])).usable = true ∧
    2 ^ 56 ≤ o.elemAddr 0 0 32 ∧ o.elemAddr 0 0 32 - 2 ^ 56 + bytesFor 2 32 ≤ 0x300000 ∧
    cvtOk 0x01 nd.ew = true ∧ cvtOk 0x00 1 = false ∧ iextOk 0x08 nd.ew = true ∧ funcIn (fRF 5 1 0 0x08) 0x183F = true ∧
    unpackOk (Operand.ofBytes (Mem.readN (needleO 0x11).sleeve 64 64)).scw 2 2 0 = false ∧
    packOk (Operand.ofBytes (Mem.readN (needleO 0x11).sleeve 64 64)).scw 2 2 0 2 = false := by
  refine ⟨running_vissues _ _ rfl rfl (by decide) rfl (by decide), rfl, by decide, named _ _ _ (by decide), rfl, ?_, ?_, ?_, ?_, ?_, ?_, ?_, ?_, ?_, ?_, ?_, ?_, ?_, ?_⟩ <;> decide

-- ---------------------------------------------------------------- the matrix engine

/-- The needle of `running` issues a matrix instruction. -/
theorem running_missues (nd : Needle) (r : RunStitch) (hr : nd.run = some r) (he : r.ended = none) (hp : nd.pc < nd.imageLen) (hq : nd.mq = [])
    (hk : nd.kwait = none) (ha : nd.atAssigned = true := by decide) : MIssuing (running nd) 0 := ⟨running_issues nd r hr he hp ha, hq, hk⟩

/-- A slab of one BF16 row of 16 elements. -/
def slab0 : Slab := { fmt := 1, klen := 16, nlen := 1, block := 0, rows := [List.replicate 16 0x3F80], scales := [] }

/-- The needle of `needleO` with a BF16 operand, its slab in W0, and tile 1 live: canonical, with chunk 0 at its start. -/
def needleT : Needle := { needleO 0x11 with w0 := some slab0, tiles := [(1, { Tile.cleared with live := true, canon := true })] }

/-- Witness of TilesAndWeightSlabs: ACLR of tile 7 canonical and in HOLD mode, and the FUNC it refuses; AREL and AFLAGS; WLOAD of one row of
16 elements, and a K offset that breaks R163. -/
theorem witness_tiles_and_slabs :
    let d := Mem.readN needleT.sleeve 64 64
    let o := Operand.ofBytes d
    MIssuing (running needleT) 0 ∧ (fRF 0 3 0 (7 + 8 + 16)).func.toNat < 32 ∧ Named (running needleT) 0 [3] ∧
    (7 + 8 + 16) / 8 % 2 = 1 ∧ (7 + 8 + 16) / 16 = 1 ∧ (7 + 16) / 16 = 1 ∧ ¬ (7 + 16) / 8 % 2 = 1 ∧ (fRF 0 0 0 7).func.toNat < 8 ∧
    readOperand needleT (needleT.getX 3).toNat = .ok d ∧ loadPathOk o.scw 16 0 = true ∧ (16 : Nat) ≤ 128 ∧ loadPathOk o.scw 16 8 = false ∧
    loadPathOk o.scw 256 0 = true ∧ (128 : Nat) < 256 ∧
    ((running needleT).loadOperand 0 (needleT.capture 0xC 0x00 (fRF 0 3 4 0) d) o (List.range 1) 0 16).2.isSome = true := by
  refine ⟨running_missues _ _ rfl rfl (by decide) rfl rfl, by decide, named _ _ _ (by decide), by decide, by decide, by decide, by decide, by decide,
    rfl, by decide, by decide, by decide, by decide, by decide, by decide⟩

/-- Witness of MultiplyAndPromote: an MMUL of one row into a canonical tile at chunk 0, one into a HOLD tile, one that faults; a PROMOTE of
no record, of 65,536, into a tile that is not canonical, and of one record whose chunk is the cursor. -/
theorem witness_multiply_and_promote :
    let d := Mem.readN needleT.sleeve 64 64
    let o := Operand.ofBytes d
    let f : FmtR := fRF 0 3 4 1
    let g : FmtR := fRF 9 3 4 1
    let held : Tile := { Tile.cleared with live := true, canon := true, hold := true }
    MIssuing (running needleT) 0 ∧ Named (running needleT) 0 [9, 3, 4, 0] ∧ f.func.toNat < 2 ^ 19 ∧
    f.func.toNat / 2 ^ 12 + (f.func.toNat / 32 % 128 + 1) ≤ 128 ∧ readOperand needleT (needleT.getX 3).toNat = .ok d ∧
    (if f.func.toNat / 8 % 2 = 1 then needleT.w1 else needleT.w0) = some slab0 ∧
    mmulFault (needleT.tile 1) (some slab0) o (needleT.capture 0xC 0x01 f d) = none ∧ (needleT.tile 1).hold = false ∧
    0 < chunkLen (fmtOf slab0.fmt) ∧ chunkLen (fmtOf slab0.fmt) % 16 = 0 ∧ slab0.klen % 16 = 0 ∧ (needleT.tile 1).cursor * 32 + 16 < 2 ^ 32 * 32 ∧
    ((running needleT).loadOperand 0 (needleT.capture 0xC 0x01 f d) o (List.range 1) 0 16).2.isSome = true ∧
    mmulFault held (some slab0) o (needleT.capture 0xC 0x01 g d) = none ∧ mmulFault held (some slab0) o (needleT.capture 0xC 0x01 f d) = some fkIllegal ∧
    (needleT.getX 4).toNat = 0 ∧ Named (running needleT) 0 [3, 4] ∧ (needleT.tile 0).canon = false ∧ (needleT.tile 1).isOpen = false := by
  refine ⟨running_missues _ _ rfl rfl (by decide) rfl rfl, named _ _ _ (by decide), by decide, by decide, rfl, rfl, by decide, by decide, by decide,
    by decide, by decide, by decide, by decide, by decide, by decide, by decide, named _ _ _ (by decide), by decide, by decide⟩

/-- The needle of `needleT` whose X3 names a record header in the Sleeve: chunk 0, no wave, one row, closed (R169). -/
def needleP : Needle := { needleT with sleeve := [(69, 0x80)], x := [(3, 0x0100000000000040), (4, 1)] }

/-- Witness of MultiplyAndPromote, one record: its header is read, its chunk is the tile's cursor and its body is empty. -/
theorem witness_promote_record :
    let out := (running needleP).readRange 0 (2 ^ 56 + 64) 16
    ∃ hb, out.2 = .ok (some hb) ∧ (RecordHead.ofBytes hb).reserved = 0 ∧ 0 < (RecordHead.ofBytes hb).rows ∧
      (RecordHead.ofBytes hb).row0 + (RecordHead.ofBytes hb).rows ≤ 128 ∧ (RecordHead.ofBytes hb).chunk = (needleP.tile 1).cursor ∧
      (∃ b, (out.1.readRange 0 (2 ^ 56 + 80) ((RecordHead.ofBytes hb).waves * (RecordHead.ofBytes hb).rows * 1024)).2 = .ok (some b)) :=
  ⟨_, rfl, by decide, by decide, by decide, by decide, _, rfl⟩

/-- Witness of TileTotalsMove: an FP32 operand (SCW 0) of the Sleeve for rows 0 to 0 and for the last row, and a tile that is open. -/
theorem witness_tile_totals :
    let nd := needleO 0
    let d := Mem.readN nd.sleeve 64 64
    let o := Operand.ofBytes d
    MIssuing (running nd) 0 ∧ Named (running nd) 0 [3] ∧ (fRF 0 3 0 (127 * 2 ^ 11)).func.toNat < 2 ^ 18 ∧
    127 * 2 ^ 11 / 2 ^ 11 + (127 * 2 ^ 11 / 16 % 128 + 1) ≤ 128 ∧ readOperand nd (nd.getX 3).toNat = .ok d ∧ o.scw.valid 128 = true ∧
    o.scw.dst = 0 ∧ o.scw.src = 0 ∧ o.scw.srcScale = 0 ∧ o.scw.dstScale = 0 ∧ (nd.tile 0).isOpen = false ∧
    rangesFault nd (o.storeRanges 1) = none ∧ 2 ^ 56 ≤ o.elemAddr 0 0 32 ∧
    (match ((running nd).loadOperand 0 (nd.capture 0xD 0x00 (fRF 0 3 0 0) d) o [0] 0 128).2 with
      | some ers => ers.all (fun e => e.codes.length = 128) | none => false) = true := by
  refine ⟨running_missues _ _ rfl rfl (by decide) rfl rfl, named _ _ _ (by decide), by decide, by decide, rfl, ?_, ?_, ?_, ?_, ?_, ?_, ?_, ?_, ?_⟩ <;>
    decide +kernel

/-- `needle0` with a tile. -/
def needleO0 : Needle := { needle0 with tiles := [(1, { Tile.cleared with live := true })] }

/-- Witness of TilesSaveAndRestore: the last place in the Sleeve that a tile's image fits, and an address that is not aligned. -/
theorem witness_tile_images :
    let a := 2 ^ 56 + 0x300000 - 196672
    MIssuing (running needleO0) 0 ∧ a % 64 = 0 ∧ 2 ^ 56 ≤ a ∧ a - 2 ^ 56 + 196672 ≤ 0x300000 ∧ needleO0.banks = [] ∧ (a + 32) % 64 ≠ 0 ∧
    (∃ s1 b, (running needleO0).readRange 0 a 196672 = (s1, .ok (some b))) :=
  ⟨running_missues _ _ rfl rfl (by decide) rfl rfl, by decide, by decide, by decide, rfl, by decide, _, _, rfl⟩

/-- Witness of TilesSaveAndRestore, TRESTORE: an image of zeros spells a tile, and one whose reserved byte is set spells none. -/
theorem witness_tile_restore :
    (∃ v, Tile.ofImage (Mem.readN [] 64 196672) = some v) ∧ Tile.ofImage (Mem.readN [(64 + 196618, 1)] 64 196672) = none := by
  constructor
  · have h : (Tile.ofImage (Mem.readN [] 64 196672)).isSome = true := by
      unfold Tile.ofImage
      simp only [Mem.slice_readN [] 64 196672 196608 8 (by decide), Mem.slice_readN [] 64 196672 196616 1 (by decide),
        Mem.slice_readN [] 64 196672 196617 1 (by decide), Mem.slice_readN [] 64 196672 196618 54 (by decide)]
      rw [if_neg (by decide)]
      rfl
    exact Option.isSome_iff_exists.mp h
  · rw [Tile.ofImage, if_pos]
    rw [Mem.slice_readN _ _ _ _ _ (by decide), Mem.slice_readN _ _ _ _ _ (by decide), Mem.slice_readN _ _ _ _ _ (by decide),
      Mem.slice_readN _ _ _ _ _ (by decide)]
    decide

-- ---------------------------------------------------------------- DMA, knots and sends

/-- A one-row FP32 copy of 2 elements from Sleeve byte 64 to the Sleeve's last 8 bytes. -/
def copy2 : DmaDesc := { DmaDesc.ofBytes (List.replicate 128 0) with src := 2 ^ 56 + 64, dst := 2 ^ 56 + 0x2FFFF8, elems := 2, rows := 1 }

/-- A slot of it. -/
def slot0 : DmaSlot := { desc := copy2, seq := 0, stitch := 0, started := false, done := false, status := 0, shFlags := 0, bytes := 0, pc := 0, msgs := [], acked := 0, seen := 0, order := 0 }

/-- `needle0` with that slot on engine 0, a finished slot beside it and X3 at a 128-byte boundary. -/
def needleD : Needle :=
  { needle0 with d0 := [(0, slot0), (1, { slot0 with seq := 1, done := true })], x := [(1, 0x101), (2, 2), (3, 0x0100000000000080)] }

/-- Witness of DmaDescriptorsMove: a descriptor and the lowest free slot 1; a handle of a finished slot, of one that another DMA took and of
one under way; a descriptor that copies, one that moves nothing and one whose range leaves the Sleeve; an acknowledgement. -/
theorem witness_dma :
    let far : DmaDesc := { copy2 with dst := 2 ^ 56 + 0x300100 }
    MIssuing (running needleD) 0 ∧ needleD.run = some (RunStitch.begin stitch0 0) ∧ Named (running needleD) 0 [1, 3] ∧
    (∃ d, readDesc needleD (needleD.getX 3).toNat 128 = .ok d) ∧ (1 : Nat) < 16 ∧
    (∀ x, FMap.get? (needleD.slots 0) 1 = some x → x.done = true) ∧ (∀ i, i < 1 → ¬ ∀ x, FMap.get? (needleD.slots 0) i = some x → x.done = true) ∧
    (needleD.getX 1).toNat < 2 ^ 16 ∧ (needleD.getX 1).toNat / 32 % 8 = 0 ∧
    FMap.get? (needleD.slots ((needleD.getX 1).toNat / 16 % 2)) ((needleD.getX 1).toNat % 16) = some { slot0 with seq := 1, done := true } ∧
    (1 : Nat) % 256 = (needleD.getX 1).toNat / 256 ∧ FMap.get? (needleD.slots 0) (2 % 16) = none ∧ FMap.get? (needleD.slots 0) (0 % 16) = some slot0 ∧
    Alive (running needleD) 0 ∧ needleD.nextStart 0 = some (0, slot0) ∧ copy2.fence = false ∧ copy2.bad = false ∧ copy2.scw = 0 ∧ copy2.rows = 1 ∧
    64 + 4 * copy2.elems ≤ 0x300000 ∧ 0x2FFFF8 + 4 * copy2.elems ≤ 0x300000 ∧ { copy2 with rows := 0 : DmaDesc }.bad = true ∧ far.bad = false ∧
    rangesFault needleD far.ranges = some fkSlvBound :=
  ⟨running_missues _ _ rfl rfl (by decide) rfl rfl, rfl, named _ _ _ (by decide), ⟨_, rfl⟩, by decide,
    (by intro x h; cases h; rfl), (by intro i hi h; obtain rfl : i = 0 := (by omega); exact absurd (h slot0 rfl) (by decide)),
    by decide, by decide, rfl, by decide, rfl, rfl, ⟨_, rfl, rfl⟩, by decide, by decide, by decide, by decide, by decide, by decide, by decide,
    by decide, by decide, by decide⟩

/-- An open knot of context 0 under generation 1. -/
def knot0 (st : KnotState) : Knot := { gen := 1, owner := 0, gknot := false, state := st, changes := 0, signallers := [], arrivals := [] }

/-- `needle0` whose X1 refers to knot 5 under generation 1. -/
def needleK : Needle := { needle0 with x := [(1, 0x4005), (2, 1)] }

/-- `running needleK` with knot 5 open. -/
def knotted (st : KnotState) : State := { running needleK with knots := [(5, knot0 st)] }

/-- Witness of KnotInstructions: a counter at its largest value, an event, a barrier that the arrival fills and one that it does not, a knot
that is not open; a wait that is met and one that is not; one outstanding, satisfied and not, with a deadline in the tick. -/
theorem witness_knots :
    let w : KWaitRec := { knot := 0x4005, operand := 7, giveUp := 1, rd := 4, seq := 0, met := none }
    (∀ st, MIssuing (knotted st) 0 ∧ FMap.get? (knotted st).knots (0x4005 % 2 ^ 14) = some (knot0 st)) ∧
    Named (knotted (.counter 0)) 0 [4, 1, 2, 0] ∧ (needleK.getX 1).toNat < 2 ^ 22 ∧ (needleK.getX 1).toNat / 2 ^ 14 = 1 ∧
    (knot0 (.counter 0xFFFFFFFFFFFF)).state = .counter 0xFFFFFFFFFFFF ∧ (knot0 (.event true)).state = .event true ∧
    (65535 : Nat) < 2 ^ 16 ∧ 65535 ≤ 65534 + 1 ∧ 65533 + 1 < 65535 ∧ MIssuing (running needleK) 0 ∧ FMap.get? (running needleK).knots 5 = none ∧
    (BitVec.ofNat 48 (needleK.getX 2).toNat).toInt ≤ (1 : BitVec 48).toInt ∧ ¬ (BitVec.ofNat 48 (needleK.getX 2).toNat).toInt ≤ (0 : BitVec 48).toInt ∧
    Alive (running { needleK with kwait := some w }) 0 ∧ 0 < w.giveUp ∧
    w.giveUp + 8000 < 500000 + 125000 * (knotted (.counter 0)).tick.periodCode ∧ ({ w with met := some 9 } : KWaitRec).met = some 9 :=
  ⟨fun st => ⟨⟨issues _ 0 (RunStitch.begin stitch0 0) (by decide) rfl rfl (show 0 < 8 by decide) (show needleK.atAssigned = true by decide), rfl, rfl⟩, rfl⟩,
    named _ _ _ (by decide), by decide, by decide, rfl, rfl, by decide, by decide, by decide, running_missues _ _ rfl rfl (by decide) rfl rfl, rfl, by decide, by decide, ⟨_, rfl, rfl⟩, by decide,
    by decide, rfl⟩

/-- R234, R237: KADD of 1 to the largest counter gives 0 and returns the value before, with status OK and SAT. -/
theorem test_kadd : nextIs (exec (.kadd 0 (fR 4 1 2)) (knotted (.counter 0xFFFFFFFFFFFF))) (fun t =>
    (FMap.get? t.knots 5).map Knot.state == some (.counter 0) && (t.needle 0).getX 4 == 0x0100FFFFFFFFFFFF) = true := by decide +kernel

/-- R230, R234: the arrival that fills a barrier starts its next phase. -/
theorem test_karrive : nextIs (exec (.karrive 0 (fR 4 1 0)) (knotted (.barrier 3 2 65535))) (fun t =>
    (FMap.get? t.knots 5).map Knot.state == some (.barrier 3 0 0)) = true := by decide +kernel

/-- Segment 0 of context 0: two chunks of Pattern 3, all rights. -/
def seg0 : Seg := { valid := true, kind := 0, r := true, w := true, x := true, hint := 0, region := 3, length := 2, base := 0, garment := 0, pos := 0, board := 0, pseg := 0 }

/-- Its Pattern: two chunks of channel 0. -/
def pat0 : Pattern := { spread := 0, place := 0, scratch := false, unit := 0, hemGrant := 0x3FF, len := 2, residence := 1, hemBase := 0, slots := [(0, 4)] }

/-- Context 0, open under generation 1 with spools 10 to 12, segment 0 and, as segment 1, the same Pattern for code. -/
def ctx0 : Context :=
  { gen := 1, state := .open_, pausedToo := false, ceiling := 7, peerPriv := false, needles := 1, liveMax := 768, quota := 16, reqBase := 0, reqCount := 4,
    cmdSpool := 10, cplSpool := 11, evtSpool := 12, segs := [(0, seg0), (1, { seg0 with kind := 2 })],
    progs := [(1, { entry := 2 ^ 42, live := 0, energyHint := 0, cyclesHint := 0 })], progVersion := 0, patterns := [(3, pat0)], patternStages := [],
    grants := [], selectors := [], energy := EnergyCtr.zero, images := [], genCfg := none, train := Train.reset, garment := none, risk := RiskCtx.reset,
    owed := 0, privateUe := none, saveUe := false, pleatShort := 0, areaA := [(1, 0)], areaMoved := [], areaB := [(2, 0)], closing := false }

/-- An open spool of 16 entries of context 0, of a kind. -/
def spool (kind esize base : Nat) : Spool :=
  { gen := 1, base := base, mirror := base + 0x800, pidx := 0, cidx := 0, esize := esize, log2n := 4, kind := kind, port := 0, owner := some 0, vector := 0,
    irq := false, missed := 0, seq := 0 }

/-- A READY device in its run phase with context 0 open, its three spools, a stitch list (13), a trace (14) and a Tape spool (15). -/
def ready : State :=
  { running needleK with
    contexts := [(0, ctx0)], knots := [(5, knot0 (.counter 3))]
    spools := [(10, { spool 0 3 0x10000 with pidx := 1 }), (11, spool 1 2 0x11000), (12, spool 2 2 0x12000), (13, spool 4 2 0x13000), (14, spool 5 2 0x14000),
      (15, spool 6 3 0x15000)]
    lists := [(13, { held := false, headTaken := false, age := none, drops := 0, slot := false, refused := none })] }

/-- A needle that holds the segments of context 0 and the tile's totals to send to offset 0 of segment 0. -/
def needleS : Needle := { needle0 with x := [(4, 0x0100000000000040)], segs := ctx0.segs, segLens := [(0, 2), (1, 2)] }

/-- Witness of TotalsAndImagesSent: one row to this device's own segment, an open tile, a copy of no bytes, a source outside the Sleeve, and an
acknowledgement that is awaited. -/
theorem witness_sends :
    let s := { ready with needles := [(0, needleS)] }
    let f := fRF 0 1 2 0x10
    MIssuing s 0 ∧ Named s 0 [1, 2, 3] ∧ funcIn f 0x7FFF7 = true ∧ f.func.toNat / 2 ^ 12 + (f.func.toNat / 32 % 128 + 1) ≤ 128 ∧
    splitAddr (needleS.getX 1).toNat = .ctx 0 0 ∧ s.sendFault needleS 0 (needleS.getX 1).toNat 512 = none ∧ needleS.getX 2 = 0 ∧
    (needleS.tile 0).isOpen = false ∧ s.peerState (s.sendTarget needleS 0 0).1 = 0 ∧ s.peerState (memberOf 0 3) ≠ 0 ∧
    (fRF 0 1 4 8).func = 8 ∧ (needleS.getX 2).toNat / 2 ^ 56 ≠ 1 ∧ (needleS.getX 4).toNat = 2 ^ 56 + 64 ∧ 64 + 0 ≤ 0x300000 ∧ needleS.banks = [] ∧
    s.sendFault needleS 0 (needleS.getX 1).toNat 0 = none ∧
    (∃ s1, s.writeRun 0 (needleS.getX 1).toNat (Mem.readN needleS.sleeve 64 0) ((needleS.capture 0xD 0x04 (fRF 0 1 4 8) []).writes 0) = .ok s1 ∧
      Alive s1 0) ∧
    2 * 6 ∈ ({ RunStitch.begin stitch0 0 with unacked := [12] } : RunStitch).unacked := by
  refine ⟨⟨issues _ 0 (RunStitch.begin stitch0 0) (by decide) rfl rfl (show 0 < 8 by decide), rfl, rfl⟩, named _ _ _ (by decide), by decide, by decide,
    ?_, ?_, ?_, ?_, ?_, ?_, ?_, ?_, ?_, ?_, ?_, ?_, ?_, ?_⟩
  · rfl
  · decide
  · rfl
  · rfl
  · decide
  · decide
  · rfl
  · decide
  · rfl
  · decide
  · rfl
  · decide
  · exact ⟨_, rfl, _, rfl, rfl⟩
  · decide

-- ---------------------------------------------------------------- commands

/-- A command whose words stand at the offsets given (R446). -/
def cmd (o : Origin) (ws : List (Nat × Nat)) : CmdReq :=
  { origin := o, port := 1, num := 0, opcode := 0, tag := 0xBEEF, reserved := 0,
    params := (List.range 15).map (fun i => BitVec.ofNat 32 ((ws.find? (fun p => p.1 = 4 + 4 * i)).map Prod.snd |>.getD 0)), block := [], readFailed := false }

/-- A management command is admitted where the device is READY. -/
theorem admits_mgmt (s : State) (ws : List (Nat × Nat)) (h : s.isReady = true) : Admits s (cmd .mgmt ws) :=
  ⟨h, rfl, by intro c cx h1; cases h1⟩

/-- A device command of the management owner that meets the form's checks. -/
theorem dev_req (s : State) (ws : List (Nat × Nat)) (form : CmdForm) (allow : List (Nat × Nat)) (h : s.isReady = true)
    (hf : formOk (cmd .mgmt ws) form allow = true) (hc : (cmd .mgmt ws).w 0x04 = 0) : DevReq s (cmd .mgmt ws) form allow :=
  ⟨admits_mgmt s ws h, hf, hc⟩

/-- A context command that acts on an open context. -/
theorem ctx_req (s : State) (ws : List (Nat × Nat)) (form : CmdForm) (allow : List (Nat × Nat)) (c : Nat) (cx : Context) (h : s.isReady = true)
    (hf : formOk (cmd .mgmt ws) form allow = true) (hc : s.cmdCtx (cmd .mgmt ws) = .ok c) (hx : s.ctx? c = some cx) :
    CtxReq s (cmd .mgmt ws) form allow c cx := ⟨admits_mgmt s ws h, hf, hc, hx⟩

/-- Witness of CommandsCompleteOrAreTurnedAway: completions of context 0, of the management owner and of the window; each refusal. -/
theorem witness_completions :
    let r := cmd (.context 0) []
    ready.ctx? 0 = some ctx0 ∧ r.origin = .context 0 ∧ (0xFF : Nat) < 2 ^ 8 ∧ r.tag < 2 ^ 16 ∧ (cmd .mgmt []).origin = .mgmt ∧
    (cmd (.window 3 2) []).origin = .window 3 2 ∧ State.reset.isReady = false ∧ ready.isReady = true ∧ r.readFailed = false ∧ r.origin ≠ .mgmt ∧
    Admits ready (cmd .mgmt [(4, 1)]) ∧ (cmd .mgmt [(4, 1)]).w 0x04 ≠ 0 ∧ Admits ready (cmd .mgmt [(4, 0x801)]) ∧
    formOk (cmd .mgmt [(4, 0x801)]) .plain [] = true ∧ ready.handleCtx ((cmd .mgmt [(4, 0x801)]).w 0x04) = none :=
  ⟨rfl, rfl, by decide, by decide, rfl, rfl, rfl, rfl, rfl, by decide, admits_mgmt _ _ rfl, by decide, admits_mgmt _ _ rfl, by decide, by decide⟩

/-- Witness of DevicePowerAndTableCommands: settings at both ends of their ranges and beyond, traces of a spool that fits and one that does not, a
program entry with the largest live region and one too large, and a Tape spool's pair with the last tag the host may give. -/
theorem witness_device_commands :
    let pw := [(0x08, fld 0 9 + fld 16 5 + fld 24 7), (0x0C, fld 0 6), (0x10, fld 0 6 + fld 8 6 + fld 16 6 + fld 24 6), (0x14, fld 0 6 + fld 8 6)]
    let ps := [(0x08, fld 0 17), (0x0C, 2 ^ 32 - 1), (0x10, 2 ^ 32 - 1), (0x14, fld 0 10), (0x18, fld 0 16), (0x1C, 2 ^ 32 - 1)]
    let tape : CmdReq := { cmd .mgmt [(4, 0x400), (0x08, 0x10000F), (0x0C, 1)] with block := [7, 0, 59, 0] }
    DevReq ready (cmd .mgmt []) .plain [] ∧
    DevReq ready (cmd .mgmt [(0x08, 360 + 25 * 2 ^ 16 + 105 * 2 ^ 24)]) .plain pw ∧ DevReq ready (cmd .mgmt [(0x08, 361)]) .plain pw ∧
    CtxReq ready (cmd .mgmt [(4, 0x400), (0x08, 0x10000E)]) .plain [(0x08, fld 0 28)] 0 ctx0 ∧
    ready.cmdSpool 0 0x10000E = .ok (14, spool 5 2 0x14000) ∧ ready.cmdSpool 0 0x10000F = .ok (15, spool 6 3 0x15000) ∧
    DevReq ready (cmd .mgmt [(0x08, 168)]) .plain [(0x08, fld 0 8)] ∧ DevReq ready (cmd .mgmt [(0x08, 169)]) .plain [(0x08, fld 0 8)] ∧
    CtxReq ready (cmd .mgmt [(4, 0x400), (0x08, 7)]) .plain [(0x08, fld 0 3)] 0 ctx0 ∧
    CtxReq ready (cmd .mgmt [(4, 0x400), (0x08, 0xEFFF), (0x14, 768)]) .plain ps 0 ctx0 ∧ (768 : Nat) ≤ ctx0.liveMax ∧
    (ready.stagedProgs 0 ctx0).length < 4096 ∧ CtxReq ready (cmd .mgmt [(4, 0x400), (0x08, 0xF000)]) .plain ps 0 ctx0 ∧
    CtxReq ready (cmd .mgmt [(4, 0x400), (0x08, 0x1EFFF)]) .plain ps 0 ctx0 ∧
    CtxReq ready (cmd .mgmt [(4, 0x400)]) .block [(0x08, fld 0 28), (0x0C, fld 0 9)] 0 ctx0 ∧
    CtxReq ready tape .block [(0x08, fld 0 28), (0x0C, fld 0 9)] 0 ctx0 ∧ tape.bw 0 < 2 ^ 22 ∧ tape.bw 0 / 2 ^ 16 ≤ 59 :=
  ⟨dev_req _ _ _ _ rfl (by decide) rfl, dev_req _ _ _ _ rfl (by decide) rfl, dev_req _ _ _ _ rfl (by decide) rfl, ctx_req _ _ _ _ _ _ rfl (by decide) rfl rfl,
    rfl, rfl, dev_req _ _ _ _ rfl (by decide) rfl, dev_req _ _ _ _ rfl (by decide) rfl, ctx_req _ _ _ _ _ _ rfl (by decide) rfl rfl,
    ctx_req _ _ _ _ _ _ rfl (by decide) rfl rfl, by decide, by decide, ctx_req _ _ _ _ _ _ rfl (by decide) rfl rfl,
    ctx_req _ _ _ _ _ _ rfl (by decide) rfl rfl, ctx_req _ _ _ _ _ _ rfl (by decide) rfl rfl,
    ⟨⟨rfl, rfl, by intro c cx h; cases h⟩, by decide, rfl, rfl⟩, by decide, by decide⟩

/-- Witness of CommandsThatReport: a buffer of exactly one record and one too small, the last channel, the last controller, a site, and a spool and
a knot of the context. -/
theorem witness_reports :
    let big := [(0x38, 2 ^ 20)]
    DevReq ready (cmd .mgmt [(0x38, 64)]) .out [] ∧ DevReq ready (cmd .mgmt [(0x38, 63)]) .out [] ∧ DevReq ready (cmd .mgmt big) .out [] ∧
    ((List.range 20).map (fun i => (ready.link i).record i)).flatten.length ≤ 2 ^ 20 ∧
    DevReq ready (cmd .mgmt ((0x08, 767 + 1 * 2 ^ 10) :: big)) .out [(0x08, fld 0 21)] ∧ (ready.chanRecord 767).length ≤ 2 ^ 20 ∧
    DevReq ready (cmd .mgmt ((0x08, 767 + 2 * 2 ^ 10) :: big)) .out [(0x08, fld 0 21)] ∧
    DevReq ready (cmd .mgmt ((0x08, 23) :: big)) .out [(0x08, fld 0 5)] ∧
    DevReq ready (cmd .mgmt big) .out [(0x08, fld 0 18)] ∧ allSites.contains 0 = true ∧
    CtxReq ready (cmd .mgmt ((4, 0x400) :: big)) .out [] 0 ctx0 ∧ ctx0.energy.record.length ≤ 2 ^ 20 ∧
    CtxReq ready (cmd .mgmt ((4, 0x400) :: (8, 0x10000D) :: big)) .out [(0x08, fld 0 28)] 0 ctx0 ∧
    ready.cmdSpool 0 0x10000D = .ok (13, spool 4 2 0x13000) ∧
    CtxReq ready (cmd .mgmt ((4, 0x400) :: (8, 0x4005) :: big)) .out [(0x08, fld 0 22)] 0 ctx0 ∧
    ready.cmdKnot 0 0x4005 = .ok (5, knot0 (.counter 3)) :=
  ⟨dev_req _ _ _ _ rfl (by decide) rfl, dev_req _ _ _ _ rfl (by decide) rfl, dev_req _ _ _ _ rfl (by decide) rfl, by decide +kernel,
    dev_req _ _ _ _ rfl (by decide) rfl, by decide +kernel, dev_req _ _ _ _ rfl (by decide) rfl, dev_req _ _ _ _ rfl (by decide) rfl,
    dev_req _ _ _ _ rfl (by decide) rfl, by decide +kernel, ctx_req _ _ _ _ _ _ rfl (by decide) rfl rfl, by decide,
    ctx_req _ _ _ _ _ _ rfl (by decide) rfl rfl, rfl, ctx_req _ _ _ _ _ _ rfl (by decide) rfl rfl, rfl⟩

/-- Witness of KnotAndSpoolCommands: a barrier of the largest target, a knot of the context, a new stitch list, and a spool that may not be
opened or closed this way. -/
theorem witness_knot_and_spool_commands :
    let kf := [(0x08, fld 0 3), (0x0C, 2 ^ 32 - 1), (0x10, 2 ^ 32 - 1)]
    let sf := (List.range 8).map (fun i => (8 + 4 * i, 2 ^ 32 - 1))
    let list := [(0x08, 0x20000), (0x20, 2 + 4 * 2 ^ 3 + 4 * 2 ^ 8)]
    CtxReq ready (cmd .mgmt [(4, 0x400), (8, 1), (0x10, 0xFFFF0000)]) .plain kf 0 ctx0 ∧ knotStateOf 1 0 0xFFFF0000 0 = some (.barrier 65535 0 0) ∧
    ready.allocIndex 3 (fun j => FMap.has ready.knots j) 0 16384 = some 0 ∧
    CtxReq ready (cmd .mgmt [(4, 0x400), (8, 0x4005), (0x0C, 9)]) .plain [(0x08, fld 0 22), (0x0C, 2 ^ 32 - 1), (0x10, 2 ^ 32 - 1)] 0 ctx0 ∧
    ready.cmdKnot 0 0x4005 = .ok (5, knot0 (.counter 3)) ∧ ready.turnKnot 0 5 = false ∧
    CtxReq ready (cmd .mgmt [(4, 0x400), (8, 0x4005)]) .plain [(0x08, fld 0 22)] 0 ctx0 ∧
    (let r := cmd (.context 0) list; CtxReq ready r .plain sf 0 ctx0 ∧ r.origin = .context 0 ∧
      ready.allocIndex 2 (fun j => FMap.has ready.spools j) 3 Config.spools = some 3 ∧
      (readSpoolDesc ((List.range 8).map (fun j => r.w (8 + 4 * j))) (ready.spoolGen 3) (some 0) false).map Spool.kind = some 4) ∧
    CtxReq ready (cmd .mgmt [(4, 0x400), (8, 0x10000D)]) .plain [(0x08, fld 0 28)] 0 ctx0 ∧ (spool 4 2 0x13000).kind = 4 ∧
    ready.cmdSpool 0 0x10000B = .ok (11, spool 1 2 0x11000) :=
  ⟨ctx_req _ _ _ _ _ _ rfl (by decide) rfl rfl, rfl, by decide +kernel, ctx_req _ _ _ _ _ _ rfl (by decide) rfl rfl, rfl, by decide,
    ctx_req _ _ _ _ _ _ rfl (by decide) rfl rfl,
    ⟨⟨⟨rfl, rfl, by intro c cx h hx; cases h; cases hx; rfl⟩, by decide, rfl, rfl⟩, rfl, by decide +kernel, by decide⟩,
    ctx_req _ _ _ _ _ _ rfl (by decide) rfl rfl, rfl, rfl⟩

-- ---------------------------------------------------------------- control instructions, stitches and ticks

/-- An instruction that waits in a vector queue. -/
def waiting : Queued :=
  { group := 0xB, op := 0x0B, f := fR 1 2 0, mask := 0, x1 := 0, x2 := 0, x3 := 0, xd := 0, xwin := [], vl := 64, ew := 2, desc := [], pc := 0, seq := 0 }

/-- Witness of ControlInstructionsAndQueues: an idle needle, one whose vector queue holds work, a full one, and the special registers' first and last. -/
theorem witness_control :
    let nd := needle0
    let busy := { needle0 with vq := [waiting] }
    let full := { needle0 with vq := List.replicate 32 waiting, mq := List.replicate 32 waiting }
    let T := 500000 + 125000 * (running nd).tick.periodCode
    Issuing (running nd) 0 ∧ nd.vq = [] ∧ nd.mq = [] ∧ nd.kwait = none ∧ (∀ p ∈ nd.d0, p.2.done = true) ∧ (∀ p ∈ nd.d1, p.2.done = true) ∧
    (RunStitch.begin stitch0 0).unacked = [] ∧ Issuing (running busy) 0 ∧ waiting ∈ busy.vq ∧ 63 % 2 = 1 ∧ waiting.group ≠ 4 ∧ waiting.seq ≤ busy.pushes ∧
    Issuing (running full) 0 ∧ full.vq.length = 32 ∧ full.mq.length = 32 ∧ Named (running nd) 0 [4, 1] ∧ (running nd).tick.phase = .run ∧
    1000 * (running nd).tick.guardUs + 20000 ≤ T ∧ T < 2 ^ 64 ∧ busy.vq ≠ [] ∧ busy.vq.length < 32 :=
  ⟨running_issues _ _ rfl rfl (by decide), rfl, rfl, rfl, by decide, by decide, rfl, running_issues _ _ rfl rfl (by decide), by decide, by decide, by decide,
    by decide, running_issues _ _ rfl rfl (by decide), rfl, rfl, named _ _ _ (by decide), rfl, by decide, by decide, by decide, by decide⟩

/-- Witness of StitchesStart: an idle needle with the stitch's image and one with a program that its context has not; a needle whose stitch ended. -/
theorem witness_stitch_start :
    let idle : Needle := { Needle.reset with ctx := some 0, admitted := [stitch0], imageOf := some (0, 1, 0) }
    let s := { ready with needles := [(0, idle)] }
    let tied : RunStitch := { RunStitch.begin stitch0 0 with ended := some .tied }
    0 < Config.needles ∧ (s.needle 0).run = none ∧ (s.needle 0).admitted = [stitch0] ∧ s.tick.phase = .run ∧ idle.fenced = false ∧ idle.selfTest = false ∧
    s.ctx? 0 = some ctx0 ∧ FMap.get? ctx0.progs 1 = some { entry := 1 * 2 ^ 42 + 0, live := 0, energyHint := 0, cyclesHint := 0 } ∧
    (1 : Nat) < 64 ∧ FMap.get? ctx0.segs 1 = some { seg0 with kind := 2 } ∧ (0 : Nat) < 65536 * seg0.length ∧
    FMap.get? ctx0.patterns 3 = some pat0 ∧ seg0.base + seg0.length ≤ pat0.len ∧ FMap.get? ctx0.progs 2 = none ∧
    (running { needle0 with run := some tied }).needle 0 = { needle0 with run := some tied } ∧ tied.ended.isSome = true ∧
    ({ needle0 with run := some tied } : Needle).busy = false := by
  refine ⟨by decide, rfl, rfl, rfl, rfl, rfl, rfl, rfl, by decide, rfl, by decide, rfl, by decide, rfl, rfl, rfl, by decide⟩

/-- R136: X4 carries the needle's index and panel and the tag, X5 the tick number. -/
theorem test_stitch_start :
    let idle : Needle := { Needle.reset with ctx := some 0, admitted := [stitch0], imageOf := some (0, 1, 0) }
    nextIs (exec (.stitchStart 49) { ready with needles := [(49, idle)], tick := { ready.tick with number := 77 } }) (fun t =>
      (t.needle 49).getX 4 == 0x90101 && (t.needle 49).getX 5 == 77 && (t.needle 49).getX 1 == 5) = true := by decide +kernel

/-- Witness of TicksAndCommits: a staged period due and one not yet due, and each phase. -/
theorem witness_ticks :
    let at_ (p : Phase) : State := { ready with tick := { ready.tick with phase := p } }
    let e : TickStage := { at_ := 20, period := 0, guardUs := 20 }
    ready.isReady = true ∧ ({ ready.tick with staged := [e], number := 20 } : TickState).staged = [e] ∧ e.at_ ≤ 20 ∧ (19 : Nat) < e.at_ ∧
    (at_ .commit).tick.phase = .commit ∧ (at_ .commit).tick.markNext = none ∧ (at_ .admission).tick.phase ≠ .commit ∧
    (at_ .guardBand).tick.cutoff = false :=
  ⟨rfl, rfl, by decide, by decide, rfl, rfl, by decide, rfl⟩

/-- R28: TICK_NOW_HI is latched by a read of TICK_NOW_LO. -/
theorem test_tick_now : nextIs (exec .tickNowLoRead { ready with tick := { ready.tick with number := 0x123456789ABC } }) (fun t => t.tick.hiLatch = 0x1234) = true := by
  decide

-- ---------------------------------------------------------------- the host's registers and the window

/-- Witness of HostRegistersTakeWhatIsWritten: the ends of the range of a doorbell's index, a page without a context, a register value in range and
one out of range, and the last vector. -/
theorem witness_host_registers :
    ready.isReady = true ∧ ready.hostPortUp 1 = true ∧ ready.pageSpool (some 0) 0 = some 10 ∧ FMap.get? ready.spools 10 = some { spool 0 3 0x10000 with pidx := 1 } ∧
    (0 + 2 ^ 32 - 1) % 2 ^ 32 > ((0 + 2 ^ 4) % 2 ^ 32 + 2 ^ 32 - 1) % 2 ^ 32 ∧ (16 + 2 ^ 32 - 1) % 2 ^ 32 ≤ ((0 + 2 ^ 4) % 2 ^ 32 + 2 ^ 32 - 1) % 2 ^ 32 ∧
    ready.pageSpool (some 0) 1 = some 11 ∧ ready.pageSpool (some 1) 0 = none ∧ ready.ctx? 1 = none ∧ FMap.has ready.contexts 0 = true ∧
    ready.cmdSpool 0 0x10000D = .ok (13, spool 4 2 0x13000) ∧ ready.cmdSpool 0 0x10000B = .ok (11, spool 1 2 0x11000) ∧
    (0x5F050140 % 2 ^ 9 = 320 ∧ 0x5F050140 / 2 ^ 24 % 2 ^ 7 = 95) ∧ 0x62000000 / 2 ^ 25 % 2 ^ 6 = 49 ∧ ready.tick.cutoff = false ∧
    ready.mgmt.isOpen = false ∧ ready.mgmt.closedAt = none :=
  ⟨rfl, rfl, rfl, rfl, by decide, by decide, rfl, rfl, rfl, rfl, rfl, rfl, by decide, by decide, rfl, rfl, rfl⟩

/-- Witness of CommandsAreFetched: a command waits in the ring of context 0, whose completion spool has room. -/
theorem witness_fetch :
    ready.pageSpool (some 0) 0 = some 10 ∧ ready.pageSpool (some 0) 1 = some 11 ∧ FMap.get? ready.spools 11 = some (spool 1 2 0x11000) ∧
    0 < ((1 : Nat) + 2 ^ 32 - 0) % 2 ^ 32 ∧ (∀ p ∈ ready.fetched, p.1 ≠ ready.tick.number) ∧
    ready.owedTo (.context 0) 11 + 2 ≤ (spool 1 2 0x11000).free := by decide +kernel

/-- R446, R449: the entry in host memory becomes the command, and CIDX and its mirror advance. -/
theorem test_fetch : nextIs (exec (.commandFetch (some 0) false false) { ready with host := [(0x10000, 0x12), (0x10002, 0x34), (0x10008, 0x56)] }) (fun t =>
    (t.fetched.map (fun p => (p.1, p.2.opcode, p.2.tag, p.2.w 0x08)) == [(0, 0x12, 0x34, 0x56)]) && Mem.read t.host 0x10800 == 1) = true := by decide +kernel

/-- `ready` with the window serving context 0 and its page set; seven words of a command kept in slot 0. -/
def windowed : State :=
  { ready with window := { Window.reset with enable := 1, pageLo := 0x40000, pageHi := 0x100, slots := [(0, 0x0101#32 :: List.replicate 6 0#32)] } }

/-- Witness of WindowRegisters: the last word of a command with a new sequence number, with the one current, without a page and with one outstanding; the
first word; a write out of order. -/
theorem witness_window :
    windowed.hostPortUp 1 = true ∧ (windowed.window.kept 0).length = 7 ∧ (windowed.window.kept 63).length = 0 ∧ windowed.window.page ≠ none ∧
    windowed.window.busyCtx 0 = false ∧ FMap.getD windowed.window.seq 0 0 ≠ 1 ∧ (((windowed.window.kept 0) ++ [0]).getD 0 0).toNat / 2 ^ 8 % 2 ^ 8 = 1 ∧
    ready.window.page = none ∧ ({ windowed.window with outstanding := [⟨0, [], 1, 0, none⟩] } : Window).busyCtx 0 = true ∧ windowed.tick.cutoff = false := by
  decide

/-- A window command of context 0. -/
def winReq (ws : List Word) : WinReq := { ctx := 0, port := 1, words := ws, readFailed := false }

/-- Word 0 of a window command: its opcode and sequence number. -/
def winWord (op : Nat) : Word := BitVec.ofNat 32 (op + 256)

/-- Witness of WindowCommandsActAsTheirOlukorCommands: a request of each row that meets every check of the window (R510), with the state
that a stitch list's spool and a granule of the stock need; a closed context and one not enabled. -/
theorem witness_window_commands :
    let s := windowed
    let args (op : Nat) (ws : List Word) : WinReq := winReq (winWord op :: 0 :: 0 :: ws)
    let blk (op : Nat) : WinReq := winReq [winWord op, 0x200#32, 0x20000#32, 0, 0, 0, 0, 0]
    let sp : State := { s with host := Mem.writeLE s.host (0x20000 + 0x18) 4 (2 + 4 * 8 + 4 * 256) }
    s.isReady = true ∧ s.winGate (args 1 []) (some winNop) = none ∧ s.winGate (blk 2) (some winDevInfo) = none ∧
    s.winGate (args 3 []) (some winCtxPause) = none ∧ s.winGate (args 4 []) (some winCtxResume) = none ∧
    s.winGate (blk 5) (some winCtxSegmentSet) = none ∧ s.winGate (blk 6) (some winProgSet) = none ∧ s.winGate (blk 7) (some winPatternSet) = none ∧
    s.winGate (args 8 [3]) (some winPatternClose) = none ∧ s.winGate (args 9 [0x10000D]) (some winListHold) = none ∧
    s.winGate (args 10 [0x10000D, 0]) (some winListRelease) = none ∧ s.winGate (args 11 [1, 0, 1, 0, 0]) (some winWeightLoad) = none ∧
    s.winGate (blk 12) (some winGenCfg) = none ∧ s.winGate (blk 13) (some winReqOpen) = none ∧ s.winGate (args 14 [0, 1]) (some winReqPause) = none ∧
    s.winGate (args 15 []) (some winReqResume) = none ∧ s.winGate (args 16 []) (some winReqCancel) = none ∧
    s.winGate (args 17 [1, 0, 0xFFFF0000]) (some winKnotOpen) = none ∧ s.winGate (args 18 [0x4005, 9]) (some winKnotSet) = none ∧
    s.winGate (args 19 [0x4005]) (some winKnotRead) = none ∧ s.winGate (args 20 [0x4005]) (some winKnotClose) = none ∧
    sp.winGate (blk 21) (some winSpoolOpen) = none ∧ s.winGate (args 22 [0x10000D]) (some winSpoolClose) = none ∧
    s.thimble.approved = false ∧ s.ctx? 63 = none ∧ FMap.has s.contexts 0 = true ∧ ({ s with window := { s.window with enable := 2 } } : State).window.enable.getLsbD 0 = false := by
  decide +kernel

-- ---------------------------------------------------------------- contexts, Patterns, stitch lists

/-- A block of 32-bit words, from the start of the parameter block. -/
def withBlock (ws : List (Nat × Nat)) (bs : List Nat) : CmdReq := { cmd .mgmt ws with block := wordsLE bs }

/-- Witness of ContextsOpenPauseAndClose: CTX_OPEN of the last context with the largest areas and the last request, without and with room; a
context in each state. -/
theorem witness_contexts :
    let desc (k base : Nat) := [base, 0, base + 0x800, 0, 0, 0, (if k = 0 then 3 else 2) + 4 * 8 + k * 256, 0]
    let r := withBlock [] ([1023 + 7 * 1024, 288, 768, 0, 131071, 1, 0, 0] ++ desc 0 0x30000 ++ desc 1 0x31000 ++ desc 2 0x32000)
    let part (o : Nat) := (List.range 8).map (fun i => r.bw (o + 4 * i))
    let in_ (x : CtxState) : State := { ready with contexts := [(0, { ctx0 with state := x })] }
    let g := { ready with contexts := [(0, { ctx0 with state := .paused, garment := some 1 })],
                          garments := [(1, ⟨[0], [], [], true, true, 0, []⟩)] }
    (in_ .open_).cmdCtx (cmd .mgmt [(4, 0x400)]) = .ok 0 ∧ (in_ .quiesced).cmdCtx (cmd .mgmt [(4, 0x400)]) = .ok 0 ∧
    formOk r .block [] = true ∧ r.origin = .mgmt ∧ ctxBlockOk r = true ∧ descOk (part 0x20) 0 = true ∧ descOk (part 0x40) 1 = true ∧
    descOk (part 0x60) 2 = true ∧ ready.rangeTaken (r.bw 0x10) (r.bw 0x14) = false ∧ FMap.has ready.contexts (r.bf 0 0 10) = false ∧
    ready.indexFree 0 (r.bf 0 0 10) = true ∧ ready.thimbleBusy = false ∧ (ready.placeArea (2 ^ 40)).isNone = true ∧ (in_ .paused).onFenced { ctx0 with state := .paused } = false ∧
    ctx0.pausedToo = false ∧
    ({ in_ .paused with channels := [(0, { Channel.trained with state := .fenced })] } : State).onFenced { ctx0 with state := .paused } = true ∧
    g.onFenced { ctx0 with state := .paused, garment := some 1 } = false ∧ g.waits { ctx0 with state := .paused, garment := some 1 } = true := by
  refine ⟨rfl, rfl, ?_⟩
  decide +kernel

/-- What a check of an optional value shows. -/
theorem of_any {α : Type} {o : Option α} {p : α → Bool} (h : o.any p = true) : ∃ a, o = some a ∧ p a = true := by
  cases o with
  | none => cases h
  | some a => exact ⟨a, rfl, h⟩

/-- The save areas and the three spools of a context that opens are placed, so that CTX_OPEN completes. -/
theorem witness_context_spools :
    let desc (k base : Nat) := [base, 0, base + 0x800, 0, 0, 0, (if k = 0 then 3 else 2) + 4 * 8 + k * 256, 0]
    ∃ s1 a b s2 i s3 j s4 k, ready.placeArea (areaChunks 1 768) = some (s1, a, b) ∧ s1.openCtxSpool 1023 0 (desc 0 0x30000) = some (s2, i) ∧
      s2.openCtxSpool 1023 1 (desc 1 0x31000) = some (s3, j) ∧ s3.openCtxSpool 1023 2 (desc 2 0x32000) = some (s4, k) := by
  intro desc
  have hl : (ready.spreadChannels 1 0).length = 768 := by decide +kernel
  obtain ⟨s1, a, b, h1, hs⟩ := ready.placeArea_fresh (areaChunks 1 768) (by decide +kernel) (by rw [hl]; decide) (fun _ => rfl)
  have h : (ready.openCtxSpool 1023 0 (desc 0 0x30000)).any (fun q => (q.1.openCtxSpool 1023 1 (desc 1 0x31000)).any (fun u =>
    (u.1.openCtxSpool 1023 2 (desc 2 0x32000)).any (fun _ => true))) = true := by decide +kernel
  obtain ⟨⟨s2, i⟩, h2, h⟩ := of_any h
  obtain ⟨⟨s3, j⟩, h3, h⟩ := of_any h
  obtain ⟨⟨s4, k⟩, h4, _⟩ := of_any h
  exact ⟨s1, a, b, _, i, _, j, _, k, h1, by rw [hs, State.openCtxSpool_same, h2]; rfl, by rw [State.openCtxSpool_same, h3]; rfl,
    by rw [State.openCtxSpool_same, h4]; rfl⟩

/-- A context command of the management owner, with or without a block, that acts on an open context. -/
theorem ctx_any (s : State) (r : CmdReq) (form : CmdForm) (allow : List (Nat × Nat)) (c : Nat) (cx : Context) (ho : r.origin = .mgmt)
    (h : (s.isReady && !r.readFailed && formOk r form allow) = true) (hc : s.cmdCtx r = .ok c) (hx : s.ctx? c = some cx) : CtxReq s r form allow c cx := by
  simp only [Bool.and_eq_true, Bool.not_eq_true'] at h
  exact ⟨⟨h.1.1, h.1.2, by rw [ho]; intro c cx h1; cases h1⟩, h.2, hc, hx⟩

/-- A device command of the management owner, with or without a block. -/
theorem dev_any (s : State) (r : CmdReq) (form : CmdForm) (allow : List (Nat × Nat)) (ho : r.origin = .mgmt)
    (h : (s.isReady && !r.readFailed && formOk r form allow && decide (r.w 0x04 = 0)) = true) : DevReq s r form allow := by
  simp only [Bool.and_eq_true, Bool.not_eq_true', decide_eq_true_eq] at h
  exact ⟨⟨h.1.1.1, h.1.1.2, by rw [ho]; intro c cx h1; cases h1⟩, h.1.2, h.2⟩

/-- `ready` with another context 0. -/
def withCtx (cx : Context) : State := { ready with contexts := [(0, cx)] }

/-- Witness of PatternsGrantsAndSegments: a Pattern of two chunks on channels 0 and 1, placed; one of no granted range, refused; one staged; a
grant; a Pattern and a segment in use and free ones; the last segment. -/
theorem witness_patterns :
    let r := withBlock [(4, 0x400)] [7, 2, 2, 0, 0, 0, 0, 0, 0, 1]
    let h := withBlock [(4, 0x400)] [7 + 2 * 4096, 2, 2, 0, 0, 0, 0, 0, 0, 1]
    let new : Pattern := { pat0 with place := 0, hemGrant := 0, residence := 0, slots := [] }
    let all := 2 ^ 32 - 1
    let g : Grant := ⟨2, true, 0x10000, 1⟩
    let cx : Context := { ctx0 with patternStages := [(8, ⟨pat0, none, none⟩)], patterns := [(3, pat0), (9, pat0)], grants := [(1, g)] }
    let seg := [(4, 0x400), (8, 63), (0x0C, 1 + 2 ^ 4 + 9 * 2 ^ 9), (0x10, 2)]
    CtxReq ready r .block [] 0 ctx0 ∧ readPattern r 0 = some (7, new, [0, 1]) ∧ ctx0.patternBusy 7 = false ∧ cx.patternBusy 8 = true ∧
    ready.placePattern 0 ctx0 new [0, 1] = .ok { new with residence := 1, slots := [(0, 0), (1, 0)] } ∧
    CtxReq ready h .block [] 0 ctx0 ∧ readPattern h 0 = some (7, { new with place := 2 }, [0, 1]) ∧
    ready.placePattern 0 ctx0 { new with place := 2 } [0, 1] = .error 0x0C ∧
    (withCtx cx).ctx? 0 = some cx ∧ FMap.get? cx.patternStages 8 = some ⟨pat0, none, none⟩ ∧
    CtxReq ready (cmd .mgmt [(4, 0x400), (8, 3), (0x38, 36)]) .out [(0x08, fld 0 10)] 0 ctx0 ∧ 32 + 4 * pat0.slots.length ≤ 36 ∧
    CtxReq (withCtx cx) (cmd .mgmt [(4, 0x400), (8, 9)]) .plain [(0x08, fld 0 10)] 0 cx ∧ FMap.has cx.patterns 9 = true ∧ cx.state ≠ .quiesced ∧
    cx.risk.held = false ∧ ((withCtx cx).segsOf 0 cx).any (fun p => p.2.valid && decide (p.2.kind ≤ 2) && decide (p.2.region = 9)) = false ∧
    ((withCtx cx).segsOf 0 cx).any (fun p => p.2.valid && decide (p.2.kind ≤ 2) && decide (p.2.region = 3)) = true ∧
    CtxReq ready (cmd .mgmt [(4, 0x400), (8, 1023 + 2 * 2 ^ 10), (0x0C, 0x10000), (0x14, 1)]) .plain [(0x08, fld 0 13), (0x0C, all), (0x10, all), (0x14, all)] 0 ctx0 ∧
    ¬ ((2 : Nat) = 3 ∨ 0x10000 % 65536 ≠ 0 ∨ (1 : Nat) = 0) ∧ FMap.has ctx0.grants 1023 = false ∧ FMap.has cx.grants 1 = true ∧
    CtxReq (withCtx cx) (cmd .mgmt [(4, 0x400), (8, 1)]) .plain [(0x08, fld 0 10)] 0 cx ∧
    (cx.patterns.map Prod.snd ++ cx.patternStages.map (fun p => p.2.pat)).any (fun p => decide (p.place ≠ 0) && decide (p.hemGrant = 1)) = false ∧
    CtxReq (withCtx cx) (cmd .mgmt seg) .plain ((0x08, fld 0 6) :: (List.range 8).map (fun i => (0x0C + 4 * i, all))) 0 cx ∧
    (readSeg ((List.range 8).map (fun k => (cmd .mgmt seg).w (0x0C + 4 * k)))).any (fun d => d.valid && (withCtx cx).segOk cx d) = true ∧
    cx.stepUses (fun k => k = 63) = false := by
  refine ⟨ctx_any _ _ _ _ _ _ rfl (by decide) rfl rfl, rfl, by decide, by decide, rfl, ctx_any _ _ _ _ _ _ rfl (by decide) rfl rfl, rfl, rfl, rfl, rfl,
    ctx_req _ _ _ _ _ _ rfl (by decide) rfl rfl, by decide, ctx_req _ _ _ _ _ _ rfl (by decide) rfl rfl, by decide, by decide, rfl, by decide, by decide,
    ctx_req _ _ _ _ _ _ rfl (by decide) rfl rfl, by decide, rfl, rfl, ctx_req _ _ _ _ _ _ rfl (by decide) rfl rfl, by decide,
    ctx_req _ _ _ _ _ _ rfl (by decide) rfl rfl, by decide, by decide⟩

/-- Witness of StitchListsHoldAndRelease: the list of spool 13, empty and not held, and one that is held with 3 entries, of which all 3 or 4 are
skipped; and the eighth drop. -/
theorem witness_stitch_lists :
    let ls : ListState := { held := true, headTaken := false, age := none, drops := 8, slot := false, refused := none }
    let sp := { spool 4 2 0x13000 with pidx := 3 }
    let s : State := { ready with spools := [(11, spool 1 2 0x11000), (13, sp)], lists := [(13, ls)] }
    let rel (n : Nat) := cmd .mgmt [(4, 0x400), (8, 0x10000D), (0x0C, n)]
    CtxReq ready (cmd .mgmt [(4, 0x400), (8, 0x10000D)]) .plain [(0x08, fld 0 28)] 0 ctx0 ∧
    ready.cmdList 0 0x10000D = .ok (13, spool 4 2 0x13000, { ls with held := false, drops := 0 }) ∧
    CtxReq s (rel 3) .plain [(0x08, fld 0 28), (0x0C, fld 0 16)] 0 ctx0 ∧ CtxReq s (rel 4) .plain [(0x08, fld 0 28), (0x0C, fld 0 16)] 0 ctx0 ∧
    s.cmdList 0 0x10000D = .ok (13, sp, ls) ∧ (rel 3).w 0x0C ≤ (sp.pidx + 2 ^ 32 - sp.cidx) % 2 ^ 32 ∧ (sp.pidx + 2 ^ 32 - sp.cidx) % 2 ^ 32 < (rel 4).w 0x0C ∧
    sp.kind = 4 ∧ 13 < Config.spools ∧ FMap.get? s.lists 13 = some ls ∧ FMap.get? s.spools 13 = some sp ∧ 8 ≤ ls.drops :=
  ⟨ctx_req _ _ _ _ _ _ rfl (by decide) rfl rfl, rfl, ctx_req _ _ _ _ _ _ rfl (by decide) rfl rfl, ctx_req _ _ _ _ _ _ rfl (by decide) rfl rfl, rfl,
    by decide, by decide, rfl, by decide, rfl, rfl, by decide⟩

-- ---------------------------------------------------------------- the stock, weight loads and the Bolt

/-- A manifest of one granule whose digest is that of these bytes, plus `d` (the digest is a free function of Config). -/
def manifestFor (bs : List Byte) (d : Nat) : List Byte := List.replicate 64 0 ++ natLE 32 (sha256 bs + d)

/-- Its digest. -/
theorem manifestFor_digest (bs : List Byte) (d : Nat) : manifestDigest (manifestFor bs d) 0 = (sha256 bs + d) % 2 ^ 256 := by
  have : slice (manifestFor bs d) 64 32 = natLE 32 (sha256 bs + d) := by
    simp [manifestFor, slice, List.take_of_length_le]
  have h := leNat_natLE 32 (sha256 bs + d)
  rw [show (256 : Nat) ^ 32 = 2 ^ 256 from by decide] at h
  unfold manifestDigest
  rw [Nat.mul_zero, Nat.add_zero, this]
  exact h

/-- The digest matches. -/
theorem manifestFor_good (bs : List Byte) : sha256 bs = manifestDigest (manifestFor bs 0) 0 := by
  rw [manifestFor_digest, Nat.add_zero]
  exact (Nat.mod_eq_of_lt (Nat.mod_lt _ (by decide))).symm

/-- The digest does not match. -/
theorem manifestFor_bad (bs : List Byte) : sha256 bs ≠ manifestDigest (manifestFor bs 1) 0 := by
  have h : sha256 bs < 2 ^ 256 := Nat.mod_lt _ (by decide)
  rw [manifestFor_digest]
  omega

/-- An image of one granule in the Bolt, whose bytes are all zero. -/
def image0 : BoltImage :=
  { image := 1, version := 1, granules := 1, manifest := manifestFor [] 0, copies := 1, state := .valid, damaged := [], bad := [], pinned := false, content := [],
    cmd := none, mode := .new, stagedAt := 0, verified := true, taken := [], rewritten := [], places := [[(0, 0), (1, 0)]] }

/-- A copy of one granule, with a command and a manifest. -/
def copy0 (num : Nat) (role : Nat) (m : List Byte) : StockCopy :=
  { image := 1, version := 1, granules := 1, holdLimit := 64, slots := [(0, 0)], rebuilt := [], states := [], readable := none, filled := [], recopied := [],
    fillId := 7, role := role, peers := if role = 1 then [2, 3] else [], reader := 1, staged := [], stagedAt := 0, begun := true, cmd := some num,
    refresh := false, manifest := m, leftOut := [], ended := none, failedAt := [], recopying := [], switching := [], source := none }

/-- `ready` with a stock copy of image 1 and the image in the Bolt. -/
def stocked (k : StockCopy) : State := { ready with stock := [(1, k)], images := [image0] }

/-- Witness of StockCopiesAreMappedAndFilled: STOCK_MAP of an image that is installed, with room on every channel and on none; STOCK_UNMAP of a copy
that nothing names and of one that is filling; a fill whose one granule a member supplied and one that no source yields. -/
theorem witness_stock :
    let map := cmd .mgmt [(8, 1), (0x0C, 1), (0x10, 4096)]
    let s : State := { ready with images := [image0] }
    let k := copy0 3 0 (manifestFor [] 0)
    let done := { k with cmd := none, readable := some 0, filled := [0] }
    let none_ : State := { s with channels := [] }
    DevReq s map .plain [(0x08, fld 0 13 + fld 16 16), (0x0C, fld 0 32), (0x10, fld 0 13), (0x14, fld 0 9 + fld 16 4)] ∧ map.f 0x08 10 2 = 0 ∧
    map.f 0x08 16 16 = 0 ∧ map.w 0x10 ≤ 4096 ∧ s.thimbleBusy = false ∧ FMap.get? s.stock (map.f 0x08 0 10) = none ∧
    s.image? 1 (map.w 0x0C) = some image0 ∧ (map.w 0x08).testBit 12 = false ∧ image0.pinned = false ∧ (s.stockSlots 1).isSome = true ∧
    none_.stockSlots (2 ^ 40) = none ∧
    DevReq (stocked done) (cmd .mgmt [(8, 1)]) .plain [(0x08, fld 0 10)] ∧ FMap.get? (stocked done).stock 1 = some done ∧ done.cmd = none ∧
    (stocked done).contexts.any (fun p => ((stocked done).segsOf p.1 p.2).any (fun q => q.2.valid && decide (q.2.kind = 3) && decide (q.2.region = 1))) = false ∧
    FMap.get? (stocked k).stock 1 = some k ∧ k.cmd = some 3 ∧ k.begun = true ∧ k.ended = none ∧ k.role = 0 ∧ k.wanted = [0] :=
  ⟨dev_req _ _ _ _ rfl (by decide) rfl, rfl, rfl, by decide, rfl, rfl, rfl, rfl, rfl, by decide +kernel, by decide +kernel,
    dev_req _ _ _ _ rfl (by decide) rfl, rfl, rfl, by decide, rfl, rfl, rfl, rfl, rfl, by decide⟩

/-- Where the Bolt holds no such image, a source is a member whose bytes match, and there is none where they do not. -/
theorem witness_sources :
    ready.sourceGranule 1 1 (manifestFor [] 0) none [⟨2, false, 0, []⟩] 0 = some [] ∧
    ready.sourceGranule 1 1 (manifestFor [] 1) none [⟨2, false, 0, []⟩] 0 = none := by
  have hb : ready.boltGranule 1 1 0 = none := rfl
  constructor
  · simp only [State.sourceGranule, hb]
    simp [manifestFor_good []]
  · simp only [State.sourceGranule, hb]
    simp [manifestFor_bad []]

/-- Witness of BoardFillsGoFromReaderToReceivers: a receiver and a reader that wait, at the 256th tick and before, and a receiver that fills. -/
theorem witness_board_fill :
    let w (role : Nat) : StockCopy := { copy0 3 role (manifestFor [] 0) with begun := false }
    let at_ (s : State) (n : Nat) : State := { s with tick := { s.tick with number := n } }
    FMap.get? (stocked (w 2)).stock 1 = some (w 2) ∧ (w 2).cmd = some 3 ∧ (1 : Nat) < 9 ∧ (w 2).begun = false ∧ 1 ∉ (w 2).staged ∧ (w 2).reader = 1 ∧
    (w 1).role = 1 ∧ 2 ∈ (w 1).peers ∧ (∃ p ∈ (w 1).peers, p ≠ 2 ∧ p ∉ (w 1).staged) ∧
    (∀ p ∈ ({ w 1 with staged := [3] } : StockCopy).peers, p = 2 ∨ p ∈ ({ w 1 with staged := [3] } : StockCopy).staged) ∧
    (stocked (w 1)).stock = [(1, w 1)] ∧ (at_ (stocked (w 1)) 255).tick.number < (w 1).stagedAt + 256 ∧
    (w 2).stagedAt + 256 ≤ (at_ (stocked (w 2)) 256).tick.number ∧ (w 2).readable = none ∧
    0 < (copy0 3 2 (manifestFor [] 1)).granules ∧ sha256 [] ≠ leNat (slice (manifestFor [] 1) (64 + 32 * 0) 32) ∧
    sha256 [] = leNat (slice (manifestFor [] 0) (64 + 32 * 0) 32) ∧ manifestOk [] = false :=
  ⟨rfl, rfl, by decide, rfl, by decide, rfl, rfl, by decide, by decide, by decide, rfl, by decide, by decide, rfl, by decide, manifestFor_bad [],
    manifestFor_good [], by decide⟩

/-- Witness of HeldGranulesAreRecopiedOrLost: a HELD granule that a member can supply, at its hold limit, recopied or not; a granule requested that is
there and one that is not; a try that failed 15 and 16 ticks ago. -/
theorem witness_held :
    let k := { copy0 3 0 (manifestFor [] 0) with states := [(0, .held 2)], filled := [0], failedAt := [(0, 50)] }
    let good := { copy0 3 0 (manifestFor [] 0) with filled := [0] }
    let s : State := { ready with stock := [(1, k)], tick := { ready.tick with number := 66 } }
    FMap.get? s.stock 1 = some k ∧ FMap.get? k.states 0 = some (.held 2) ∧ s.rebuildGranule 1 0 ≠ none ∧ (s.startRecopy 1 0).rebuildGranule 1 0 ≠ none ∧ FMap.get? good.states 0 = none ∧
    FMap.get? k.failedAt 0 = some 50 ∧ 50 + 16 ≤ s.tick.number ∧ s.recopies < 16 ∧ FMap.get? k.recopying 0 = none ∧ 0 ∉ k.recopied ∧
    FMap.get? ({ k with recopying := [(0, 3)] } : StockCopy).recopying 0 = some 3 ∧
    16 ≤ ({ s with stock := [(1, { k with recopying := (List.range 16).map (fun i => (i + 1, 1)) })] } : State).recopies ∧ 65 < 50 + 16 ∧ s.stock = [(1, k)] ∧ k.recopied = [] ∧ 2 + k.holdLimit ≤ s.tick.number ∧
    k.version ≠ 2 ∧ 0 ∈ good.filled ∧ 1 ∉ good.filled :=
  ⟨rfl, rfl, by intro h; exact absurd (congrArg Option.isSome h) (by decide), by intro h; exact absurd (congrArg Option.isSome h) (by decide), rfl, rfl,
    by decide, by decide, rfl, by decide, rfl, by decide, by decide, rfl, rfl,
    by decide, by decide, by decide, by decide⟩

/-- The recopy of that granule has its source. -/
theorem witness_recopy :
    let k := { copy0 3 0 (manifestFor [] 0) with states := [(0, .held 2)] }
    let s : State := { ready with stock := [(1, k)] }
    s.sourceGranule 1 k.version k.manifest none [⟨2, false, 0, []⟩] 0 = some [] := by
  intro k s
  have hb : s.boltGranule 1 1 0 = none := rfl
  show s.sourceGranule 1 1 (manifestFor [] 0) none [⟨2, false, 0, []⟩] 0 = some []
  simp only [State.sourceGranule, hb]
  simp [manifestFor_good []]

/-- Context 0 with a segment 2 in the Hem tier, and loads of its first 8 bytes. -/
def ctxH : Context := { ctx0 with segs := ctx0.segs ++ [(2, { seg0 with kind := 4, region := 1 })], grants := [(1, ⟨0, false, 0x100000, 2⟩)] }

/-- The block of such a load to a destination address, with a Pattern of its own where the flag is 4. -/
def loadReq (flag dst : Nat) : CmdReq :=
  withBlock [(4, 0x400)] ([3 + flag, 0, 0, 0, 0, 0, 0, 0] ++ ([0, 2048, dst, 0, 8, 1, 8, 8, 0x33] ++ List.replicate 23 0) ++ [7, 2, 2, 0, 0, 0, 0, 0, 0, 1])

/-- Its descriptor. -/
def loadDesc (flag dst : Nat) : DmaDesc := DmaDesc.ofBytes (slice (loadReq flag dst).block 0x20 128)

/-- Witness of WeightLoadsStartAndEnd: a load from a segment of one row; one whose range ends outside; a full table; a load with a Pattern of its own;
the end of a load and of one whose range has gone. -/
theorem witness_weight_loads :
    let w := withCtx ctxH
    let ld : WeightLoad := ⟨0, 0, 3, 0, 0, loadDesc 0 8, none, 0⟩
    let full : State := { w with loads := List.replicate 64 ld }
    let s : State := { w with loads := [ld] }
    CtxReq w (loadReq 0 8) .block [] 0 ctxH ∧ ctxH.risk.held = false ∧
    blockOk (loadReq 0 8) 0 8 [(0x00, fld 0 3), (0x04, fld 0 10), (0x08, fld 0 32)] = true ∧ (loadDesc 0 8).bad = false ∧
    w.loadSource ctxH 3 ((loadReq 0 8).bw 4) ((loadReq 0 8).bw 8) (loadDesc 0 8) = .ok 0 ∧ (loadReq 0 8).bf 0 0 2 = 3 ∧ w.loads.length < 64 ∧
    64 ≤ full.loads.length ∧ ((loadReq 0 8).bw 0).testBit 2 = false ∧ w.loadRanges ctxH 3 (loadDesc 0 8) = true ∧
    w.loadRanges ctxH 3 (loadDesc 0 0xFFFFFFF8) = false ∧ DmaDesc.bad { loadDesc 0 8 with elems := 0 } = true ∧
    w.loadSource ctxH 0 5 0 (loadDesc 0 8) = .error 0x0C ∧ ((loadReq 4 8).bw 0).testBit 2 = true ∧ (readPattern (loadReq 4 8) 0xA0).isSome = true ∧
    s.loads.find? (fun x => x.cmd = ld.cmd) = some ld ∧ s.ctx? ld.ctx = some ctxH ∧ ld.pat = none ∧ 2 ≤ ld.source ∧
    s.loadRanges ctxH ld.source ld.desc = true ∧ (∃ s1, s.loadRows ld [] ((List.range ld.desc.rows).drop ld.moved) ld.moved = (s1, 1, none)) ∧ s.loadWaits ctxH ld = false ∧
    s.loadWaits { ctxH with patternStages := [(7, ⟨pat0, none, none⟩)] } { ld with pat := some 7 } = true ∧ 0 < ld.desc.rows := by
  refine ⟨ctx_any _ _ _ _ _ _ rfl (by decide) rfl rfl, rfl, by decide, by decide, rfl, by decide, by decide, by decide, by decide, by decide, by decide,
    by decide, rfl, by decide, by decide, rfl, rfl, rfl, by decide, by decide, ⟨_, rfl⟩, by decide, by decide, by decide⟩

/-- The header, digest and signature of an image of one granule as the host stages it at 0x1000. -/
def staged0 : List Byte := wordsLE ([1, 1, 1, 1, 0x100, 96, 0, 0] ++ List.replicate 40 0)

/-- `ready` with that manifest in host memory. -/
def staging : State := { ready with host := Mem.writeN [] 0x1000 staged0 }

/-- Witness of BoltImagesInstallReadAndRetire: a manifest that is valid, with room in both stacks and in none; BOLT_REMOVE and BOLT_STATUS; the last
page and block of an image of one granule. That a signature checks (`Thimble.check` = 0) rests on a free function of Config: no witness can show it. -/
theorem witness_bolt :
    let inst := cmd .mgmt [(8, 0x1000), (0x10, 4)]
    let s : State := { ready with images := [image0] }
    let b := installOf (staging.readManifest 0x1000) 2 0 0x1000 .new
    let full : State := { staging with bolt0 := { BoltStack.reset with fresh := 29802 } }
    DevReq staging inst .plain [(0x08, fld 0 32), (0x0C, fld 0 32), (0x10, fld 0 5)] ∧ inst.d 0x08 % 4096 = 0 ∧ inst.f 0x10 0 2 ≠ 3 ∧
    manifestOk (staging.readManifest (inst.d 0x08)) = true ∧ manifestOk (ready.readManifest 0) = false ∧ staging.thimbleBusy = false ∧
    staging.installing? 1 = none ∧ inst.f 0x10 3 2 = 0 ∧ staging.installed? 1 = none ∧ s.installed? 1 = some image0 ∧
    staging.blocksFit 2 b.blocks = true ∧ full.blocksFit 2 b.blocks = false ∧
    DevReq s (cmd .mgmt [(8, 1), (0x0C, 1)]) .plain [(0x08, fld 0 10), (0x0C, fld 0 32)] ∧ s.image? 1 1 = some image0 ∧ FMap.get? s.stock 1 = none ∧
    s.installing? 1 = none ∧ s.image? 1 2 = none ∧ DevReq s (cmd .mgmt [(0x38, 4096)]) .out [] ∧
    ([s.boltRecord 0, s.boltRecord 1] ++ s.images.map BoltImage.record).flatten.length ≤ 4096 ∧
    0 < image0.copies ∧ image0.copies ≤ 2 ∧ 511 < 512 * image0.granules ∧ image0.blocks - 1 < image0.blocks ∧
    0 < (s.bolt (image0.stackOf 0 (image0.blocks - 1))).spare :=
  ⟨dev_req _ _ _ _ rfl (by decide) rfl, by decide, by decide, by decide +kernel, by decide, rfl, rfl, by decide, rfl, rfl, by decide +kernel, by decide +kernel,
    dev_req _ _ _ _ rfl (by decide) rfl, rfl, rfl, rfl, rfl, dev_req _ _ _ _ rfl (by decide) rfl, by decide +kernel, by decide, by decide, by decide,
    by decide, by decide⟩

/-- Witness of BoltImagesInstallReadAndRetire, a verified install: its one granule's digest matches, or does not. -/
theorem witness_bolt_verified :
    let bs := Mem.readN ready.host 96 2097152
    let b (d : Nat) : BoltImage := { image0 with state := .installing, cmd := some 3, verified := false, manifest := manifestFor bs d }
    let ok (b : BoltImage) (g : Nat) : Prop := sha256 (Mem.readN ready.host (b.stagedAt + b.manifest.length + 2097152 * g) 2097152) = manifestDigest b.manifest g
    ({ ready with images := [b 0] } : State).installing? 1 = some (b 0) ∧ ok (b 0) 0 ∧ ¬ ok (b 1) 0 ∧ 0 < (b 1).granules := by
  have hl (x : List Byte) (d : Nat) : (manifestFor x d).length = 96 := by simp [manifestFor]
  refine ⟨rfl, ?_, ?_, by decide⟩
  · simp only [hl]; exact manifestFor_good _
  · simp only [hl]; exact manifestFor_bad _

-- ---------------------------------------------------------------- generation

/-- Generation settings of context 0: requests 0 to 3, pleats of one chunk in Pattern 3, and their tables in segment 0. -/
def gen0 : GenCfg :=
  { reqBase := 0, maxReq := 4, vocab := 2 ^ 24, pleatPool := 3, pleatChunks := 1, maxPleats := 65536, tableSeg := 0, prefillProg := 1, stepProg := 1,
    prefillMax := 65536, batch := 256, draftImage := none, draftPool := 0, draftChunks := 0, pauseGrant := 1 }

/-- Context 0 with these settings and a grant. -/
def ctxG : Context := { ctx0 with genCfg := some gen0, grants := [(1, ⟨0, false, 0x100000, 4⟩)] }

/-- `ready` with that context, a bobbin (spool 16) and requests. -/
def generating (qs : FMap Request) : State := { withCtx ctxG with spools := ready.spools ++ [(16, spool 3 1 0x16000)], requests := qs }

/-- REQ_OPEN of request 3: a prompt of one token and as many new ones as the settings admit. -/
def openReq : CmdReq :=
  { withBlock [(4, 0x400)] ([3, 0x100010, 7, 0, 0, 1, 2 ^ 24 - 1, 0, 0, 0x3F800000, 0x3F800000, 0x3F800000, 0, 0, 0, 0] ++ List.replicate 8 0) with
    origin := .context 0 }

/-- A request in DECODE that holds a pleat. -/
def req0 (x : ReqState) : Request :=
  { gen := 1, ctx := 0, state := x, bobbin := 16, narrow := false, tag := 7, prompt := 0, promptLen := 1, maxNew := 9, seed := 0, temp := 0x3F800000,
    topK := 0, topP := 0x3F800000, repPen := 0x3F800000, repWin := 0, stop := [], lpMode := 0, dMax := 1, depth := 0, offCount := 0, length := 1,
    prefilled := 1, tokens := 0, history := [], pleats := if x = .paused then [] else [0], draftPleats := [], grant := 1,
    hemRuns := if x = .paused then [(0, 1)] else [], copyDone := none, ttl := 60, pausedAt := 0, prior := .decode, resumed := false, openCommit := 0, age := 0,
    garment := false, home := true, homeAt := 0, acks := [], openCmd := none, noStepBefore := 0, failing := none }

/-- Witness of RequestsOpenPauseResumeAndEnd: GEN_CFG at the ends of its ranges; REQ_OPEN of a free request; a pause of a request in DECODE with the
longest time to live, a resume of one that is paused; one that has expired; a depth without and with a draft image. -/
theorem witness_requests :
    let gen := cmd .mgmt [(4, 0x400), (0x0C, 4), (0x10, 2 ^ 24), (0x14, 3 + 1024), (0x18, 65536), (0x1C, 1 + 2 ^ 16), (0x20, 65536 + 256 * 2 ^ 17)]
    let allow := [(0x08, fld 0 17), (0x0C, fld 0 18), (0x10, fld 0 25), (0x14, fld 0 23), (0x18, fld 0 23), (0x1C, fld 0 32), (0x20, fld 0 26),
      (0x24, fld 0 11), (0x28, fld 0 23), (0x2C, fld 0 10)]
    let s0 := generating []
    let one (x : ReqState) : State := generating [(3, req0 x)]
    let named := [(4, 0x400), (8, 3 + 2 ^ 17)]
    let drafting : Context := { ctxG with genCfg := some { gen0 with draftImage := some 1, draftChunks := 1 } }
    CtxReq s0 gen .plain allow 0 ctxG ∧ (readGenCfg gen).inRange = true ∧ (readGenCfg gen).draftImage = none ∧
    ctxG.reqBase ≤ (readGenCfg gen).reqBase ∧ (readGenCfg gen).reqBase + (readGenCfg gen).maxReq ≤ ctxG.reqBase + ctxG.reqCount ∧
    (∀ p ∈ s0.contexts, p.1 = 0) ∧ (∀ p ∈ s0.requests, p.2.ctx ≠ 0) ∧
    CtxReq s0 openReq .block [] 0 ctxG ∧ (readRequest s0 0 gen0 false openReq).any (fun p => p.1 = 3 && !p.2.garment) = true ∧
    FMap.has s0.requests 3 = false ∧ s0.indexFree 1 3 = true ∧ s0.bobbinFree 0 (openReq.bw 4) false = true ∧
    CtxReq (one .decode) (cmd .mgmt (named ++ [(0x0C, 65535 + 2 ^ 16)])) .plain [(0x08, fld 0 25), (0x0C, fld 0 26)] 0 ctxG ∧
    (one .decode).namedReq 0 (cmd .mgmt named) = .ok (3, req0 .decode) ∧ FMap.get? ctxG.grants 1 = some ⟨0, false, 0x100000, 4⟩ ∧
    hemRunsFor ((one .decode).grantRuns 0 ctxG 1) 4 ((req0 .decode).pleats.map (fun _ => gen0.pleatChunks)) = some [(0, 1)] ∧ (req0 .decode).garment = false ∧
    CtxReq (one .paused) (cmd .mgmt named) .plain [(0x08, fld 0 25)] 0 ctxG ∧ (one .paused).namedReq 0 (cmd .mgmt named) = .ok (3, req0 .paused) ∧
    ctxG.risk.held = false ∧ (req0 .expired).state = .expired ∧ (one .expired).namedReq 0 (cmd .mgmt named) = .ok (3, req0 .expired) ∧
    ((one .paused).allocPleats 3 (req0 .paused).hemRuns.length).isSome = true ∧
    CtxReq (one .decode) (cmd .mgmt (named ++ [(0x0C, 15)])) .plain [(0x08, fld 0 25), (0x0C, fld 0 4)] 0 ctxG ∧
    (∀ g, ctxG.genCfg = some g → g.draftImage = none) ∧ (∃ g, drafting.genCfg = some g ∧ g.draftImage ≠ none) := by
  refine ⟨ctx_req _ _ _ _ _ _ rfl (by decide) rfl rfl, by decide, by decide, by decide, by decide, by decide, by decide,
    ⟨⟨rfl, rfl, by intro c cx h hx; cases h; cases hx; rfl⟩, by decide, rfl, rfl⟩, by decide +kernel, rfl, by decide, by decide,
    ctx_req _ _ _ _ _ _ rfl (by decide) rfl rfl, rfl, rfl, by decide, rfl, ctx_req _ _ _ _ _ _ rfl (by decide) rfl rfl, rfl, rfl, rfl, rfl,
    by decide +kernel, ctx_req _ _ _ _ _ _ rfl (by decide) rfl rfl, ?_, ⟨_, rfl, by decide⟩⟩
  intro g h
  cases h
  rfl

/-- Witness of RequestsChangeByThemselves: a request in each state, one whose time to live ends with this tick and one whose does not. -/
theorem witness_requests_alone :
    let at_ (q : Request) (ns : Nat) : State := { generating [(3, q)] with tick := { ready.tick with startNs := ns } }
    let u : ReqUpdate := { epoch := 0, garment := 7, gen := 1, ctx := 1023, req := 131071, home := 3, at_ := 0, commitStep := 1, state := 1, length := 0, prefilled := 0, depth := 0, promptLen := 1, dMax := 0 }
    3 < Config.requests ∧ FMap.get? (at_ (req0 .pausing) 0).requests 3 = some (req0 .pausing) ∧ (req0 .pausing).copyDone = none ∧
    (req0 .resuming).state = .resuming ∧ (req0 .resuming).copyDone = none ∧ (req0 .paused).home = true ∧
    (at_ (req0 .paused) (59 * 10 ^ 9)).tick.startNs + (ready.tick.periodNs - 8000) < (req0 .paused).pausedAt + (req0 .paused).ttl * 10 ^ 9 ∧
    (req0 .paused).pausedAt + (req0 .paused).ttl * 10 ^ 9 ≤ (at_ (req0 .paused) (60 * 10 ^ 9)).tick.startNs + (ready.tick.periodNs - 8000) ∧
    (req0 .decode).depth = 0 ∧ 1 ≤ (req0 .decode).dMax ∧ (req0 .decode).offCount = 0 ∧ 5 ∉ (req0 .decode).acks ∧ ({ u with req := 3 } : ReqUpdate).req = 3 ∧
    u.req < Config.requests ∧ u.ctx < Config.contexts ∧ FMap.get? (at_ (req0 .decode) 0).requests u.req = none ∧
    (at_ (req0 .decode) 0).isReady = true ∧ u.epoch = (at_ (req0 .decode) 0).sendEpoch ∧ (at_ (req0 .decode) 0).shadowGen u.req = none ∧ u.state < 3 ∧
    (at_ (req0 .decode) 0).shadowGen 3 = some (req0 .decode).gen ∧ (at_ (req0 .pausing) 0).copyFails (req0 .pausing) = none :=
  ⟨by decide, rfl, rfl, rfl, rfl, rfl, by decide, by decide, rfl, by decide, rfl, by decide, rfl, by decide, by decide, rfl, by decide, by decide, by decide,
    by decide, by decide, by decide⟩

-- ---------------------------------------------------------------- training steps

/-- Context 0 with an ordinary segment 2 beside its segments, and steps in its two buffers. -/
def ctxT (b0 b1 : Option Step) : Context :=
  { ctx0 with segs := ctx0.segs ++ [(2, seg0)], train := { Train.reset with buf0 := b0, buf1 := b1, bufCount := 0 } }

/-- STEP_BEGIN of step 0 with one tile of 128 contributions at the last deadline, its REDUCE segment 0 and its divisors in segment 2. -/
def beginReq (ws : List (Nat × Nat)) : CmdReq :=
  cmd .mgmt (ws ++ [(4, 0x400), (0x0C, 2 * 2 ^ 10), (0x10, 1), (0x14, 128 + 65535 * 2 ^ 16), (0x20, 0x3F800000), (0x24, 0x10000D), (0x28, 1)])

/-- An OPEN step of one tile with one expected contribution. -/
def step0 (fixed : Bool) (ledger : FMap TileRec) : Step :=
  { step := 4, attempt := 0, state := .open_, redSeg := 0, tiles := 1, contrib := 1, openedAt := 0, deadline := 50, divSeg := 2, divOff := 0,
    divUnit := 0x3F800000, optList := 13, optCount := 1, optDone := 0, garment := true, mode := { lenient := false, fixed := fixed, always := true }, n := 1,
    tag := 0, ledger := ledger, rejected := 0, why := (0, 0, 0, 0), omitting := false, completeAt := 0, sealedAt := 0, completeFrom := [], sealedFrom := [],
    abortFrom := none, lostAt := none, notices := [], divWritten := false, replay := false }

/-- A slot with some additions of message 8 of member 3. -/
def slotRec0 (landed : Bool) : SlotRec := { startedAt := 0, sender := 3, appliedAt := none, landed := landed, count := 1, sendId := 8, ended := none }

/-- A tile whose only slot has landed. -/
def tile0 (cksum : Nat) : TileRec := { TileRec.blank with slots := [(0, slotRec0 true)], cksum := cksum }

/-- Witness of TrainingStepsBegin: a step that is opened, one that is only counted, one that finds its buffer in use, one with no tile; modes; the
ends of ACC_EVERY; and the ledger of one tile, read inside and outside. -/
theorem witness_steps :
    let all := fld 0 32
    let allow := [(0x08, all), (0x0C, fld 0 17), (0x10, fld 0 23), (0x14, fld 0 8 + fld 16 16), (0x18, all), (0x1C, fld 0 10), (0x20, all), (0x24, fld 0 28),
      (0x28, fld 0 24)]
    let cx := ctxT none none
    let st := readStep (beginReq []) 0 1 13 cx.train.mode
    let used := ctxT (some (step0 false [])) none
    CtxReq (withCtx cx) (beginReq []) .plain allow 0 cx ∧ (withCtx cx).cmdSpool 0 ((beginReq []).w 0x24) = .ok (13, spool 4 2 0x13000) ∧
    st.wellFormed cx (beginReq []) = true ∧ cx.train.last = none ∧ (beginReq []).f 0x0C 0 4 = 0 ∧ cx.train.accEvery ≤ cx.train.localSteps + 1 ∧
    cx.train.buf (cx.train.bufCount % 2) = none ∧ cx.risk.stepBusy = false ∧ (withCtx cx).turns = [] ∧
    cx.train.localSteps + 1 < ({ cx.train with accEvery := 2 } : Train).accEvery ∧
    used.train.buf (used.train.bufCount % 2) = some (step0 false []) ∧ (step0 false []).state = .open_ ∧
    (readStep (beginReq [(0x10, 0)]) 0 1 13 cx.train.mode).wellFormed cx (beginReq [(0x10, 0)]) = false ∧
    CtxReq (withCtx cx) (cmd .mgmt [(4, 0x400), (8, 7)]) .plain [(0x08, fld 0 3)] 0 cx ∧
    CtxReq (withCtx cx) (cmd .mgmt [(4, 0x400), (8, 64)]) .plain [(0x08, fld 0 7)] 0 cx ∧
    CtxReq (withCtx cx) (cmd .mgmt [(4, 0x400), (8, 65)]) .plain [(0x08, fld 0 7)] 0 cx ∧ cx.train.localSteps = 0 ∧
    CtxReq (withCtx used) (cmd .mgmt [(4, 0x400), (0x10, 1), (0x38, 80)]) .out [(0x08, fld 0 1), (0x0C, fld 0 22), (0x10, fld 0 23)] 0 used ∧
    used.train.buf 0 = some (step0 false []) ∧ 0 + 1 ≤ (step0 false []).tiles ∧ (step0 false []).tiles < 1 + 1 :=
  ⟨ctx_req _ _ _ _ _ _ rfl (by decide) rfl rfl, rfl, by decide, rfl, by decide, by decide, rfl, rfl, rfl, by decide, rfl, rfl, by decide,
    ctx_req _ _ _ _ _ _ rfl (by decide) rfl rfl, ctx_req _ _ _ _ _ _ rfl (by decide) rfl rfl, ctx_req _ _ _ _ _ _ rfl (by decide) rfl rfl, rfl,
    ctx_req _ _ _ _ _ _ rfl (by decide) rfl rfl, rfl, by decide, by decide⟩

/-- An addition of one value to element 0 of segment 0 of context 0, with a key. -/
def acc0 (key sender : Nat) : AccMsg :=
  { sender := sender, msg := 8, peer := false, garment := 0, seg := 0, off := 0, key := key, first := 0, vals := [(0x3F800000, residue15 0x3F800000)], adderBad := none,
    send := 8, epoch := 0 }

/-- Witness of ContributionsReachTheirTiles: an addition with no key and one with the key of step 4's slot 0; a context, a garment and a segment that are
gone; a step of another number; a slot that another message holds and one that this message holds; the notices. -/
theorem witness_contributions :
    let key := 4 + 2 ^ 27
    let cx := ctxT (some (step0 false [])) none
    let held := ctxT (some (step0 false [(0, { TileRec.blank with slots := [(0, slotRec0 false)] })])) none
    let s := withCtx cx
    let k : RedKey := ⟨4, 0, 0, true⟩
    let note : ContribMsg := { sender := 3, msg := 8, peer := false, garment := 0, seg := 0, off := 0, key := key, kind := .ended 0 0, send := 8, epoch := 0 }
    RedKey.ofNat key = some k ∧ RedKey.ofNat 0 = some ⟨0, 0, 0, false⟩ ∧ s.isReady = true ∧ (acc0 key 3).epoch = s.sendEpoch ∧
    s.addsInHem 0 seg0 (acc0 key 3) = false ∧ note.epoch = (acc0 key 3).epoch ∧ (acc0 key 3).peer = false ∧ s.ctx? 1 = none ∧ s.garmentCtx 5 0 = none ∧
    s.ctx? 0 = some cx ∧ FMap.get? cx.segs 9 = none ∧ FMap.get? cx.segs 0 = some seg0 ∧ s.ctxSegOk cx 0 (0 + 4 * 0) (4 * (acc0 0 3).vals.length) .write = true ∧
    cx.stepFor k 0 0 = some (0, step0 false []) ∧ cx.stepFor { k with step := 5 } 0 0 = none ∧ (0 : Nat) < 2 ∧
    held.stepFor k 0 0 = some (0, step0 false [(0, { TileRec.blank with slots := [(0, slotRec0 false)] })]) ∧
    (slotRec0 false).sender ≠ (acc0 key 2).sender ∧ (slotRec0 false).sender = (acc0 key 3).sender ∧ (slotRec0 false).sendId = (acc0 key 3).msg ∧
    note.peer = (acc0 key 3).peer ∧ note.key = (acc0 key 3).key ∧ (slotRec0 false).ended = none ∧ (slotRec0 false).count ≠ 16384 ∧
    FMap.get? ((step0 false []).tile 0).slots 0 = none :=
  ⟨by decide, by decide, rfl, by decide, by decide, rfl, rfl, rfl, rfl, rfl, rfl, rfl, by decide, rfl, rfl, by decide, rfl, by decide, rfl, rfl, rfl, rfl, rfl,
    by decide, rfl⟩

/-- Where the stacks hold nothing, a tile's words are zero. -/
theorem tile_words (t : TileRec) (f : Bool) (x : Nat) (hx : x < 2) :
    (withCtx (ctxT (some (step0 f [(0, t)])) none)).tileWords 0 seg0 0 x = some ((List.range 16384).map (fun _ => 0)) := by
  have h : ∃ ch a, (withCtx (ctxT (some (step0 f [(0, t)])) none)).place 0 seg0 0 (65536 * x) (withCtx (ctxT (some (step0 f [(0, t)])) none)).adm.nextId false
      = .stack ch a := by
    match x, hx with
    | 0, _ => exact ⟨_, _, rfl⟩
    | 1, _ => exact ⟨_, _, rfl⟩
  obtain ⟨ch, a, h⟩ := h
  simp only [State.tileWords, h]
  have hb (i : Nat) : ((withCtx (ctxT (some (step0 f [(0, t)])) none)).channel ch).isBad i = false := rfl
  have hw (k : Nat) : Mem.readLE (withCtx (ctxT (some (step0 f [(0, t)])) none)).stack k 4 = 0 := rfl
  simp only [hb, hw, List.any_eq_true, Bool.false_eq_true, and_false, exists_false, if_false]

/-- Their sum is zero. -/
theorem zero_sum (n : Nat) : f64Sum false ((List.range n).map (fun _ => 0)) = .fin false 0 0 := by
  unfold f64Sum
  rw [List.foldl_map]
  generalize List.range n = l
  have h : f64Add false (.fin false 0 0) (Fmt.fp32.read 0) = .fin false 0 0 := by decide
  induction l with
  | nil => rfl
  | cons a l ih => simp only [List.foldl_cons]; simpa [h] using ih

/-- Witness of TrainingStepsAreCheckedAndSettled: a settled tile of a FIXED step and of another; a divisor array that is due and one that is written; the tick of the deadline, and one before it; members' notices. -/
theorem witness_settling :
    let cx (f : Bool) (k : Nat) := ctxT (some (step0 f [(0, tile0 k)])) none
    let st (f : Bool) (k : Nat) := step0 f [(0, tile0 k)]
    let s (f : Bool) (k : Nat) := withCtx (cx f k)
    let late : State := { s false 0 with tick := { ready.tick with number := 50 } }
    (s true 0).ctx? 0 = some (cx true 0) ∧ (s true 0).stepOf 0 0 = some (st true 0) ∧ FMap.get? (cx true 0).segs (st true 0).redSeg = some seg0 ∧
    (st true 0).state = .open_ ∧ (st true 0).slotsSettled ((st true 0).tile 0) = true ∧ ((st true 0).tile 0).torn = none ∧ (st true 0).mode.fixed = true ∧
    ((st true 0).tile 0).summed = false ∧ (((st true 0).tile 0).slots.filter (fun p => p.2.landed)).map Prod.fst = [0] ∧ (st true 0).areaTile 0 1 0 = 1 ∧
    (s false 0).checks (cx false 0) (st false 0) = true ∧ ((st false 0).tile 0).checked = false ∧ ((st false 0).tile 0).landed ≠ 0 ∧ (st false 0).areaTile 0 0 0 = 0 ∧
    (st false 0).divWritten = false ∧ ({ st false 0 with state := .complete } : Step).state = .complete ∧ (s false 0).tick.number ≠ (st false 0).deadline ∧
    late.tick.number = (st false 0).deadline ∧ (step0 false []).lowestMissing SlotRec.isApplied = some (0, 0) ∧
    ({ step0 false [] with contrib := 0 } : Step).lowestMissing SlotRec.isApplied = none ∧ (s false 0).noticeStep 0 4 0 = some (0, st false 0) ∧
    (st false 0).abortFrom = none :=
  ⟨rfl, rfl, rfl, rfl, by decide, rfl, rfl, rfl, rfl, by decide, by decide, rfl, by decide, by decide, rfl, rfl, by decide, rfl, by decide, by decide, rfl, rfl⟩

/-- The same, for the sums: checksums that agree and that do not, and a poisoned tile. -/
theorem witness_checksums :
    (f64Read 0).isFin = true ∧ checksumPasses (.fin false 0 0) (f64Read 0) (f64Read 0) 1 = true ∧
    checksumPasses (.fin false 0 0) (f64Read (0x3FF * 2 ^ 52)) (f64Read 0) 1 = false ∧
    ({ withCtx (ctxT (some (step0 false [])) none) with channels := [(0, { Channel.trained with poison := [4096] })] } : State).tileWords 0 seg0 0 0 = none := by
  decide +kernel

-- ---------------------------------------------------------------- checkpoints

/-- A checkpoint of two data blocks that streams to host memory by both ports. -/
def ckpt0 (acked : List Nat) : Ckpt :=
  { kind := .host, id := 5, cmd := some 3, fixedAt := 0, dest := 0, blocks := 3, ports := 3, slot := 0, sections := [], bytes := 2 ^ 26 + 1, total := 2, header := [],
    key := 1, digests := [], acked := acked, retried := [], released := false, ended := none }

/-- A restore of one block whose digest is that of the source. -/
def restore0 (verified : List Nat) : Restore :=
  { cmd := 3, id := 5, source := 0, alternate := none, ports := 3, replay := false,
    rest := { needles := 1, liveMax := 0, quota := 0, reqBase := 0, reqCount := 0, ceiling := 0, peerPriv := false, genCfg := none, mode := StepMode.reset,
              accEvery := 1, high := 0, low := 0, hint := none, grants := [], garment := none, stock := [], progs := [], spools := [], requests := [], last := none,
              bufCount := 0, localSteps := 0, lastDone := none, images := [] },
    segs := [], patterns := [], knots := [], poison := [], sections := [], digests := [Config.digest (Mem.readN ready.host (0 + ckptBlock * 1) ckptBlock) % 2 ^ 256], key := 1, total := 1,
    verified := verified, tries := [(1, 3)], lastStep := none, ready := false, failed := none }

/-- Context 0 with a checkpoint, a restore and a recall. -/
def ctxR (k : Option Ckpt) (q : Option Restore) (rc : Option Recall) (d : Option CkptDest) : Context :=
  { ctx0 with risk := { RiskCtx.reset with running := k, restore := q, recalling := rc, dest := d } }

/-- Witness of CheckpointsAreTakenAndRestored: CKPT_SAVE and RECALL at both ends of the notice; a block written by its port, by the other one, and by
neither; the manifest's turn; a recall at its deadline and before; CKPT_WANT; a restore's source without a manifest, its block, its last try. -/
theorem witness_checkpoints :
    let all := 2 ^ 32 - 1
    let save := cmd .mgmt [(4, 0x400), (8, 5), (0x0C, 2 ^ 26), (0x18, 3)]
    let calls (n : Nat) := cmd .mgmt [(4, 0x400), (8, n), (0x10, 2 ^ 26), (0x18, 4), (0x1C, 3)]
    let rest := cmd .mgmt [(4, 0x400), (8, 5), (0x0C, 2 ^ 26), (0x18, 7)]
    let pf := [(0x08, fld 0 10), (0x0C, all), (0x10, all), (0x14, all), (0x18, all), (0x1C, fld 0 2)]
    let paused : Context := { ctx0 with state := .paused }
    let rc : Recall := ⟨3, 0, 10 * 10 ^ 9, 5, 0, 4, 3, true⟩
    let late : State := { withCtx (ctxR none none (some rc) none) with tick := { ready.tick with startNs := 10 * 10 ^ 9 } }
    let q := restore0 []
    CtxReq ready save .plain [(0x08, all), (0x0C, all), (0x10, all), (0x14, all), (0x18, fld 0 2)] 0 ctx0 ∧ save.d 0x0C % 67108864 = 0 ∧ save.w 0x18 ≠ 0 ∧
    ctx0.risk.running = none ∧ ctx0.risk.recalling = none ∧ ctx0.risk.restore = none ∧ ready.inTurn 0 = false ∧ ready.thimbleBusy = false ∧
    (∀ n : Nat, save.w 0x14 < n + 1) ∧
    CtxReq ready (calls 10) .plain pf 0 ctx0 ∧ CtxReq ready (calls 600) .plain pf 0 ctx0 ∧ CtxReq ready (calls 601) .plain pf 0 ctx0 ∧
    (10 ≤ (calls 600).w 0x08 ∧ (calls 600).w 0x08 ≤ 600 ∧ (calls 600).d 0x10 % 67108864 = 0 ∧ (calls 600).w 0x1C ≠ 0) ∧ ctx0.stepRuns = false ∧
    (ctxT (some (step0 false [])) none).stepRuns = true ∧
    (ckpt0 []).ended = none ∧ 2 ≤ (ckpt0 []).total ∧ 2 ∉ (ckpt0 []).acked ∧ 2 ≤ (ckpt0 []).lowest + 7 ∧ blockPorts 3 2 0 = some false ∧ blockPorts 3 2 1 = some true ∧
    blockPorts 3 2 3 = none ∧ (ckpt0 [1]).acked.length < (ckpt0 [1]).total ∧ (ckpt0 [1, 2]).total ≤ (ckpt0 [1, 2]).acked.length ∧
    late.ctx? 0 = some (ctxR none none (some rc) none) ∧ rc.deadline ≤ late.commitInstant ∧ (withCtx ctx0).commitInstant < rc.deadline ∧
    (15 ∈ [15, 3]) ∧ (4 ∉ [15, 3]) ∧ (ctxR none none none (some ⟨0, 3, 3, 5, 0, none⟩)).risk.dest ≠ none ∧
    CtxReq (withCtx paused) rest .plain [(0x08, all), (0x0C, all), (0x10, all), (0x18, fld 0 3), (0x1C, all), (0x20, all)] 0 paused ∧
    rest.f 0x18 0 2 ≠ 0 ∧ rest.d 0x1C % 67108864 = 0 ∧ ready.readCkptManifest (rest.d 0x0C) = none ∧
    q.failed = none ∧ 1 ≤ q.total ∧ 1 ∉ q.verified ∧ 1 ≤ q.lowest + 7 ∧ q.placeOf 3 = some 0 ∧ q.placeOf 4 = none ∧ FMap.getD q.tries 1 0 = 3 ∧
    (restore0 [1]).ready = false ∧ (restore0 [1]).total ≤ (restore0 [1]).verified.length ∧
    ((withCtx (ctxR none (some (restore0 [1])) none none)).poisonImage ctx0 []).ctx? 0 = some (ctxR none (some (restore0 [1])) none none) ∧ 0 < Config.contexts := by
  refine ⟨ctx_req _ _ _ _ _ _ rfl (by decide) rfl rfl, by decide, by decide, rfl, rfl, rfl, rfl, rfl, fun n => Nat.succ_pos n,
    ctx_req _ _ _ _ _ _ rfl (by decide) rfl rfl, ctx_req _ _ _ _ _ _ rfl (by decide) rfl rfl, ctx_req _ _ _ _ _ _ rfl (by decide) rfl rfl, by decide, rfl,
    rfl, rfl, by decide, by decide, by decide, by decide, by decide, by decide, by decide, by decide, rfl, by decide, by decide, by decide, by decide,
    by decide, ctx_req _ _ _ _ _ _ rfl (by decide) rfl rfl, by decide, by decide, rfl, rfl, by decide, by decide, by decide, rfl, rfl, rfl, rfl, by decide, rfl,
    by decide⟩

/-- A block verifies against its own digest. -/
theorem block_verifies (s : State) (m b : Nat) (bs : List Byte) (h : Mem.readN s.host (m + ckptBlock * b) ckptBlock = bs) :
    s.readBlock m (Config.digest bs % 2 ^ 256) b = some bs := by
  unfold State.readBlock
  simp only [h, if_true]

/-- CKPT_SAVE has room where the sections, whose lengths are free functions of Config, come to less than 64 MiB times 2^31. -/
theorem witness_ckpt_room (h : imageBytes (ready.ckptSections 0 ctx0) ≤ 67108864 * 2 ^ 31) :
    (imageBytes (ready.ckptSections 0 ctx0) + 67108863) / 67108864 + 1 ≤ (cmd .mgmt [(0x14, 2 ^ 32 - 1)]).w 0x14 := by
  have hw : (cmd .mgmt [(0x14, 2 ^ 32 - 1)]).w 0x14 = 2 ^ 32 - 1 := by decide
  generalize imageBytes (ready.ckptSections 0 ctx0) = n at h ⊢
  generalize (cmd .mgmt [(0x14, 2 ^ 32 - 1)]).w 0x14 = k at hw ⊢
  omega

-- ---------------------------------------------------------------- garments and turns

/-- A garment of this device and member 3. -/
def gar0 (live : Bool) : Garment := { ctxs := [0], members := [15, 3], joined := [15], live := live, waiting := false, openedAt := 2, cmds := [] }

/-- `ready`, in position 0 of its board, with a garment 7 of contexts 0 and 1. -/
def dressed (g : Garment) : State :=
  { ready with garments := [(7, g)], contexts := [(0, { ctx0 with garment := some 7 }), (1, { ctx0 with garment := none })],
               board := { ready.board with posId := 0, strapPos := 0, live := [3, 8], lost := [(3, 0)] } }

/-- Witness of RequestsChangeByThemselves: a member's change of a garment that is held. -/
theorem witness_request_update :
    let s := dressed { gar0 true with ctxs := [0] }
    FMap.has s.contexts 0 = true ∧ ∃ g, FMap.get? s.garments 7 = some g ∧ 0 ∈ g.ctxs := ⟨by decide, _, rfl, by decide⟩

/-- Witness of GarmentsAndSpares: GARMENT_OPEN of a new garment and of one that is open; with too few members; JOINs, before and at the 256th tick; a
close; the array setting at both ends; a spare mask; and a spare that takes the place of a lost position. -/
theorem witness_garments :
    let opens (ws : List (Nat × Nat)) (n : Nat) : CmdReq := { cmd .mgmt (ws ++ [(4, 0x401), (8, 7 + n * 2 ^ 16)]) with block := [0, 0, 3, 0] }
    let ctx1 : Context := { ctx0 with garment := none }
    let g := { gar0 true with members := [0, 3] }
    let s := dressed g
    let none_ : State := { s with garments := [] }
    let at_ (n : Nat) : State := { dressed (gar0 false) with tick := { ready.tick with number := n } }
    let mine : Context := { ctx0 with garment := some 7 }
    let auth : List Byte := wordsLE ([1, 3 + 8 * 16, 16, 0, 0x100, 96, 0, 0] ++ List.replicate 40 0)
    let sub : CmdReq := { cmd .mgmt [(8, 3 + 8 * 16), (0x0C, 16), (0x14, 192)] with block := auth }
    CtxReq none_ (opens [] 2) .block [(0x08, fld 0 24)] 1 ctx1 ∧ none_.membersOk (garmentMembers (opens [] 2) 2) = true ∧
    CtxReq none_ (opens [] 1) .block [(0x08, fld 0 24)] 1 ctx1 ∧ FMap.get? none_.garments 7 = none ∧ ctx1.garment = none ∧ none_.garments.length < 256 ∧
    CtxReq s (opens [] 2) .block [(0x08, fld 0 24)] 1 ctx1 ∧ FMap.get? s.garments 7 = some g ∧ g.members = garmentMembers (opens [] 2) 2 ∧
    g.live = true ∧ 1 ∉ g.ctxs ∧ g.ctxs.length < 4 ∧ (gar0 true).members ≠ garmentMembers (opens [] 2) 2 ∧ 3 ∉ g.joined ∧
    (at_ 257).tick.number < (gar0 false).openedAt + 256 ∧ (gar0 false).openedAt + 256 ≤ (at_ 258).tick.number ∧ (at_ 258).garments = [(7, gar0 false)] ∧
    CtxReq s (cmd .mgmt [(4, 0x400), (8, 7)]) .plain [(0x08, fld 0 16)] 0 mine ∧ mine.garment = some 7 ∧ s.inTurn 0 = false ∧ mine.garmentStep = false ∧
    DevReq s (cmd .mgmt [(8, 4 + 4 * 16)]) .plain [(0x08, fld 0 3 + fld 4 3)] ∧ DevReq s (cmd .mgmt [(8, 1 + 1 * 16)]) .plain [(0x08, fld 0 3 + fld 4 3)] ∧
    s.spansBoards = false ∧ DevReq s (cmd .mgmt [(8, 0x100)]) .plain [(0x08, fld 0 9)] ∧ (∀ p ∈ s.garmentPositions, (0x100 : Nat).testBit p = false) ∧
    (∃ p ∈ s.garmentPositions, (9 : Nat).testBit p = true) ∧
    DevReq s sub .block [(0x08, fld 0 8), (0x0C, 2 ^ 32 - 1), (0x10, fld 0 16), (0x14, 2 ^ 32 - 1)] ∧ s.positionLive 3 = false ∧ authFormOk sub.block = true ∧
    s.tick.number + 16 ≤ sub.d 0x0C ∧ 8 ∈ s.board.freeSpares ∧ (∀ x ∈ s.board.subs, x.spare ≠ 8) ∧ s.authorised sub.block 3 8 16 = false := by
  refine ⟨ctx_any _ _ _ _ _ _ rfl (by decide) rfl rfl, by decide, ctx_any _ _ _ _ _ _ rfl (by decide) rfl rfl, rfl, rfl, by decide,
    ctx_any _ _ _ _ _ _ rfl (by decide) rfl rfl, rfl, by decide, rfl, by decide, by decide, by decide, by decide, by decide, by decide, rfl,
    ctx_req _ _ _ _ _ _ rfl (by decide) rfl rfl, rfl, rfl, rfl, dev_req _ _ _ _ rfl (by decide) rfl, dev_req _ _ _ _ rfl (by decide) rfl, by decide,
    dev_req _ _ _ _ rfl (by decide) rfl, by decide, by decide, dev_any _ _ _ _ rfl (by decide), by decide, by decide +kernel, by decide, by decide, by decide, ?_⟩
  rfl

/-- A turn 9 of garment 7 between contexts 1 and 0, whose layer 0 expects 8 bytes. -/
def turn0 (p : TurnPhase) (train : Bool) : Turn :=
  { id := 9, cmd := 3, toTrain := train, srcCtx := 1, genCtx := 0, garment := 7, plan := 0, moves := if train then [] else [0], layers := 1, firstLayer := 0,
    layerTable := [8], readyKnot := 0x4005, basteLayers := 1, segSet := [seg0], release := [], foreground := false, stageTicks := 256, stagedAt := 2,
    stagedFrom := [0], phase := p, start := 3, baste := 0, acked := if p = .basted then [0] else [], begun := [], again := [], seq := 0, layerBytes := [], counted := [],
    layersFrom := if p = .basted then [0] else [], sourceStep := 0, sent := 0, received := 0, found := 0, lostAt := none, ending := none }

/-- `dressed` with both contexts in the garment of this device alone, this turn, tick 10, and READY_KNOT at a value. -/
def turning (t : Turn) (v : BitVec 48) : State :=
  { dressed { gar0 true with ctxs := [0, 1], members := [0] } with
    contexts := [(0, { ctx0 with garment := some 7 }), (1, { ctx0 with garment := some 7 })], turns := [t], tick := { ready.tick with number := 10 },
    knots := [(5, knot0 (.counter v))],
    -- the plan's record at chunk 4 of channel 0: LAYER 0, and a descriptor of 8 bytes to GEN_CTX's segment 0
    stack := [(262176 + 9, 0x08), (262176 + 16, 8), (262176 + 20, 1), (262176 + 32, 0x33)] }

/-- RESHARD of turn 9 from context 1 to context 0. -/
def reshardReq (w0 : Nat) : CmdReq :=
  withBlock [(4, 0x401)] ([w0, 0x400, if w0 < 65536 then 0x4005 else 0, 1, 256 * 65536, 0, 0, 0, 4096, 0, 8192, 0] ++ List.replicate 8 0)

/-- Witness of TurnsMoveAGarment, RESHARD: one each way that is staged, one with no identifier, and one that finds a turn under way. -/
theorem witness_reshard :
    let mine : Context := { ctx0 with garment := some 7, patterns := [(0, pat0), (3, pat0)] }
    let s : State := { turning (turn0 .staged true) 0 with turns := [], contexts := [(0, mine), (1, mine)] }
    let r := reshardReq 9
    CtxReq s r .block [] 1 mine ∧ CtxReq s (reshardReq (9 + 65536)) .block [] 1 mine ∧ CtxReq s (reshardReq 0) .block [] 1 mine ∧
    (blockOk r 0 20 reshardAllow && decide (bits (r.bw 0) 0 16 ≠ 0) && decide (bits (r.bw 0) 18 4 ≤ 8) && decide (1 ≤ r.bf 0x0C 0 13) &&
      decide (r.bf 0x0C 16 12 < r.bf 0x0C 0 13) && decide (r.bf 0x10 0 13 ≤ 1) && decide (1 ≤ r.bf 0x10 16 9) && decide (r.bf 0x10 16 9 ≤ 256)) = true ∧
    s.handleCtx (r.bw 4) = some 0 ∧ s.ctx? 0 = some mine ∧ (FMap.get? s.garments 7).any (fun g => g.live) = true ∧ s.readyKnotOk 0 (r.bw 8) = 0 ∧
    (s.readTurn r 1 mine false).isSome = true ∧ (s.readTurn r 1 mine true).isSome = true ∧ releaseOf r (bits (r.bw 0) 18 4) = [] ∧ s.inTurn 1 = false ∧
    (turning (turn0 .staged true) 0).inTurn 1 = true := by
  refine ⟨ctx_any _ _ _ _ _ _ rfl (by decide) rfl rfl, ctx_any _ _ _ _ _ _ rfl (by decide) rfl rfl, ctx_any _ _ _ _ _ _ rfl (by decide) rfl rfl, ?_⟩
  refine ⟨by decide +kernel, rfl, rfl, by decide, by decide, ?_⟩
  decide +kernel

/-- Witness of TurnsMoveAGarment, a turn: staged by every member and not; timed out and not yet; a move that is applied, one with a reserved bit and
one that may not be made; a message in and out of its range; a baste and a finish, and neither. -/
theorem witness_turn :
    let mine : Context := { ctx0 with garment := some 7 }
    let t := turn0 .copying false
    let s := turning t 0
    let rec_ := Mem.readN s.stack 262144 160
    let wait : Turn := { turn0 .staged false with stagedFrom := [] }
    s.turn? 7 8 = none ∧ s.turn? 7 9 = some t ∧ s.ctx? t.genCtx = some mine ∧ s.ctx? t.srcCtx = some mine ∧ 3 ∉ t.stagedFrom ∧ 3 ∉ t.layersFrom ∧ t.ending = none ∧
    (turning (turn0 .staged true) 0).allStaged (turn0 .staged true) = true ∧ (turn0 .staged true).stagedAt < s.tick.number ∧
    (turn0 .staged false).firstLayer < (turn0 .staged false).layers ∧
    FMap.getD (turn0 .staged false).layerBytes 0 0 ≠ (turn0 .staged false).layerTable.getD 0 0 ∧
    FMap.get? s.knots (t.readyKnot % 2 ^ 14) = some (knot0 (.counter 0)) ∧ (turning wait 0).allStaged wait = false ∧ (turning wait 0).turns = [wait] ∧
    s.tick.number < wait.stagedAt + wait.stageTicks ∧ ({ wait with stageTicks := 8 } : Turn).stagedAt + 8 ≤ s.tick.number ∧
    t.phase ≠ .staged ∧ t.toTrain = false ∧ t.start < s.tick.number ∧ t.mayMove 0 = true ∧ t.mayMove 1 = false ∧
    s.readCtx t.srcCtx (t.plan + 160 * 0) 160 s.freeCtr = some rec_ ∧ word32 rec_ 0 < 2 ^ 13 ∧ t.moves[0]? = some (word32 rec_ 0 % 2 ^ 12) ∧
    s.segSetOk t 0 0x1FFF8 8 = true ∧ s.segSetOk t 0 0x1FFF9 8 = false ∧
    t.begun = [] ∧ s.mayAck t 0 = true ∧ s.moveRecord t 0 = some rec_ ∧ s.sendEpoch = 10 ∧ s.isReady = true ∧
    s.canBaste t = false ∧ (turning t 1).canBaste t = true ∧ s.canFinish t = false ∧ (turning (turn0 .basted false) 1).canFinish (turn0 .basted false) = true ∧
    (turning (turn0 .basted true) 0).canFinish (turn0 .basted true) = true ∧ (turn0 .basted true).release = [] := by
  refine ⟨rfl, rfl, rfl, rfl, by decide, by decide, rfl, by decide, by decide, by decide, by decide, rfl, by decide, rfl, by decide, by decide, by decide, rfl,
    by decide, by decide, by decide, by decide +kernel, by decide +kernel, by decide +kernel, by decide, by decide, rfl, by decide +kernel, by decide +kernel, by decide, rfl, by decide, by decide,
    by decide, by decide, by decide, rfl⟩

/-- The same: the move's descriptor and ranges are sound, and its row is moved. -/
theorem witness_turn_move :
    let s := turning (turn0 .copying false) 0
    let d := DmaDesc.ofBytes (slice (Mem.readN s.stack 262144 160) 0x20 128)
    (∀ b ∈ slice (Mem.readN s.stack 262144 160) 8 24, b = 0#8) ∧ d.bad = false ∧ d.rows = 1 ∧
    s.moveRanges (turn0 .copying false) { ctx0 with garment := some 7 } false d = true ∧
    (s.bastRows (turn0 .copying false) { ctx0 with garment := some 7 } 0 false d (List.range 1)).isSome = true := by decide +kernel

-- ---------------------------------------------------------------- service and containment

/-- Witness of ServiceOfRunningParts, the commands: an overlay of no bytes, the largest form and one too long; an update of the firmware of the
smallest size; PATCH_ACTIVATE; the last needle, fenced, not fenced and in its test. -/
theorem witness_service_commands :
    let pf := [(0x08, fld 0 32), (0x0C, fld 0 32), (0x10, fld 0 32), (0x14, fld 0 2)]
    let upd : State := { ready with host := Mem.writeN [] 0x1000 (wordsLE [1, 1, 0, 0, 0, 4627, 0, 0]) }
    let o : Overlay := ⟨7, []⟩
    let staged : State := { ready with tailor := { ready.tailor with staged := some o } }
    let nf := [(0x08, fld 0 6 + fld 8 3 + fld 12 1)]
    let fenced : State := { ready with needles := [(287, { Needle.reset with fenced := true })] }
    DevReq ready (cmd .mgmt []) .plain pf ∧ DevReq ready (cmd .mgmt [(0x10, 258643)]) .plain pf ∧ DevReq ready (cmd .mgmt [(0x10, 258644)]) .plain pf ∧
    overlayOk [] = false ∧ ready.tailor.staged = none ∧ ready.tailor.staging = none ∧ ready.tailor.mirrored = true ∧ ready.thimbleBusy = false ∧
    DevReq upd (cmd .mgmt [(8, 0x1000), (0x10, 4691)]) .plain pf ∧ ready.thimble.job = none ∧ ready.board.subs = [] ∧
    DevReq staged (cmd .mgmt [(8, 7)]) .plain [(0x08, fld 0 32)] ∧ staged.tailor.staged = some o ∧ staged.tailor.mirrored = true ∧
    DevReq ready (cmd .mgmt [(8, 47 + 5 * 256)]) .plain nf ∧ DevReq fenced (cmd .mgmt [(8, 47 + 5 * 256 + 4096)]) .plain nf ∧
    DevReq ready (cmd .mgmt [(8, 48)]) .plain nf ∧ (ready.needle 287).fenced = false ∧ (ready.needle 287).fenceFrom = none ∧
    (fenced.needle 287).fenced = true ∧ (fenced.needle 287).selfTest = false :=
  ⟨dev_req _ _ _ _ rfl (by decide) rfl, dev_req _ _ _ _ rfl (by decide) rfl, dev_req _ _ _ _ rfl (by decide) rfl, by decide, rfl, rfl, rfl, rfl,
    dev_req _ _ _ _ rfl (by decide) rfl, rfl, rfl, dev_req _ _ _ _ rfl (by decide) rfl, rfl, rfl, dev_req _ _ _ _ rfl (by decide) rfl,
    dev_req _ _ _ _ rfl (by decide) rfl, dev_req _ _ _ _ rfl (by decide) rfl, rfl, rfl, rfl, rfl⟩

/-- That update's form is sound. -/
theorem witness_update :
    ready.thimble.updateOk (Mem.readN (Mem.writeN [] 0x1000 (wordsLE [1, 1, 0, 0, 0, 4627, 0, 0])) 0x1000 4691) = true := by decide +kernel

/-- Witness of ServiceOfRunningParts, the ends: an overlay of no bytes, which verifies, and one of an unknown key; a job whose key is unknown; a restart;
a cluster in each state. That an update's signature checks rests on a free function of Config: no witness can show it. -/
theorem witness_service_ends :
    let bad : Overlay := ⟨7, List.replicate 16 0 ++ [200]⟩
    let job : ThimbleJob := ⟨3, 0, List.replicate 16 0 ++ [200], false⟩
    let t (a b : ClusterState) : Tailor := { ready.tailor with clusterA := a, clusterB := b }
    let tested : State := { ready with needles := [(287, { Needle.reset with selfTest := true })] }
    ready.isReady = true ∧ ready.checkOverlay ⟨0, []⟩ = 0 ∧ ready.checkOverlay bad ≠ 0 ∧ 287 < Config.needles ∧ (tested.needle 287).selfTest = true ∧
    (ready.needle 287).selfTest = false ∧ job.verified = false ∧ ready.thimble.verifyUpdate job.payload ≠ 0 ∧ job.objType = 0 ∧
    ready.thimble.restarting = none ∧ ({ ready.thimble with restarting := some 3 } : Thimble).restarting = some 3 ∧ ready.mod.state = .ready ∧
    (1 : Nat) < 2 ∧ (t .active .selfTest).cluster 1 = .selfTest ∧ (t .active .copying).cluster 1 = .copying ∧ (t .active .fenced).cluster 1 = .fenced ∧
    (t .active .standby).cluster 0 = .active ∧ (t .active .standby).cluster (1 - 0) = .standby ∧ (t .active .copied).cluster (1 - 0) ≠ .standby :=
  ⟨rfl, by decide, by decide, by decide, rfl, rfl, rfl, by decide, rfl, rfl, rfl, rfl, by decide, rfl, rfl, rfl, rfl, rfl, by decide⟩

/-- Witness of FaultsAreContained: a device in each state; the fourth error of the last router; the last needle, knot and Sleeve byte, with the bank
sound and fenced; a context with and without a cause; a spool; a Hem access of a stitch. -/
theorem witness_faults :
    let errs (l : List Nat) : State := { ready with fences := { ready.fences with headerErrors := [(95, l)] } }
    let old (s : State) := (FMap.getD s.fences.headerErrors 95 []).filter (fun t => decide (s.tick.number < t + 1000))
    let bank : Needle := { needle0 with banks := [11] }
    let fatal : State := { ready with fences := { ready.fences with fatal := [(0, 1, 0, 0)] } }
    ready.mod.state = .ready ∧ ({ ready.mod with state := .withdrawn } : Module).state = .withdrawn ∧ 95 < 96 ∧ (old (errs [0, 0])).length < 3 ∧
    3 ≤ (old (errs [0, 0, 0])).length ∧ ready.isReady = true ∧ 287 < Config.needles ∧ (ready.needle 287).fenced = false ∧ (ready.needle 287).run = none ∧
    (running needle0).isReady = true ∧ ((running needle0).needle 0).run = some (RunStitch.begin stitch0 0) ∧ 0x2FFFFF < 0x300000 ∧ 0x2FFFFF / 0x40000 = 11 ∧
    11 ∈ bank.banks ∧ 11 ∉ needle0.banks ∧ needle0.banks = [] ∧ ({ bank with banks := [3] } : Needle).banks ≠ [] ∧ needle0.ctx = some 0 ∧ ready.ctx? 0 = some ctx0 ∧
    16383 < Config.knots ∧ ready.tailor.mirrored = true ∧ FMap.get? ready.knots 16383 = none ∧ FMap.get? ready.knots 5 = some (knot0 (.counter 3)) ∧
    0 < Config.contexts ∧ ready.ctx? 1023 = none ∧ (∃ f ∈ fatal.fences.fatal, f.1 = 0) ∧ (∀ f ∈ ready.fences.fatal, f.1 ≠ 0) ∧
    FMap.get? ready.spools 1048575 = none ∧ FMap.get? ready.spools 13 = some (spool 4 2 0x13000) :=
  ⟨rfl, rfl, by decide, by decide, by decide, rfl, by decide, rfl, rfl, rfl, rfl, by decide, by decide, by decide, by decide, rfl, by decide, rfl, rfl,
    by decide, rfl, rfl, rfl, by decide, rfl, by decide, by decide, rfl, rfl⟩

-- ---------------------------------------------------------------- the memory system

/-- Witness of MemoryIsReadWrittenAndScrubbed: a line that is held; a poisoned burst; error patterns that are clean, corrected and beyond correction;
whole and partial writes; a channel in each state; a pin's 16th error; a bank's fourth error. -/
theorem witness_memory :
    let ch (c : Channel) : State := { ready with channels := [(767, c)] }
    let line : PcLine := ⟨some 0, false, true, 1⟩
    let held : State := { ready with controllers := [(23, { Controller.empty with lines := [(lineKey 767 5, line)], bankErrors := [(15, [0, 0, 0, 0])] })] }
    let pins (n : Nat) : Channel := { Channel.trained with pinSets := List.replicate n [71] }
    let whole : List (Nat × Byte) := (List.range 64).map (fun i => (i, 7))
    767 < 768 ∧ held.lineHit 767 5 = true ∧ ready.lineHit 767 5 = false ∧ ({ Channel.trained with poison := [5] } : Channel).isBad 5 = true ∧
    Channel.trained.isBad 5 = false ∧ decodeBurst [] 4 [] = .clean ∧ decodeBurst [] 4 [(0, 1), (9, 3), (18, 1), (27, 1), (36, 9)] = .ue ∧
    (∀ i, i < 64 → ∃ w ∈ whole.filter (fun w => decide (w.1 < 64)), w.1 = i) ∧ (∃ i, i < 64 ∧ ∀ w ∈ ([(3, 7)] : List (Nat × Byte)), w.1 ≠ i) ∧
    Channel.trained.state ≠ .fenced ∧ Channel.trained.lost.contains (5 / 1024) = false ∧ ready.mirrorOf 767 5 = none ∧
    ((ch { Channel.trained with state := .gusset }).channel 767).state = .gusset ∧ Channel.trained.state = .online ∧
    ({ Channel.trained with poison := [0] } : Channel).scrubAt ∈ ({ Channel.trained with poison := [0] } : Channel).poison ∧
    ({ Channel.trained with state := .offline } : Channel).state = .offline ∧ 71 < 72 ∧ (pins 15).pinCount 71 < 16 ∧ 16 ≤ (pins 16).pinCount 71 ∧
    71 ∉ (pins 16).erased ∧ (pins 16).erased.length < 2 ∧ 2 ≤ ({ pins 16 with erased := [1, 2] } : Channel).erased.length ∧
    FMap.get? (held.controller (767 / 32)).lines (lineKey 767 5) = some line ∧ FMap.get? (ready.controller (767 / 32)).lines (lineKey 767 5) = none ∧
    23 < 24 ∧ 15 < 16 ∧ 4 ≤ (recentTicks held.tick.number (FMap.getD (held.controller 23).bankErrors 15 [])).length ∧ 15 ∉ (held.controller 23).bankFenced := by
  refine ⟨by decide, by decide, by decide, by decide, by decide, by decide +kernel, by decide +kernel, by decide, by decide, by decide, by decide, rfl, rfl, rfl,
    by decide, rfl, by decide, by decide, by decide, by decide, by decide, by decide, by decide, by decide, by decide, by decide, by decide, by decide⟩

/-- One symbol in error is corrected, with what was there. -/
theorem witness_corrected : decodeBurst [] 4 [(7, 0x55)] = .corrected [(7, 0x55)] 1 ∧ miscorrected [(7, 0x55)] [(7, 0x55)] = false := by decide +kernel

/-- Witness of ChannelsMoveAndAreRepaired, the commands: reserves of 32 and 33; a move to the one gusset and to a channel that is none; repairs of the
last channel, offline, with and without spare rows, and of its last pin, on its lane and free. -/
theorem witness_channel_commands :
    let ch (l : FMap Channel) : State := { ready with channels := l }
    let off : Channel := { Channel.trained with state := .offline, erased := [71] }
    let gus : State := ch [(767, { Channel.trained with state := .gusset })]
    let mv (dst : Nat) := cmd .mgmt [(8, dst * 2 ^ 10 + 100 * 2 ^ 20)]
    let pf := [(0x08, fld 0 21), (0x0C, fld 0 18)]
    let last := ch [(767, off)]
    DevReq ready (cmd .mgmt [(8, 33)]) .plain [(0x08, fld 0 6), (0x0C, fld 0 16)] ∧ DevReq ready (cmd .mgmt [(8, 0)]) .plain [(0x08, fld 0 6), (0x0C, fld 0 16)] ∧
    DevReq ready (cmd .mgmt [(8, 9)]) .plain [(0x08, fld 0 6), (0x0C, fld 0 16)] ∧ ready.gussetReserve = 8 ∧ (ready.addGussets 8 1).isSome = true ∧
    DevReq gus (mv 0x3FF) .plain [(0x08, fld 0 27)] ∧ (gus.channel 0).state = .online ∧ gus.gussetLevel ≠ 0 ∧ gus.stackMoves 0 = false ∧
    gus.chooseGusset 0 = some 767 ∧ (gus.channel 767).state = .gusset ∧ (gus.channel 5).state ≠ .gusset ∧ DevReq gus (mv 768) .plain [(0x08, fld 0 27)] ∧
    ready.gussetLevel = 0 ∧
    DevReq last (cmd .mgmt [(8, 767 + 11 * 2 ^ 10 + 2 ^ 20), (0x0C, 2 ^ 18 - 1)]) .plain pf ∧ 11 / 3 = 767 % 32 / 8 ∧ (last.channel 767).state = .offline ∧
    0 < off.hpprLeft 11 0 ∧ ({ off with hppr := [(64 * 11, 4)] } : Channel).hpprLeft 11 0 = 0 ∧
    DevReq last (cmd .mgmt [(8, 767 + 2 ^ 10 + 71 * 2 ^ 11)]) .plain [(0x08, fld 0 18)] ∧ DevReq last (cmd .mgmt [(8, 767 + 71 * 2 ^ 11)]) .plain [(0x08, fld 0 18)] ∧
    71 ∈ (last.channel 767).erased ∧ off.spare0 = none ∧ off.spare1 = none ∧ pinHalf 0 = 0 ∧ pinHalf 71 ≠ 0 :=
  ⟨dev_req _ _ _ _ rfl (by decide) rfl, dev_req _ _ _ _ rfl (by decide) rfl, dev_req _ _ _ _ rfl (by decide) rfl, rfl, by decide +kernel,
    dev_req _ _ _ _ rfl (by decide) rfl, rfl, by decide +kernel, by decide +kernel, by decide +kernel, by decide, by decide,
    dev_req _ _ _ _ rfl (by decide) rfl, by decide +kernel, dev_req _ _ _ _ rfl (by decide) rfl, by decide, rfl, by decide, by decide,
    dev_req _ _ _ _ rfl (by decide) rfl, dev_req _ _ _ _ rfl (by decide) rfl, by decide, rfl, rfl, by decide, by decide⟩

/-- Witness of ChannelsMoveAndAreRepaired, what goes on by itself: a want that has outlasted the hold; a move whose last unit but one and last are
copied, one that is drained and one that is not; a channel in training and one that is not. -/
theorem witness_channels_alone :
    let want : Channel := { Channel.trained with moveWanted := true, wantedAt := some 0 }
    let s : State := { ready with channels := [(767, want)], gussetHold := 4, tick := { ready.tick with number := 4 } }
    let m (units copied : List Nat) : Move :=
      { src := 767, dst := 0, share := 25, copySet := [3], copied := copied, units := units, staged := false, failed := false, remapped := false }
    let mv (x : Move) : State := { ready with moves := [x] }
    let half := m (List.range 62) []
    let last := m (List.range 63) []
    767 < 768 ∧ s.gussetLevel = 0 ∧ (s.channel 767).wantedAt = some 0 ∧ (s.channel 767).moveWanted = true ∧ (s.channel 767).state = .online ∧
    0 + s.gussetHold ≤ s.tick.number ∧ ready.moves.find? (fun x => x.src = 767) = none ∧ (mv last).moves.find? (fun x => x.src = 767) = some last ∧
    last.copySet.find? (fun k => !last.copied.contains k) = some 3 ∧ 63 ∉ last.units ∧ last.units.length + 1 = 64 ∧ half.units.length + 1 ≠ 64 ∧ 63 ∉ half.units ∧
    (m [] [3]).copySet.find? (fun k => !(m [] [3]).copied.contains k) = none ∧ (∀ k ∈ (m [] [3]).copySet, k ∈ (m [] [3]).copied) ∧ ready.tick.cutoff = false ∧
    (m [] [3]).failed = false ∧ (∃ k ∈ last.copySet, k ∉ last.copied) ∧
    (({ ready with channels := [(767, { Channel.trained with state := .training })] } : State).channel 767).state = .training ∧
    (ready.channel 767).state ≠ .training := by
  refine ⟨by decide, by decide +kernel, rfl, rfl, rfl, by decide, rfl, rfl, by decide, by decide, by decide, by decide, by decide, by decide, by decide, rfl, rfl,
    by decide, rfl, by decide⟩

-- ---------------------------------------------------------------- links and peers

/-- A link that is UP to the member in position 8. -/
def link0 : Link := { Link.reset with state := .up, farPos := 8, retry := [⟨5, 0, 0⟩], expect := 4095, missed := 3 }

/-- `ready` in position 0 of its board, not its master, with this link as T0 and as S0. -/
def linked (k : Link) : State :=
  { ready with links := [(0, k), (16, k)], board := { ready.board with posId := 0, strapPos := 0, live := [1, 8] },
               tick := { ready.tick with isMaster := false, number := 300 } }

/-- A flit of sequence number 4095 that holds these messages. -/
def flit0 (ms : List FlitMsg) : Flit := { seq := 4095, ack := 5, vc := 0, credits := 0, corrected := 1, uncorrectable := false, tagBad := false, msgs := ms }

/-- Witness of LinksCarryFlitsAndFail, flits, lanes and keys: the last sequence number, in order and not, the 17th tag failure; messages of each
kind; the last lane and the spare; a key's last flit; and a link in each state. -/
theorem witness_links :
    let s := linked link0
    let msg (dest map epoch : Nat) (loss : Bool) : FlitMsg := ⟨dest, 7, epoch, map, 0, [1], loss, { dl := 0, lock := false, ctx := 0 }⟩
    let half := { link0 with state := .half, spareFor := some 7 }
    let recal := { link0 with state := .recal, recalLane := some 7, spareFor := some 7, recalCmd := some 3 }
    let down := { link0 with state := .down }
    19 < 20 ∧ (s.link 19).carries = false ∧ (s.link 0).carries = true ∧ (flit0 []).seq = link0.expect ∧ ({ flit0 [] with seq := 0 } : Flit).seq ≠ link0.expect ∧
    link0.tagFailTick < 16 ∧ 16 ≤ ({ link0 with tagFailTick := 16 } : Link).tagFailTick ∧ 16 < ({ link0 with tagFailTick := 17 } : Link).tagFailTick ∧
    (msg 8 0 44 false).dest ≠ s.self ∧ (msg 0 0 44 false).dest = s.self ∧ (msg 0 1 44 false).mapVersion ≠ s.board.mapVersion ∧
    (msg 0 0 43 false).epoch ≠ s.sendEpoch ∧ (msg 0 0 44 false).epoch = s.sendEpoch ∧ s.isReady = true ∧ link0.state ≠ .fenced ∧
    link0.usesLane 7 = true ∧ link0.usesLane 8 = false ∧ half.usesLane 3 = true ∧ half.state = .half ∧ link0.spareFor = none ∧
    ({ link0 with spareFor := some 6 } : Link).spareFor ≠ none ∧ (7 : Nat) < 8 ∧
    DevReq s (cmd .mgmt [(8, 7 * 256)]) .plain [(0x08, fld 0 5 + fld 8 3)] ∧ (cmd .mgmt [(8, 7 * 256)]).f 0x08 0 5 = 0 ∧ link0.canRecal = true ∧ half.canRecal = false ∧
    DevReq s (cmd .mgmt [(8, 20)]) .plain [(0x08, fld 0 5 + fld 8 3)] ∧ recal.recalLane = some 7 ∧ recal.recalCmd = some 3 ∧ link0.recalLane = none ∧
    (linked down).mayTrain 0 = true ∧ down.state = .down ∧ s.tick.number ≤ 300 ∧ link0.flits < 2 ^ 30 ∧
    2 ^ 30 ≤ ({ link0 with flits := 2 ^ 30 } : Link).flits ∧ link0.switchOut = none :=
  ⟨by decide, rfl, rfl, rfl, by decide, by decide, by decide, by decide, by decide, by decide, by decide, by decide, by decide, by decide, by decide, by decide,
    by decide, by decide, rfl, rfl, by decide, by decide, dev_req _ _ _ _ rfl (by decide) rfl, by decide, rfl, rfl, dev_req _ _ _ _ rfl (by decide) rfl, rfl, rfl, rfl,
    by decide, rfl, by decide, by decide, by decide, rfl⟩

/-- Witness of LinksCarryFlitsAndFail, training, idleness, heartbeats, marks and losses: a training that proves the far end, one that does not, and one that
meets this device; a peer all of whose links are silent and idle; the clamp's ends; this device's own loss and another's. -/
theorem witness_link_partners :
    let tr (pos : Nat) (ok : Bool) : Training :=
      { passed := true, chainOk := ok, proofOk := false, latency := 1, farPos := pos, farBoard := 0, farLink := 7, farId := 9, secret := 2, tick := 0, spare := none, reset := false, ready := false }
    let k := { link0 with idle := true }
    let s : State := { linked k with links := (threadLinks 0 8).map (fun l => (l, k)) }
    let one := { link0 with farPos := 1 }
    ({ link0 with state := .training } : Link).state = .training ∧ (tr 8 true).passed = true ∧ ¬ ((tr 8 true).farPos = (linked k).board.posId) ∧
    (tr 8 true).chainOk = true ∧ ready.thimble.owr = none ∧ (tr 8 false).chainOk = false ∧ (tr 0 true).farPos = (linked k).board.posId ∧
    (tr 0 true).farBoard = (linked k).board.boardId ∧ 1 ∉ ({ (linked k).board with live := [8] } : Board).live ∧ (tr 8 true).tick ≠ (linked k).tick.number ∧
    (linked k).isReady = true ∧ (tr 8 true).reset = false ∧
    (threadLinks s.board.posId k.farPos).all (fun j => j = 0 || (s.link j).idle) = true ∧
    (threadLinks (linked link0).board.posId link0.farPos).all (fun j => j = 0 || ((linked link0).link j).idle) = false ∧ 8 ≠ s.board.posId ∧ 8 ∈ s.board.live ∧
    s.silent 8 = true ∧ (∀ q, q < 8 → q ≠ s.board.posId → q ∈ s.board.live → s.silent q = false) ∧
    (∀ p, p < 9 → p ≠ ready.board.posId → p ∈ ready.board.live → ready.silent p = false) ∧
    one.carries = true ∧ (linked one).tick.isMaster = false ∧ one.farPos = (linked one).board.masterPos ∧ (linked one).tick.markNext = none ∧
    (linked one).tick.number < 301 ∧ (linked one).board.refMark = none ∧ (linked one).isReady = true ∧ (linked one).board.isolated = false ∧
    (8 ≠ (linked one).board.posId) ∧ ({ (linked one).board with isolated := true } : Board).isolated = true := by
  refine ⟨rfl, rfl, by decide, rfl, rfl, rfl, rfl, rfl, by decide, by decide, rfl, rfl, by decide, by decide, by decide, by decide, by decide, by decide,
    by decide, rfl, rfl, by decide, rfl, by decide, rfl, rfl, rfl, by decide, rfl⟩

/-- Witness of PeersReachThisDevice: a message of this epoch at a free site and one of another; a knot that is shared, one that is not and one that is
gone; a result that is awaited; accesses in and out of a segment, to a garment that is here and to one that is not. -/
theorem witness_peers :
    let cx : Context := { ctx0 with garment := some 7 }
    let s : State := { withCtx cx with knots := [(5, { knot0 (.counter 3) with gknot := true })] }
    let waits : State := { s with needles := [(0, { needle0 with knotOps := [(9, 0, 4, 0)] })] }
    let b (e : Nat) : Bid := { site := .mesh 1, id := 1, kind := 0, epoch := e, sender := .stitch, ctx := 0, src := .needle 0, dst := .needle 287, bytes := 4096, lock := false, openRow := false, beat := 2, instant := 5 }
    (b 0).fits = true ∧ s.isReady = true ∧ (b 0).epoch = s.sendEpoch ∧ (b 1).epoch ≠ s.sendEpoch ∧ s.arbiters = [] ∧ (∃ h rest, hopsOf (b 0) = h :: rest) ∧
    FMap.get? s.garments 7 = none ∧ FMap.get? (dressed (gar0 true)).garments 7 ≠ none ∧
    FMap.get? s.knots (0x4005 % 2 ^ 14) = some { knot0 (.counter 3) with gknot := true } ∧ 1 = 0x4005 / 2 ^ 14 % 256 ∧
    s.ctx? 0 = some cx ∧ cx.garment = some 7 ∧ (knot0 (.counter 3)).gknot = false ∧ FMap.get? s.knots 16383 = none ∧
    (s.knotApply 5 (knot0 (.counter 3)) 0 1 (.remote 0 3) none).2.isSome = true ∧ 0 < Config.needles ∧
    (waits.needle 0).knotOps.find? (fun k => k.1 = 9) = some (9, 0, 4, 0) ∧ (waits.needle 0).vq = [] ∧ (waits.needle 0).mq = [] ∧
    (waits.needle 0).knotOps.find? (fun k => k.1 = 8) = none ∧ s.garmentCtx 8 0 = none ∧ s.garmentCtx 7 0 = some 0 ∧
    s.ctxSegOk cx 0 0x1FFF8 8 .write = true ∧ s.ctxSegOk cx 0 0x1FFF9 8 .write = false ∧ s.ctxSegOk cx 0 0x1FFF8 8 .read = true ∧
    s.ctxSegOk cx 0 0x1FFF9 8 .read = false ∧ FMap.get? cx.segs 0 = some seg0 :=
  ⟨by decide, rfl, by decide, by decide, rfl, ⟨_, _, rfl⟩, rfl, by decide, rfl, by decide, rfl, rfl, rfl, rfl, by decide, by decide, rfl, rfl, rfl, rfl, rfl, rfl,
    by decide, by decide, by decide, by decide, rfl⟩

/-- The four messages of chapter 09's example at seam 0, link 2, plane Q. -/
def exampleNet : FMap Arbiter :=
  let r (id input dl beats at_ : Nat) (lock : Bool) : ArbReq :=
    { id := id, input := input, port := input, dl := dl, beats := beats, lock := lock, openRow := false, arrival := 2800000 + at_, since := 2800000 + at_,
      firstB := 2800000 + at_, beat := 1, ctx := 0, kind := 0, src := .needle 0, dst := .needle 287, share := 0, next := [] }
  [(4104, { Arbiter.idle with coming := [r 1 5 1991000 16 0 false, r 2 4 1952000 16 8 false, r 3 2 1951980 4 12 true, r 4 3 1951900 1 14 false] })]

/-- R228, chapter 09's example: GRANTS, REVOKES, WAITS, WAIT_NS, MAX_WAIT_NS and LOCKED of inputs 5, 4, 2 and 3 once M1 has ended. -/
theorem test_arbiter_example :
    ((runNet 2800050 100 0 exampleNet).map (fun p => [5, 4, 2, 3].map (fun i =>
      let c := p.2.ctr i
      [c.grants, c.revokes, c.waits, c.waitNs, c.maxWait, c.locked]))).flatten =
    [[2, 1, 1, 12, 12, 0], [2, 1, 1, 2, 2, 0], [1, 0, 0, 0, 0, 1], [1, 0, 1, 1, 1, 0]] := by decide +kernel

/-- R263: every syndrome of a burst with its check and address symbols is zero, and one read at another address shows itself. -/
theorem test_burst_code :
    let word (b at_ : Nat) : List (Nat × Nat) := (burstSymbols b ((List.range 64).map (fun k => (37 * k + 11) % 256)) ++ addressSymbols at_).mapIdx (fun j v => (j, v))
    (List.range 8).all (fun i => syndrome (word 0x12345 0x12345) i == 0) = true ∧
    (List.range 8).all (fun i => syndrome (word 0x12345 0x12346) i == 0) = false := by decide +kernel

-- ---------------------------------------------------------------- the module, attestation, and rules stated whole

/-- Witness of ModuleStartsAndSenses: a module without and with its input, in each step of bring-up, tripped; a port that is up and one that is not; the
limits of the temperatures; a panel that is stretched; the governor's bounds; and each way a step may end. -/
theorem witness_module :
    let st (x : ModState) : State := { ready with mod := { ready.mod with state := x } }
    let ok : Bringup := { refOk := true, thimbleOk := true, clusterA := true, clusterB := true, channels := [], needles := [287], banks := [], panels := [], calibrations := [], bolts := [], logicOk := true }
    let slow : State := { ready with adm := { ready.adm with panels := [(5, { ready.panel 5 with stretched := true })] } }
    State.reset.mod.v48 = false ∧ ready.mod.v48 = true ∧ ready.mod.thermtripN = true ∧ ({ ready.mod with thermtripN := false } : Module).thermtripN = false ∧
    (8 % 16 ≤ 8 ∧ 16 / 16 % 4 ≤ 1) ∧ 9 ≤ 9 % 16 ∧ 2 ≤ 32 / 16 % 4 ∧ (2 = 1 ∨ 2 = 2) ∧ ready.hostPortUp 2 = true ∧ State.reset.hostPortUp 2 = false ∧
    ready.isReady = true ∧ ready.mod.refLost = 0 ∧ ({ ready.mod with refLost := 2 } : Module).refLost = 2 ∧ 0x44 ∉ sensorIds ∧ 0x43 ∈ sensorIds ∧
    ready.reading 0x42 = some 0 ∧ ready.reading 0x01 = none ∧ ready.dieRuns = true ∧ State.reset.dieRuns = false ∧ (5 : Nat) < 6 ∧ (23 : Nat) < 24 ∧ (11 : Nat) < 12 ∧
    (slow.panel 5).stretched = true ∧ (ready.panel 5).stretched = false ∧ (0 : Nat) ≤ Nat.min (ready.adm.limit * 10500) 3600000 ∧
    Nat.min (ready.adm.limit * 10500) 3600000 < 3600001 ∧ 0 < ready.adm.limit * 10000 ∧ ready.tick.number % 1024 = 0 ∧
    (∀ k, k < 4 → FMap.getD ready.fences.ce k 0 = 0) ∧ (∃ k, k < 4 ∧ FMap.getD ({ ready.fences with ce := [(3, 1)] } : Fences).ce k 0 ≠ 0) ∧
    (st (.step 7)).mod.state = .step 7 ∧ ok.logicOk = true ∧ ({ ok with clusterA := false, clusterB := false } : Bringup).clusterB = false ∧ 287 ∈ ok.needles :=
  ⟨rfl, rfl, rfl, rfl, by decide, by decide, by decide, by decide, rfl, rfl, rfl, rfl, rfl, by decide, by decide, rfl, rfl, rfl, rfl, by decide, by decide, by decide,
    by decide, by decide, by decide, by decide, by decide, by decide, by decide, by decide, rfl, rfl, rfl, by decide⟩

/-- Witness of AttestationAnswers: a port that is up, with a connection at each stage, a session that is finished and one that is not, and the last stream. -/
theorem witness_attestation :
    let p (v c : Bool) (a : Nat) : State := { ready with thimble := { ready.thimble with ports := [(2, ⟨v, c, a⟩)] } }
    let x : SpdmSession := ⟨1, 2, true, 0⟩
    let s : State := { ready with thimble := { ready.thimble with sessions := [x] } }
    let busy : State := { ready with thimble := { ready.thimble with restarting := some 3 } }
    (ready.isReady = true ∧ ready.hostPortUp 2 = true) ∧ ¬ (State.reset.isReady = true ∧ State.reset.hostPortUp 2 = true) ∧ busy.thimbleBusy = true ∧
    ready.thimbleBusy = false ∧ (ready.spdm 2).version = false ∧ ((p true false 0).spdm 2).version = true ∧ ((p true true 0).spdm 2).capabilities = true ∧
    15 % 4 = 3 ∧ ((p true true 0).spdm 2).algorithms = 0 ∧ ((p true true 15).spdm 2).algorithms = 15 ∧ ((p true true 15).sessionsOn 2).length < 4 ∧
    (1 ≤ 7 ∧ 7 ≤ 7) ∧ (8 ≤ 8 ∧ 8 ≠ 0xFF) ∧ s.thimble.sessions.find? (fun y => y.id = 1 && y.port = 2) = some x ∧ x.finished = true ∧
    s.thimble.sessions.find? (fun y => y.id = 1 && y.port = 1) = none ∧ ({ x with finished := false } : SpdmSession).finished = false ∧ 8 ≤ 8 ∧ 8 < 9 :=
  ⟨⟨rfl, rfl⟩, by decide, rfl, rfl, rfl, rfl, rfl, by decide, rfl, rfl, by decide, by decide, by decide, rfl, rfl, rfl, rfl, by decide, by decide⟩

/-- Witness of TickPeriodAndGuardBand and RiskThresholdsAreStaged: the longest and the shortest period, each with its largest guard band; a tick that is near
enough and one that is not; HIGH above LOW by one, and equal, with and without a hint. -/
theorem witness_whole_rules :
    let pf := [(0x08, fld 0 7 + fld 16 9), (0x0C, 2 ^ 32 - 1), (0x10, fld 0 16)]
    let set (code g e : Nat) := cmd .mgmt [(8, code + g * 2 ^ 16), (0x0C, e)]
    let rf := [(0x08, fld 0 10 + fld 16 10), (0x0C, fld 0 10 + fld 31 1)]
    let risk (h l w : Nat) := cmd .mgmt [(4, 0x400), (8, h + l * 2 ^ 16), (0x0C, w)]
    DevReq ready (set 124 400 16) .plain pf ∧ DevReq ready (set 0 125 15) .plain pf ∧ DevReq ready (set 0 126 16) .plain pf ∧
    (500 ≤ 500 + 125 * 124 ∧ 500 + 125 * 124 ≤ 16000 ∧ 4 * 400 ≤ 500 + 125 * 124) ∧ ¬ (4 * 126 ≤ 500 + 125 * 0) ∧ ready.tick.number + 16 ≤ (set 124 400 16).d 0x0C ∧
    (set 0 125 15).d 0x0C < ready.tick.number + 16 ∧ CtxReq ready (risk 1023 1022 (2 ^ 31 + 1023)) .plain rf 0 ctx0 ∧ CtxReq ready (risk 1 0 0) .plain rf 0 ctx0 ∧
    CtxReq ready (risk 1023 1023 0) .plain rf 0 ctx0 :=
  ⟨dev_req _ _ _ _ rfl (by decide) rfl, dev_req _ _ _ _ rfl (by decide) rfl, dev_req _ _ _ _ rfl (by decide) rfl, by decide, by decide, by decide, by decide,
    ctx_req _ _ _ _ _ _ rfl (by decide) rfl rfl, ctx_req _ _ _ _ _ _ rfl (by decide) rfl rfl, ctx_req _ _ _ _ _ _ rfl (by decide) rfl rfl⟩

/-- Witness of StepRunsFrontCommand and StepsKeepInvariantAndNeverStop: `ready` with a command in its queue meets the invariant; so does an idle block. -/
theorem witness_invariant :
    (ready.memWf && ready.pending.all Instr.wf && (Instr.nop (cmd .mgmt [])).wf && (Instr.add 287 (fR 31 31 31)).wf) = true := by decide +kernel

-- ---------------------------------------------------------------- ill-formed commands and events

/-- A needle beyond R5's 288 is refused, by a stitch's start, an instruction and a DMA engine's descriptor; so are an engine and a slot beyond R216's and
a byte beyond the Sleeve's (R131). -/
theorem test_wf_needles (f : FmtR) : (Instr.stitchStart 288).wf = false ∧ (Instr.add 288 f).wf = false ∧ (Instr.dmaDescriptorStart 288 0).wf = false ∧
    (Instr.dmaDescriptorStart 0 2).wf = false ∧ (Instr.dmaSlotAcknowledged 0 1 16 0).wf = false ∧ (Instr.sleeveUe 287 0x300000 false).wf = false ∧
    (Instr.knotOperationMessage (.result 288 0 0 0)).wf = false ∧ (Instr.hostPortWriteFailure (.store 288 0 0)).wf = false ∧
    (Instr.add 287 f).wf = true := ⟨rfl, rfl, rfl, rfl, rfl, rfl, rfl, rfl, rfl⟩

/-- A context, request, spool, image, garment or knot beyond R6's and R15's is refused. -/
theorem test_wf_identifiers (u : ReqUpdate) : (Instr.recallDeadline 1024).wf = false ∧ (Instr.requestExpiry 131072).wf = false ∧
    (Instr.listDropLimit 1048576).wf = false ∧ (Instr.boltInstallVerified 1024).wf = false ∧ (Instr.turnFinish 65536 0).wf = false ∧
    (Instr.knotCopyUe 16384 false).wf = false ∧ (Instr.garmentRequestUpdate { u with req := 131072 }).wf = false ∧
    (Instr.garmentRequestUpdate { u with req := 0, ctx := 1024 }).wf = false ∧ (Instr.fillStageNotice 0 0 0 9).wf = false ∧
    (Instr.boltPageRead 0 0 2 ⟨0, none⟩ 0 0 true true).wf = false ∧ (Instr.boltPageProgram 0 0 2 0 true false false).wf = false :=
  ⟨rfl, rfl, rfl, rfl, rfl, rfl, rfl, rfl, rfl, rfl, rfl⟩

/-- A panel, channel, pin, copy unit, stack, bank, die, Tailor cluster or router beyond R5's is refused. -/
theorem test_wf_parts : (Instr.hotspotRead 6 0).wf = false ∧ (Instr.channelMoveDrain 768).wf = false ∧ (Instr.pinErase 0 72).wf = false ∧
    (Instr.channelCopyUnitAck 0 64 [] false).wf = false ∧ (Instr.pincushionBankFence 24 0 false []).wf = false ∧
    (Instr.pincushionBankFence 23 16 false []).wf = false ∧ (Instr.dieTempRead 0 12 0).wf = false ∧ (Instr.tailorMismatch 2).wf = false ∧
    (Instr.liningHeaderError 96).wf = false := ⟨rfl, rfl, rfl, rfl, rfl, rfl, rfl, rfl, rfl⟩

/-- A link beyond the 20 is refused, a tick mark on a Selvedge port, an epoch mark on a Thread link, a lane beyond the spare and a sequence number beyond
12 bits; and a host port other than 1 and 2, a binding above 2, a window slot or word beyond R508's, and a context that has no window page. -/
theorem test_wf_ports (w : WinReq) : (Instr.linkElectricalIdle 20).wf = false ∧ (Instr.tickMarkReceive 16 0 0 0).wf = false ∧
    (Instr.epochMarkReceive 15 0 0 0 0 0).wf = false ∧ (Instr.selvedgePortFence 15).wf = false ∧ (Instr.laneFault 0 9 false).wf = false ∧
    (Instr.laneFlit 0 0 4096).wf = false ∧ (Instr.laneEyeMarginLow 0 8).wf = false ∧ (Instr.perstAssert 0).wf = false ∧ (Instr.perstAssert 3).wf = false ∧
    (Instr.pldmBaseRequest 3).wf = false ∧ (Instr.winSlotWrite 64 0 1 0 true).wf = false ∧ (Instr.winSlotWrite 0 8 1 0 true).wf = false ∧
    (Instr.winNop { w with ctx := 64 }).wf = false := ⟨rfl, rfl, rfl, rfl, rfl, rfl, rfl, rfl, rfl, rfl, rfl, rfl, rfl⟩

end Sys2Proof.Tests
end

section
/-! PROOFS. The module and its management (O56): power and resets, cold bring-up, the sensors, the droop stretch, the governor, the management
bus and the summaries. -/

namespace Sys2Proof.Proofs.ModuleStart

open Sys2Proof Sys2Proof.Machine

-- ---------------------------------------------------------------- what writing events leaves unchanged

/-- At most the records for host memory and the events held for them differ (R42, R560). -/
def OnlyRecords (s t : State) : Prop := ∃ o m, t = { s with out := o, mgmt := m }

theorem OnlyRecords.refl (s : State) : OnlyRecords s s := ⟨s.out, s.mgmt, rfl⟩

theorem OnlyRecords.trans {s t u : State} : OnlyRecords s t → OnlyRecords t u → OnlyRecords s u := by
  rintro ⟨o, m, rfl⟩ ⟨o', m', rfl⟩
  exact ⟨o', m', rfl⟩

theorem onlyRecords_foldl {β : Type} {f : State → β → State} (h : ∀ a x, OnlyRecords a (f a x)) (l : List β) (s : State) :
    OnlyRecords s (l.foldl f s) :=
  List.foldlRecOn l f (motive := OnlyRecords s) (.refl s) (fun a ha x _ => ha.trans (h a x))

theorem mgmtEvent_onlyRecords (s : State) (code cls handle : Nat) (payload : List Nat) :
    OnlyRecords s (s.mgmtEvent code cls handle payload) := by
  simp only [State.mgmtEvent]
  split
  · exact ⟨_, _, rfl⟩
  · split <;> exact ⟨_, _, rfl⟩

theorem ctxEvent_onlyRecords (s : State) (c code cls : Nat) (payload : List Nat) : OnlyRecords s (s.ctxEvent c code cls payload) := by
  simp only [State.ctxEvent]
  split
  · exact .refl s
  · exact ⟨_, _, rfl⟩

theorem evFence_onlyRecords (s : State) (kind cause : Nat) (back : Bool) (ident : Nat) (users : List Nat) (fenced : Nat) :
    OnlyRecords s (s.evFence kind cause back ident users fenced) :=
  (mgmtEvent_onlyRecords ..).trans (onlyRecords_foldl (fun _ _ => ctxEvent_onlyRecords ..) _ _)

theorem evKnotCycle_onlyRecords (s : State) (k : KnotCycle) : OnlyRecords s (s.evKnotCycle k) :=
  onlyRecords_foldl (fun _ _ => ctxEvent_onlyRecords ..) _ _

/-- R613: reporting the fences of bring-up writes events only. -/
theorem reportFences_onlyRecords (s : State) : OnlyRecords s s.reportFences := by
  have fences {β : Type} (k : Nat) (g : β → Nat) (l : List β) (n : Nat) (a : State) :
      OnlyRecords a (l.foldl (fun (b : State) x => b.evFence k 3 false (g x) [] n) a) :=
    onlyRecords_foldl (fun _ _ => evFence_onlyRecords ..) l a
  simp only [State.reportFences]
  split
  · exact ((((fences ..).trans (fences ..)).trans (fences ..)).trans (fences ..)).trans (mgmtEvent_onlyRecords ..)
  · exact (((fences ..).trans (fences ..)).trans (fences ..)).trans (fences ..)

-- ---------------------------------------------------------------- what training and testing the units leaves unchanged

/-- The module, the board, host memory and the contexts are as before: the work of steps 4 and 5 of bring-up is on other units (R612). -/
structure KeepsModule (s t : State) : Prop where
  mod : t.mod = s.mod
  board : t.board = s.board
  host : t.host = s.host
  contexts : t.contexts = s.contexts

theorem KeepsModule.refl (s : State) : KeepsModule s s := ⟨rfl, rfl, rfl, rfl⟩

theorem KeepsModule.trans {s t u : State} (h : KeepsModule s t) (k : KeepsModule t u) : KeepsModule s u :=
  ⟨k.mod.trans h.mod, k.board.trans h.board, k.host.trans h.host, k.contexts.trans h.contexts⟩

theorem keepsModule_foldl {β : Type} {f : State → β → State} (h : ∀ a x, KeepsModule a (f a x)) (l : List β) (s : State) :
    KeepsModule s (l.foldl f s) :=
  List.foldlRecOn l f (motive := KeepsModule s) (.refl s) (fun a ha x _ => ha.trans (h a x))

theorem bringUpChannel_keepsModule (s : State) (l : List ChanTraining) (ch : Nat) : KeepsModule s (s.bringUpChannel l ch) := ⟨rfl, rfl, rfl, rfl⟩

theorem addGussets_keepsModule {n k : Nat} {s t : State} (h : s.addGussets k n = some t) : KeepsModule s t := by
  induction n generalizing s k with
  | zero => cases h; exact .refl t
  | succ n ih =>
    simp only [State.addGussets] at h
    split at h
    · cases h
    · have hk := ih h
      exact ⟨hk.mod, hk.board, hk.host, hk.contexts⟩

theorem fillGussets_keepsModule (n : Nat) (s : State) : KeepsModule s (s.fillGussets n) := by
  induction n generalizing s with
  | zero => exact .refl s
  | succ n ih =>
    simp only [State.fillGussets]
    split
    · next a ha => exact (addGussets_keepsModule ha).trans (ih a)
    · exact .refl s

theorem needleFails_keepsModule (s : State) (n : Nat) : KeepsModule s (s.needleFails n) := by
  unfold State.needleFails
  split
  · exact .refl s
  · exact ⟨rfl, rfl, rfl, rfl⟩

theorem bankFails_keepsModule (s : State) (n bank : Nat) : KeepsModule s (s.bankFails n bank) := by
  unfold State.bankFails
  extract_lets nd
  split
  · exact .refl s
  · exact ⟨rfl, rfl, rfl, rfl⟩

theorem calibrate_keepsModule (s : State) (x : Calibration) : KeepsModule s (s.calibrate x) := by
  unfold State.calibrate
  split
  · exact .refl s
  · exact ⟨rfl, rfl, rfl, rfl⟩

theorem stepMemory_keepsModule (s : State) (r : Bringup) : KeepsModule s (s.stepMemory r) := by
  unfold State.stepMemory
  extract_lets here s1 s2 failed s3 s4
  have h1 : KeepsModule s s1 := keepsModule_foldl (fun a ch => bringUpChannel_keepsModule a r.channels ch) _ s
  have h2 : KeepsModule s1 s2 := by
    unfold s2
    split
    · exact .refl s1
    · exact fillGussets_keepsModule _ s1
  have h3 : KeepsModule s2 s3 := keepsModule_foldl needleFails_keepsModule failed s2
  have h4 : KeepsModule s3 s4 := keepsModule_foldl (fun a x => bankFails_keepsModule a x.1 x.2) r.banks s3
  exact (((h1.trans h2).trans h3).trans h4).trans (keepsModule_foldl calibrate_keepsModule _ s4)

theorem freeBlock_keepsModule (s : State) (p : Nat × Nat) : KeepsModule s (s.freeBlock p) := by
  unfold State.freeBlock State.modBolt
  split <;> exact ⟨rfl, rfl, rfl, rfl⟩

theorem dropImage_keepsModule (s : State) (b : BoltImage) : KeepsModule s (s.dropImage b) := by
  unfold State.dropImage
  extract_lets s1
  have h1 : KeepsModule s s1 := ⟨rfl, rfl, rfl, rfl⟩
  exact h1.trans (keepsModule_foldl freeBlock_keepsModule _ s1)

theorem stepBolt_keepsModule (s : State) (l : List Nat) : KeepsModule s (s.stepBolt l) := by
  unfold State.stepBolt
  extract_lets s1 s2
  have h1 : KeepsModule s s1 := keepsModule_foldl dropImage_keepsModule _ s
  have h2 : KeepsModule s1 s2 := by
    unfold s2
    split
    · exact .refl s1
    · exact ⟨rfl, rfl, rfl, rfl⟩
  have h := h1.trans h2
  exact ⟨h.mod, h.board, h.host, h.contexts⟩

theorem foldl_keeps {β γ : Type} (g : State → γ) {f : State → β → State} (h : ∀ a x, g (f a x) = g a) (l : List β) (s : State) :
    g (l.foldl f s) = g s :=
  List.foldlRecOn l f (motive := fun a => g a = g s) rfl (fun a ha x _ => (h a x).trans ha)

/-- R416: starting the links touches neither the module nor host memory. -/
theorem startLinks_keeps (s : State) : s.startLinks.mod = s.mod ∧ s.startLinks.host = s.host := by
  unfold State.startLinks
  extract_lets b s1
  constructor
  · exact foldl_keeps State.mod (fun a l => by dsimp only; split <;> rfl) allLinks s1
  · exact foldl_keeps State.host (fun a l => by dsimp only; split <;> rfl) allLinks s1

-- ---------------------------------------------------------------- step 4: the needles that failed (R613)

theorem needleFails_keeps_fenced {s : State} {m : Nat} (n : Nat) (h : (s.needle m).fenced = true) :
    ((s.needleFails n).needle m).fenced = true := by
  unfold State.needleFails
  split
  · exact h
  · rw [State.needle_setNeedle]
    split
    · rfl
    · exact h

theorem needleFails_fenced (s : State) {n : Nat} (h : n < 288) : ((s.needleFails n).needle n).fenced = true := by
  have hn : ¬ Config.needles ≤ n := Nat.not_le.mpr h
  rw [State.needleFails, if_neg hn, State.needle_setNeedle_self]

theorem bankFails_keeps_fenced {s : State} {m : Nat} (n bank : Nat) (h : (s.needle m).fenced = true) :
    ((s.bankFails n bank).needle m).fenced = true := by
  unfold State.bankFails
  extract_lets nd
  split
  · exact h
  · rw [State.needle_setNeedle]
    split
    · next e => subst e; simp [nd, h]
    · exact h

theorem calibrate_needles (s : State) (x : Calibration) : (s.calibrate x).needles = s.needles := by
  unfold State.calibrate
  split <;> rfl

theorem foldl_needleFails_fenced {l : List Nat} {m : Nat} (s : State) (hm : m ∈ l) (h : m < 288) :
    ((l.foldl (fun (a : State) n => a.needleFails n) s).needle m).fenced = true := by
  induction l generalizing s with
  | nil => cases hm
  | cons n l ih =>
    rcases List.mem_cons.mp hm with rfl | hm
    · exact List.foldlRecOn l _ (motive := fun (a : State) => (a.needle m).fenced = true) (needleFails_fenced s h)
        (fun a ha k _ => needleFails_keeps_fenced k ha)
    · exact ih _ hm

/-- R613: every needle that failed its self-test in step 4 is fenced. -/
theorem stepMemory_fences (s : State) {r : Bringup} {n : Nat} (hn : n ∈ r.needles) (h : n < 288) :
    ((s.stepMemory r).needle n).fenced = true := by
  unfold State.stepMemory
  extract_lets here s1 s2 failed s3 s4
  have h3 : (s3.needle n).fenced = true := foldl_needleFails_fenced s2 (List.mem_append_left _ hn) h
  have h4 : (s4.needle n).fenced = true :=
    List.foldlRecOn r.banks _ (motive := fun (a : State) => (a.needle n).fenced = true) h3 (fun a ha x _ => bankFails_keeps_fenced x.1 x.2 ha)
  have h5 : (r.calibrations.foldl (fun (a : State) x => a.calibrate x) s4).needles = s4.needles := foldl_keeps State.needles calibrate_needles _ s4
  rw [State.needle, h5]
  exact h4

-- ---------------------------------------------------------------- step 7: READY (R612)

/-- R440: bit 0 of DEV_STATUS is READY. -/
theorem devWord_bit_ready {s : State} (h : s.isReady = true) : (BitVec.ofNat 32 s.devWord).getLsbD 0 = true := by
  have odd : s.devWord % 2 = 1 := by
    unfold State.devWord
    extract_lets f
    have ready : f s.isReady 0 = 1 := by simp [f, h]
    have even (b : Bool) (i : Nat) : f b (i + 1) % 2 = 0 := by cases b <;> simp [f, Nat.pow_succ]
    have h1 : f s.thimble.approved 1 % 2 = 0 := even _ 0
    have h2 : f s.mod.state.isOut 2 % 2 = 0 := even _ 1
    have h3 : f s.tailor.activeB 3 % 2 = 0 := even _ 2
    split <;> omega
  simp [BitVec.getLsbD_ofNat, odd]

/-- R51, R54, R612: what READY sets: the state, the first tick's number, nothing carried; the memories stay. -/
theorem becomeReady_sets (s : State) : s.becomeReady.mod.state = .ready ∧ SameMemory s s.becomeReady ∧ s.becomeReady.adm.carry = 0 ∧
    s.becomeReady.tick.number = (if s.tick.freeRun then 0 else (s.tick.number + 1) % 2 ^ 48) ∧ s.becomeReady.devStatus.getLsbD 0 = true := by
  unfold State.becomeReady
  extract_lets live _ _ _ _ s1 m _ s2 s3
  obtain ⟨o, g, h⟩ : OnlyRecords s2 s3 := reportFences_onlyRecords s2
  have hr : s3.isReady = true := by rw [h]; rfl
  clear_value s3
  subst h
  exact ⟨rfl, ⟨rfl, rfl⟩, rfl, rfl, devWord_bit_ready hr⟩

-- ---------------------------------------------------------------- bring-up (R612 to R614)

/-- R614: bring-up has failed with a cause. -/
def FailedWith (cause : Nat) (t : State) : Prop := t.mod.state = .failed ∧ t.mod.failCause = cause ∧ t.mod.alertN = false

/-- R614: a device-fatal fault during a step of bring-up. -/
theorem withdraw_in_step {s : State} {k : Nat} (h : s.mod.state = .step k) (cause : Nat) : s.withdraw cause = s.shutDown .failed cause := by
  rw [State.withdraw, h]

theorem withdraw_fails {s : State} {k : Nat} (h : s.mod.state = .step k) (cause : Nat) : FailedWith cause (s.withdraw cause) := by
  rw [withdraw_in_step h]
  exact ⟨rfl, rfl, rfl⟩

/-- R581: the Thimble fails during a step: cause 1, and its error state. -/
theorem thimbleFails_fails {s : State} {k : Nat} (h : s.mod.state = .step k) :
    FailedWith 1 s.thimbleFails ∧ s.thimbleFails.thimble.error = true := by
  rw [State.thimbleFails, withdraw_in_step h]
  exact ⟨⟨rfl, rfl, rfl⟩, rfl⟩

section Steps
variable {s : State} {r : Bringup}

/-- Outside the steps of bring-up nothing ends. -/
theorem endStep_outside (h : s.mod.state = .ready ∨ s.mod.state = .held) : s.endStep r = s := by
  rcases h with h | h <;> simp only [State.endStep, h]

/-- R614: an error of the tick logic ends bring-up with cause 3, in every step. -/
theorem endStep_logic_fails {k : Nat} (h : s.mod.state = .step k) (hl : r.logicOk = false) : FailedWith 3 (s.endStep r) := by
  have he : s.endStep r = s.withdraw 3 := by simp only [State.endStep, h, hl, Bool.not_false, if_true]
  rw [he]
  exact withdraw_fails h 3

/-- R612: with its logic sound, a step does its own work. -/
theorem endStep_sound {k : Nat} (h : s.mod.state = .step k) (hl : r.logicOk = true) : s.endStep r =
    if k = 1 then (s.stepPower r.refOk).nextStep 1
    else if k = 2 then (if !r.thimbleOk then s.thimbleFails else { s with thimble := s.thimble.readMode.generate }.nextStep 2)
    else if k = 3 then (if !r.clusterA && !r.clusterB then s.withdraw 2 else (s.stepTailor r.clusterA r.clusterB).nextStep 3)
    else if k = 4 then (s.stepMemory r).nextStep 4
    else if k = 5 then (s.stepBolt r.bolts).nextStep 5
    else if k = 6 then s.stopLinks.nextStep 6
    else s.nextStep k := by
  simp only [State.endStep, h, hl, Bool.not_true, Bool.false_eq_true, if_false]

/-- R612: the step after any but step 5 and the last. -/
theorem nextStep_plain (s : State) {k : Nat} (h5 : k ≠ 5) (h7 : k < 7) :
    s.nextStep k = { s with mod := { s.mod with state := .step (k + 1) } } := by
  have h : ¬ 7 ≤ k := Nat.not_le.mpr h7
  simp only [State.nextStep, h5, decide_false, Bool.false_and, Bool.false_eq_true, if_false, h]

theorem nextStep_last (s : State) : s.nextStep 7 = s.becomeReady := by
  simp only [State.nextStep, Nat.reduceEqDiff, decide_false, Bool.false_and, Bool.false_eq_true, if_false, Nat.le_refl, if_true]

/-- R612: step 6 is skipped on a module that runs alone. -/
theorem nextStep_alone {s : State} (h : s.board.posId = 0xF) : s.nextStep 5 = { s with mod := { s.mod with state := .step 7 } } := by
  simp [State.nextStep, h]

theorem nextStep_on_board {s : State} (h : s.board.posId ≠ 0xF) :
    s.nextStep 5 = { s with mod := { s.mod with state := .step 6 } }.startLinks := by
  simp [State.nextStep, h]

theorem step1_with_reference (h : s.mod.state = .step 1) (hl : r.logicOk = true) (hr : r.refOk = true) :
    s.endStep r = { s with mod := { s.mod with state := .step 2 } } := by
  have he : s.endStep r = (s.stepPower r.refOk).nextStep 1 := endStep_sound h hl
  rw [he, nextStep_plain _ (by decide) (by decide)]
  simp only [State.stepPower, hr, Bool.true_or, if_true]

/-- R601: without its reference the device goes on alone. -/
theorem step1_without_reference (h : s.mod.state = .step 1) (hl : r.logicOk = true) (hr : r.refOk = false) :
    (s.endStep r).mod.state = .step 2 ∧ (s.endStep r).board.posId = 0xF ∧
    (s.board.posId ≠ 0xF → (s.endStep r).mod.refLost = 1) ∧ (s.board.posId = 0xF → (s.endStep r).mod.refLost = s.mod.refLost) := by
  have he : s.endStep r = (s.stepPower r.refOk).nextStep 1 := endStep_sound h hl
  rw [he, nextStep_plain _ (by decide) (by decide)]
  by_cases hp : s.board.posId = 0xF
  · have hs : s.stepPower r.refOk = s := by simp only [State.stepPower, hp, decide_true, Bool.or_true, if_true]
    rw [hs]
    exact ⟨rfl, hp, fun hn => absurd hp hn, fun _ => rfl⟩
  · have hs : s.stepPower r.refOk = { s with mod := { s.mod with refLost := 1 }, board := { s.board with posId := 0xF } } := by
      simp only [State.stepPower, hr, hp, decide_false, Bool.or_false, Bool.false_eq_true, if_false]
    rw [hs]
    exact ⟨rfl, rfl, fun _ => rfl, fun hn => absurd hn hp⟩

/-- R581, R614: a Thimble that fails ends bring-up with cause 1. -/
theorem step2_fails (h : s.mod.state = .step 2) (hl : r.logicOk = true) (ht : r.thimbleOk = false) :
    FailedWith 1 (s.endStep r) ∧ (s.endStep r).thimble.error = true := by
  have he : s.endStep r = if !r.thimbleOk then s.thimbleFails else { s with thimble := s.thimble.readMode.generate }.nextStep 2 :=
    endStep_sound h hl
  rw [he, ht]
  exact thimbleFails_fails h

/-- R577, R582: reading MODE gives no serial number of a key away; without a mode record the mode in force is MODE. -/
theorem readMode_sets (t : Thimble) : t.readMode.nextKey = t.nextKey ∧ (t.modeNext = none → t.readMode.approved = t.modeApproved) := by
  unfold Thimble.readMode
  split
  · exact ⟨rfl, fun _ => rfl⟩
  · next hm =>
    refine ⟨?_, fun hn => absurd (hm.symm.trans hn) (by simp)⟩
    dsimp only
    split <;> rfl

theorem step2_sets (h : s.mod.state = .step 2) (hl : r.logicOk = true) (ht : r.thimbleOk = true) :
    (s.endStep r).mod.state = .step 3 ∧ (s.endStep r).thimble.deviceKey = some s.thimble.nextKey ∧
    (s.endStep r).thimble.stockKey = some (s.thimble.nextKey + 1) ∧
    (s.thimble.modeNext = none → (s.endStep r).thimble.approved = s.thimble.modeApproved) := by
  obtain ⟨hk, ha⟩ := readMode_sets s.thimble
  have he : s.endStep r = if !r.thimbleOk then s.thimbleFails else { s with thimble := s.thimble.readMode.generate }.nextStep 2 :=
    endStep_sound h hl
  rw [he, ht, nextStep_plain _ (by decide) (by decide), ← hk]
  exact ⟨rfl, rfl, rfl, ha⟩

/-- R614: without a cluster bring-up ends with cause 2. -/
theorem step3_fails (h : s.mod.state = .step 3) (hl : r.logicOk = true) (ha : r.clusterA = false) (hb : r.clusterB = false) :
    FailedWith 2 (s.endStep r) := by
  have he : s.endStep r = if !r.clusterA && !r.clusterB then s.withdraw 2 else (s.stepTailor r.clusterA r.clusterB).nextStep 3 :=
    endStep_sound h hl
  rw [he, ha, hb]
  exact withdraw_fails h 2

theorem step3_sets (h : s.mod.state = .step 3) (hl : r.logicOk = true) (hc : r.clusterA = true ∨ r.clusterB = true) :
    (s.endStep r).mod.state = .step 4 ∧ (s.endStep r).tailor.clusterA = (if r.clusterA then .active else .fenced) ∧
    (s.endStep r).tailor.activeB = !r.clusterA ∧
    (s.endStep r).tailor.clusterB = (if r.clusterB then (if r.clusterA then .standby else .active) else .fenced) := by
  have hn : (!r.clusterA && !r.clusterB) = false := by rcases hc with hc | hc <;> simp [hc]
  have he : s.endStep r = if !r.clusterA && !r.clusterB then s.withdraw 2 else (s.stepTailor r.clusterA r.clusterB).nextStep 3 :=
    endStep_sound h hl
  rw [he, hn, nextStep_plain _ (by decide) (by decide)]
  refine ⟨rfl, rfl, rfl, ?_⟩
  cases r.clusterB <;> simp [State.stepTailor]

theorem step4_sets (h : s.mod.state = .step 4) (hl : r.logicOk = true) :
    (s.endStep r).mod.state = .step 5 ∧ (∀ n ∈ r.needles, n < 288 → ((s.endStep r).needle n).fenced = true) ∧
    (s.endStep r).host = s.host ∧ (s.endStep r).contexts = s.contexts := by
  have he : s.endStep r = (s.stepMemory r).nextStep 4 := endStep_sound h hl
  rw [he, nextStep_plain _ (by decide) (by decide)]
  have hk := stepMemory_keepsModule s r
  exact ⟨rfl, fun n hn hlt => stepMemory_fences s hn hlt, hk.host, hk.contexts⟩

theorem step5_sets (h : s.mod.state = .step 5) (hl : r.logicOk = true) :
    (s.endStep r).mod.state = (if s.board.posId = 0xF then .step 7 else .step 6) ∧ (s.endStep r).host = s.host := by
  have he : s.endStep r = (s.stepBolt r.bolts).nextStep 5 := endStep_sound h hl
  rw [he]
  have hk := stepBolt_keepsModule s r.bolts
  by_cases hp : s.board.posId = 0xF
  · rw [nextStep_alone (by rw [hk.board, hp]), if_pos hp]
    exact ⟨rfl, hk.host⟩
  · rw [nextStep_on_board (by rw [hk.board]; exact hp), if_neg hp]
    obtain ⟨hm, hh⟩ := startLinks_keeps { s.stepBolt r.bolts with mod := { (s.stepBolt r.bolts).mod with state := .step 6 } }
    exact ⟨by rw [hm], hh.trans hk.host⟩

/-- R416: no link trains after step 6. -/
theorem step6_sets (h : s.mod.state = .step 6) (hl : r.logicOk = true) :
    (s.endStep r).mod.state = .step 7 ∧ ∀ p ∈ (s.endStep r).links, p.2.state ≠ .training := by
  have he : s.endStep r = s.stopLinks.nextStep 6 := endStep_sound h hl
  rw [he, nextStep_plain _ (by decide) (by decide)]
  refine ⟨rfl, fun p hp => ?_⟩
  obtain ⟨q, -, rfl⟩ := List.mem_map.mp hp
  dsimp only
  split
  · simp
  · assumption

theorem step7_sets (h : s.mod.state = .step 7) (hl : r.logicOk = true) :
    (s.endStep r).mod.state = .ready ∧ SameMemory s (s.endStep r) ∧ (s.endStep r).adm.carry = 0 ∧
    (s.endStep r).tick.number = (if s.tick.freeRun then 0 else (s.tick.number + 1) % 2 ^ 48) ∧ (s.endStep r).devStatus.getLsbD 0 = true := by
  have he : s.endStep r = s.nextStep 7 := by simp [endStep_sound h hl]
  rw [he, nextStep_last]
  exact becomeReady_sets s

end Steps

-- ---------------------------------------------------------------- power and resets (R604, R605, R608, R609)

/-- R577, R587, R605, R608, R609: the module is held, and from `s` only what persists is left. -/
def HeldFrom (s t : State) : Prop :=
  t.mod.state = (if s.mod.thermtripN then .held else .thermtrip) ∧ t.contexts = [] ∧ t.needles = [] ∧ t.requests = [] ∧
    t.thimble.ctxKeys = [] ∧ t.thimble.deviceKey = none ∧ t.thimble.sessions = [] ∧ t.stack = [] ∧ t.host = s.host ∧ t.images = s.images ∧
    t.thimble.slots = s.thimble.slots ∧ t.thimble.owr = s.thimble.owr ∧ t.mod.v48 = true ∧ t.pending = s.pending ∧ t.freeCtr = s.freeCtr

/-- R582, R590: a reset keeps the key slots and the owner root, whichever firmware slot the Thimble runs from next. -/
theorem kept_slots_owr (t : Thimble) : t.kept.slots = t.slots ∧ t.kept.owr = t.owr := by
  simp only [Thimble.kept, Thimble.switchSlot]
  split <;> exact ⟨rfl, rfl⟩

theorem hold_without_input {s : State} (h : s.mod.v48 = false) : s.hold = s := by simp only [State.hold, h, Bool.not_false, if_true]

theorem hold_holds {s : State} (h : s.mod.v48 = true) : HeldFrom s s.hold := by
  obtain ⟨hs, ho⟩ := kept_slots_owr s.thimble
  simp only [State.hold, h, Bool.not_true, Bool.false_eq_true, if_false]
  exact ⟨rfl, rfl, rfl, rfl, rfl, rfl, rfl, rfl, rfl, rfl, hs, ho, h, rfl, rfl⟩

/-- The pins, among them PWR_OK and MOD_RESET_N, stand as they were (R615). -/
theorem hold_keeps_pins {s : State} (h : s.mod.v48 = true) : s.hold.mod.pwrOk = s.mod.pwrOk ∧ s.hold.mod.modResetN = s.mod.modResetN := by
  simp only [State.hold, h, Bool.not_true, Bool.false_eq_true, if_false]
  exact ⟨rfl, rfl⟩

/-- What persists does not lie in the pins, but for THERMTRIP_N. -/
theorem HeldFrom.of_pins {s t : State} {m : Module} (hm : m.thermtripN = s.mod.thermtripN) (h : HeldFrom { s with mod := m } t) : HeldFrom s t := by
  unfold HeldFrom at h ⊢
  rw [← hm]
  exact h

theorem pwrOkFall_holds {s : State} (h : s.mod.v48 = true) : Gives (exec .pwrOkFall s) (fun t => HeldFrom s t ∧ t.mod.pwrOk = false) := by
  have hs : ({ s with mod := { s.mod with pwrOk := false } } : State).mod.v48 = true := h
  exact ⟨_, rfl, .of_pins (m := { s.mod with pwrOk := false }) rfl (hold_holds hs), (hold_keeps_pins hs).1⟩

theorem inputVoltageFault_holds {s : State} (h : s.mod.v48 = true) : Gives (exec .inputVoltageFault s) (HeldFrom s) :=
  ⟨_, rfl, hold_holds h⟩

theorem modResetAssert_holds {s : State} (h : s.mod.v48 = true) :
    Gives (exec .modResetAssert s) (fun t => HeldFrom s t ∧ t.mod.modResetN = false) := by
  have hs : ({ s with mod := { s.mod with modResetN := false } } : State).mod.v48 = true := h
  exact ⟨_, rfl, .of_pins (m := { s.mod with modResetN := false }) rfl (hold_holds hs), (hold_keeps_pins hs).2⟩

/-- Without its input the module meets only 48 V: its pins move and nothing else is there to change. -/
theorem without_input {s : State} (h : s.mod.v48 = false) :
    exec .pwrOkFall s = .next { s with mod := { s.mod with pwrOk := false } } ∧ exec .inputVoltageFault s = .next s ∧
    exec .modResetAssert s = .next { s with mod := { s.mod with modResetN := false } } ∧
    (∀ pos board, exec (.bringupStart pos board) s = .next s) ∧ (∀ a, exec (.i3cDynamicAddress a) s = .next s) ∧
    (∀ on, exec (.i3cInterruptEnable on) s = .next s) ∧
    ∀ pos, exec (.input48vApplied pos) s = .next { s with mod := { s.mod with v48 := true, state := .held, staticAddr := 0x30 + pos % 16 } } := by
  refine ⟨congrArg _ (hold_without_input (s := { s with mod := { s.mod with pwrOk := false } }) h), congrArg _ (hold_without_input h),
    congrArg _ (hold_without_input (s := { s with mod := { s.mod with modResetN := false } }) h),
    fun pos board => ?_, fun a => ?_, fun on => ?_, fun pos => ?_⟩
  · show execBringupStart pos board s = _
    simp only [execBringupStart, h, Bool.not_false, Bool.true_or, if_true]
  · show execI3cDynamicAddress a s = _
    simp only [execI3cDynamicAddress, h, Bool.not_false, if_true]
  · show execI3cInterruptEnable on s = _
    simp only [execI3cInterruptEnable, h, Bool.not_false, if_true]
  · show execInput48vApplied pos s = _
    simp only [execInput48vApplied, h, Bool.false_eq_true, if_false]

/-- With 48 V a second application changes nothing, and the Chalk takes its address and its interrupt setting (R617). -/
theorem chalk_with_input {s : State} (h : s.mod.v48 = true) :
    (∀ pos, exec (.input48vApplied pos) s = .next s) ∧
    (∀ a, exec (.i3cDynamicAddress a) s = .next { s with mod := { s.mod with dynAddr := some (a % 128) } }) ∧
    (∀ on, exec (.i3cInterruptEnable on) s = .next { s with mod := { s.mod with ibi := on } }) := by
  refine ⟨fun pos => ?_, fun a => ?_, fun on => ?_⟩
  · show execInput48vApplied pos s = _
    simp only [execInput48vApplied, h, if_true]
  · show execI3cDynamicAddress a s = _
    simp only [execI3cDynamicAddress, h, Bool.not_true, Bool.false_eq_true, if_false]
  · show execI3cInterruptEnable on s = _
    simp only [execI3cInterruptEnable, h, Bool.not_true, Bool.false_eq_true, if_false]

theorem input48vRemoved_unpowers (s : State) : Gives (exec .input48vRemoved s) (fun t =>
    t.mod.state = .unpowered ∧ t.mod.v48 = false ∧ t.mod.thermtripN = true ∧ t.contexts = [] ∧ t.thimble.deviceKey = none ∧
    t.host = s.host ∧ t.images = s.images ∧ t.thimble.owr = s.thimble.owr) :=
  ⟨_, rfl, rfl, rfl, rfl, rfl, rfl, rfl, rfl, (kept_slots_owr s.thimble).2⟩

/-- R612: a latched THERMTRIP_N keeps the module from starting. -/
theorem bringupStart_tripped {s : State} (h : s.mod.thermtripN = false) (pos board : Nat) : exec (.bringupStart pos board) s = .next s := by
  show execBringupStart pos board s = _
  simp only [execBringupStart, h, Bool.not_false, Bool.or_true, if_true]

/-- R417: POS_ID as sampled at the start: 0xF for straps that no position has. -/
theorem startBringup_posId (s : State) (pos board : Nat) : (s.startBringup pos board).board.posId =
    if (9 ≤ pos % 16 && pos % 16 ≤ 14) || 2 ≤ board / 16 % 4 then 0xF else pos % 16 := rfl

theorem bringupStart_starts {s : State} (hv : s.mod.v48 = true) (ht : s.mod.thermtripN = true) (pos board : Nat) :
    Gives (exec (.bringupStart pos board) s) (fun t => t.mod.state = .step 1 ∧ t.mod.pwrOk = true ∧
      t.mod.modResetN = true ∧ t.mod.port0 = s.mod.perst0N ∧ t.mod.port1 = s.mod.perst1N ∧ t.board.strapPos = pos % 16 ∧ t.contexts = [] ∧
      t.host = s.host ∧ (pos % 16 ≤ 8 → board / 16 % 4 ≤ 1 → t.board.posId = pos % 16) ∧
      (9 ≤ pos % 16 → t.board.posId = 0xF) ∧ (2 ≤ board / 16 % 4 → t.board.posId = 0xF)) := by
  refine ⟨s.startBringup pos board, ?_, rfl, rfl, rfl, rfl, rfl, rfl, rfl, rfl, fun hp hb => ?_, fun hp => ?_, fun hb => ?_⟩
  · show execBringupStart pos board s = _
    simp only [execBringupStart, hv, ht, Bool.not_true, Bool.or_self, Bool.false_eq_true, if_false]
  · rw [startBringup_posId, if_neg (by simp; omega)]
  · rw [startBringup_posId]
    split
    · rfl
    · next hn => simp at hn; omega
  · rw [startBringup_posId, if_pos (by simp [hb])]

-- ---------------------------------------------------------------- host ports and the reference (R601, R610, R615)

/-- A PERSTn_N pin. -/
def perstPin (m : Module) (port : Nat) : Bool := if port = 1 then m.perst0N else m.perst1N

/-- Whether a port's link is up. -/
def portLink (m : Module) (port : Nat) : Bool := if port = 1 then m.port0 else m.port1

@[simp] theorem perstPin_setPort (m : Module) (port : Nat) (up : Bool) : perstPin (m.setPort port up) port = perstPin m port := by
  unfold perstPin Module.setPort
  split <;> rfl

@[simp] theorem perstPin_setPerst (m : Module) (port : Nat) (high : Bool) : perstPin (m.setPerst port high) port = high := by
  unfold perstPin Module.setPerst
  split <;> rfl

@[simp] theorem portLink_setPort (m : Module) (port : Nat) (up : Bool) : portLink (m.setPort port up) port = up := by
  unfold portLink Module.setPort
  split <;> rfl

section Ports
variable {port : Nat}

/-- A device has host ports 1 and 2. -/
theorem port_exists (hp : port = 1 ∨ port = 2) : (port = 0 || 2 < port : Bool) = false := by rcases hp with rfl | rfl <;> rfl

/-- R610: a port's reset takes its link, its keys, its sessions and its interrupt vectors, and no memory or context. -/
theorem perstAssert_resets (hp : port = 1 ∨ port = 2) (s : State) : Gives (exec (.perstAssert port) s) (fun t =>
    SameMemory s t ∧ t.contexts = s.contexts ∧ perstPin t.mod port = false ∧ portLink t.mod port = false ∧
    (∀ p ∈ t.thimble.ide, p.1 / 16 ≠ port) ∧ (∀ x ∈ t.thimble.sessions, x.port ≠ port) ∧ ∀ p ∈ t.msix, p.1 / 2048 ≠ port) := by
  refine ⟨s.resetPort port, ?_, ⟨rfl, rfl⟩, rfl, by simp [State.resetPort], by simp [State.resetPort], fun p h => ?_, fun x h => ?_,
    fun p h => ?_⟩
  · show execPerstAssert port s = _
    rw [execPerstAssert, port_exists hp]
    rfl
  all_goals simpa using (List.mem_filter.mp h).2

/-- R610, R615: the link trains in every state but those without power or reset. -/
theorem perstDeassert_trains (hp : port = 1 ∨ port = 2) (s : State) : Gives (exec (.perstDeassert port) s) (fun t =>
    t = { s with mod := t.mod } ∧ perstPin t.mod port = true ∧
    (s.mod.state = .unpowered ∨ s.mod.state = .held ∨ s.mod.state = .thermtrip → portLink t.mod port = false) ∧
    (s.mod.state = .ready ∨ s.mod.state = .withdrawn ∨ s.mod.state = .failed ∨ (∃ k, s.mod.state = .step k) →
      portLink t.mod port = true)) := by
  have he : exec (.perstDeassert port) s = .next { s with mod := (s.mod.setPerst port true).setPort port s.dieRuns } := by
    show execPerstDeassert port s = _
    rw [execPerstDeassert, port_exists hp]
    rfl
  refine ⟨_, he, rfl, by simp, ?_, ?_⟩
  · rintro (h | h | h) <;> simp [State.dieRuns, h]
  · rintro (h | h | h | ⟨k, h⟩) <;> simp [State.dieRuns, h]

/-- R615: a configuration request finds a port that is up. -/
theorem configRequest_answers (hp : port = 1 ∨ port = 2) (s : State) :
    (s.hostPortUp port = false → exec (.configRequest port) s = .next s) ∧
    (s.hostPortUp port = true → exec (.configRequest port) s =
      .next { s with mod := { s.mod with config := FMap.set s.mod.config port (s.isReady || s.mod.state.isOut) } }) := by
  have he : exec (.configRequest port) s = if !s.hostPortUp port then .next s
      else .next { s with mod := { s.mod with config := FMap.set s.mod.config port (s.isReady || s.mod.state.isOut) } } := by
    show execConfigRequest port s = _
    rw [execConfigRequest, port_exists hp]
    rfl
  exact ⟨fun h => by rw [he, h]; rfl, fun h => by rw [he, h]; rfl⟩

end Ports

/-- R601: from READY the reference is lost and returns. -/
theorem reference_follows {s : State} (h : s.isReady = true) :
    (s.mod.refLost = 0 → exec .tickRefLoss s = .next { s with mod := { s.mod with refLost := 2 } } ∧ exec .tickRefReturn s = .next s) ∧
    (s.mod.refLost = 2 → exec .tickRefReturn s = .next { s with mod := { s.mod with refLost := 0 } } ∧ exec .tickRefLoss s = .next s) := by
  have hl : exec .tickRefLoss s = if s.mod.refLost = 0 then .next { s with mod := { s.mod with refLost := 2 } } else .next s := by
    show execTickRefLoss s = _
    by_cases h0 : s.mod.refLost = 0 <;> simp [execTickRefLoss, h, h0]
  have hr : exec .tickRefReturn s = if s.mod.refLost = 2 then .next { s with mod := { s.mod with refLost := 0 } } else .next s := by
    show execTickRefReturn s = _
    by_cases h2 : s.mod.refLost = 2 <;> simp [execTickRefReturn, h, h2]
  exact ⟨fun h0 => by simp [hl, hr, h0], fun h2 => by simp [hl, hr, h2]⟩

-- ---------------------------------------------------------------- MCTP and PLDM (R617, R618)

/-- R617: a binding carries MCTP: I3C with 48 V, a host port from READY while it is up. -/
theorem bindingUp_iff (s : State) (b : Nat) :
    s.bindingUp b = true ↔ if b = 0 then s.mod.v48 = true else s.isReady = true ∧ s.hostPortUp b = true := by
  unfold State.bindingUp
  split <;> simp

theorem onBinding_down {s : State} {b : Nat} (hb : b ≤ 2) (h : ¬ s.bindingUp b = true) (f : State → State) : s.onBinding b f = .next s := by
  simp [State.onBinding, Nat.not_lt.mpr hb, h]

theorem onBinding_up {s : State} {b : Nat} (hb : b ≤ 2) (h : s.bindingUp b = true) (f : State → State) : s.onBinding b f = .next (f s) := by
  simp [State.onBinding, Nat.not_lt.mpr hb, h]

/-- R617: on a binding that does not carry MCTP nothing is answered or assigned. -/
theorem requests_down {s : State} {b : Nat} (hb : b ≤ 2) (h : ¬ s.bindingUp b = true) (eid : Nat) :
    exec (.pldmBaseRequest b) s = .next s ∧ exec (.pldmFruRequest b) s = .next s ∧ exec (.mctpEndpointIdAssign b eid) s = .next s := by
  refine ⟨?_, ?_, ?_⟩
  · show execPldmBaseRequest b s = _
    exact onBinding_down hb h _
  · show execPldmFruRequest b s = _
    exact onBinding_down hb h _
  · show execMctpEndpointIdAssign b eid s = _
    exact onBinding_down hb h _

/-- R617: the supported types, the FRU record and the endpoint ID of a binding that carries MCTP. -/
theorem requests_up {s : State} {b : Nat} (hb : b ≤ 2) (h : s.bindingUp b = true) :
    exec (.pldmBaseRequest b) s = .next (s.pldmAnswer b (.types [0, 2, 4])) ∧
    exec (.pldmFruRequest b) s = .next (s.pldmAnswer b (.fru (wordsLE orderingWords) (Config.serial % 2 ^ 64) 0x30 s.thimble.version)) ∧
    (∀ eid, exec (.mctpEndpointIdAssign b eid) s = .next { s with mod := { s.mod with eids := FMap.set s.mod.eids b (eid % 256) } }) := by
  refine ⟨?_, ?_, fun eid => ?_⟩
  · show execPldmBaseRequest b s = _
    exact onBinding_up hb h _
  · show execPldmFruRequest b s = _
    exact onBinding_up hb h _
  · show execMctpEndpointIdAssign b eid s = _
    exact onBinding_up hb h _

/-- R618: what is answered of a sensor. -/
theorem pldmPlatformRequest_answers {s : State} {b : Nat} (hb : b ≤ 2) (h : s.bindingUp b = true) :
    (∀ id, id ∉ sensorIds → exec (.pldmPlatformRequest b id) s = .next (s.pldmAnswer b .unknown)) ∧
    (∀ id v, id ∈ sensorIds → s.reading id = some v → exec (.pldmPlatformRequest b id) s = .next (s.pldmAnswer b (.reading v))) ∧
    (∀ id, id ∈ sensorIds → s.reading id = none → exec (.pldmPlatformRequest b id) s = .next (s.pldmAnswer b .unavailable)) := by
  refine ⟨fun id hn => ?_, fun id v hi hv => ?_, fun id hi hv => ?_⟩
  · have hc : sensorIds.contains id = false := by simpa using hn
    show execPldmPlatformRequest b id s = _
    rw [execPldmPlatformRequest, onBinding_up hb h]
    simp only [hc, Bool.not_false, if_true]
  · show execPldmPlatformRequest b id s = _
    rw [execPldmPlatformRequest, onBinding_up hb h]
    simp only [List.contains_iff_mem.mpr hi, hv, Bool.not_true, Bool.false_eq_true, if_false]
  · show execPldmPlatformRequest b id s = _
    rw [execPldmPlatformRequest, onBinding_up hb h]
    simp only [List.contains_iff_mem.mpr hi, hv, Bool.not_true, Bool.false_eq_true, if_false]

-- ---------------------------------------------------------------- temperatures (R72, R275, R607, R608)

/-- R608: a running die that trips latches THERMTRIP_N. -/
theorem thermtrip_latches {s : State} (h : s.dieRuns = true) : s.thermtrip.mod.state = .thermtrip ∧ s.thermtrip.mod.thermtripN = false := by
  unfold State.thermtrip
  cases hs : s.mod.state with
  | ready | step k | withdrawn | failed => exact ⟨rfl, rfl⟩
  | unpowered | held | thermtrip => simp [State.dieRuns, hs] at h

/-- R607: the flow meter and the two thermometers of the coolant. -/
theorem coolantMeasure_reads {s : State} (h : s.mod.v48 = true) (inlet outlet : Int) (flow : Nat) :
    Gives (exec (.coolantMeasure inlet outlet flow) s) (fun t => SameMemory s t ∧
      t.adm.inletMilliC = inlet ∧ FMap.get? t.mod.sensors 0x10 = some (inlet / 100) ∧ FMap.get? t.mod.sensors 0x11 = some (outlet / 100) ∧
      FMap.get? t.mod.sensors 0x12 = some (flow : Int)) := by
  refine ⟨((({ s with adm := { s.adm with inletMilliC := inlet } }.sensor 0x10 (inlet / 100)).sensor 0x11 (outlet / 100)).sensor 0x12 flow), ?_,
    ⟨rfl, rfl⟩, rfl, ?_, ?_, ?_⟩
  · show execCoolantMeasure inlet outlet flow s = _
    simp only [execCoolantMeasure, h, Bool.not_true, Bool.false_eq_true, if_false]
  all_goals simp [State.sensor, FMap.get?_set]

/-- The module with these readings of its sensors (R618). -/
def withSensors (s : State) (m : FMap Int) : State := { s with mod := { s.mod with sensors := m } }

theorem sensor_eq (s : State) (id : Nat) (v : Int) : s.sensor id v = withSensors s (FMap.set s.mod.sensors id v) := rfl

theorem withSensors_sensor (s : State) (m : FMap Int) (id : Nat) (v : Int) : (withSensors s m).sensor id v = withSensors s (FMap.set m id v) := rfl

theorem withSensors_dieRuns (s : State) (m : FMap Int) : (withSensors s m).dieRuns = s.dieRuns := rfl

/-- R618: the readings with the Chalk's own: voltage, current and power of the input. -/
def chalkReadings (s : State) (cv da w : Nat) : FMap Int :=
  FMap.set (FMap.set (FMap.set s.mod.sensors 0x01 (cv : Int)) 0x02 (da : Int)) 0x03 (w : Int)

theorem sensorRefresh_running {s : State} (h : s.mod.v48 = true) (hd : s.dieRuns = true) (cv da w : Nat) (boltC : Int) :
    exec (.sensorRefresh cv da w boltC) s =
      .next (if 95 ≤ boltC then (withSensors s (FMap.set (chalkReadings s cv da w) 0x31 boltC)).thermtrip
        else withSensors s (FMap.set (chalkReadings s cv da w) 0x31 boltC)) := by
  show execSensorRefresh cv da w boltC s = _
  simp only [execSensorRefresh, sensor_eq s, withSensors_sensor, h, hd, Bool.not_true, Bool.false_eq_true, if_false]
  rfl

theorem sensorRefresh_stopped {s : State} (h : s.mod.v48 = true) (hd : s.dieRuns = false) (cv da w : Nat) (boltC : Int) :
    exec (.sensorRefresh cv da w boltC) s = .next (withSensors s (chalkReadings s cv da w)) := by
  show execSensorRefresh cv da w boltC s = _
  simp only [execSensorRefresh, sensor_eq s, withSensors_sensor, h, hd, Bool.not_true, Bool.not_false, Bool.false_eq_true, if_true, if_false]
  rfl

/-- R608: a Bolt die at 95 °C trips. -/
theorem sensorRefresh_trips {s : State} (h : s.mod.v48 = true) (hd : s.dieRuns = true) (cv da w : Nat) {boltC : Int} (hb : 95 ≤ boltC) :
    Gives (exec (.sensorRefresh cv da w boltC) s) (fun t => t.mod.state = .thermtrip ∧ t.mod.thermtripN = false) := by
  have hx : (withSensors s (FMap.set (chalkReadings s cv da w) 0x31 boltC)).dieRuns = true := by rw [withSensors_dieRuns, hd]
  rw [sensorRefresh_running h hd, if_pos hb]
  exact ⟨_, rfl, thermtrip_latches hx⟩

theorem sensorRefresh_reads {s : State} (h : s.mod.v48 = true) (cv da w : Nat) {boltC : Int} (hb : boltC < 95 ∨ s.dieRuns = false) :
    Gives (exec (.sensorRefresh cv da w boltC) s) (fun t => t = { s with mod := t.mod } ∧
      FMap.get? t.mod.sensors 0x01 = some (cv : Int) ∧ FMap.get? t.mod.sensors 0x02 = some (da : Int) ∧
      FMap.get? t.mod.sensors 0x03 = some (w : Int)) := by
  cases hd : s.dieRuns with
  | false =>
    rw [sensorRefresh_stopped h hd]
    refine ⟨_, rfl, rfl, ?_, ?_, ?_⟩ <;> simp [withSensors, chalkReadings, FMap.get?_set]
  | true =>
    have cool : ¬ 95 ≤ boltC := by simp only [hd, Bool.true_eq_false, or_false] at hb; omega
    rw [sensorRefresh_running h hd, if_neg cool]
    refine ⟨_, rfl, rfl, ?_, ?_, ?_⟩ <;> simp [withSensors, chalkReadings, FMap.get?_set]

section Die
variable {s : State}

theorem panel_exists {p : Nat} (hp : p < 6) : ¬ Config.panels ≤ p := Nat.not_le.mpr hp

/-- R72, R608: a hotspot reading of a running die; 110 °C trips. -/
theorem hotspotRead_reads (hd : s.dieRuns = true) {p : Nat} (hp : p < 6) (v : Int) :
    (110000 ≤ v → Gives (exec (.hotspotRead p v) s) (fun t => t.mod.state = .thermtrip ∧ t.mod.thermtripN = false)) ∧
    (v < 110000 → Gives (exec (.hotspotRead p v) s) (fun t => t = { s with adm := t.adm } ∧ t.panel p = { s.panel p with hotspot := v })) := by
  have he : exec (.hotspotRead p v) s = .next (s.hotspotRead p v) := by
    show execHotspotRead p v s = _
    rw [execHotspotRead, if_neg (panel_exists hp), hd]
    rfl
  rw [he]
  have hx : (s.setPanel p { s.panel p with hotspot := v }).dieRuns = true := hd
  refine ⟨fun hv => ⟨_, congrArg _ (if_pos hv), thermtrip_latches hx⟩,
    fun hv => ⟨s.setPanel p { s.panel p with hotspot := v }, ?_, rfl, State.panel_setPanel_self ..⟩⟩
  · rw [State.hotspotRead, if_neg (Int.not_le.mpr hv)]

/-- R275, R608: the reading of a die of a stack, with the actions of its temperature; 105 °C trips. -/
theorem dieTempRead_reads (hd : s.dieRuns = true) {k die : Nat} (hk : k < 24) (hdie : die < 12) (t0 : Nat) :
    (105 ≤ t0 → Gives (exec (.dieTempRead k die t0) s) (fun t => t.mod.state = .thermtrip ∧ t.mod.thermtripN = false)) ∧
    (t0 < 105 → Gives (exec (.dieTempRead k die t0) s) (fun t => t = { s with controllers := t.controllers } ∧
      FMap.get? (t.controller k).dies die = some ((FMap.getD (s.controller k).dies die Die.cold).at_ t0))) := by
  have hn : (24 ≤ k || 12 ≤ die : Bool) = false := by simp; omega
  have he : exec (.dieTempRead k die t0) s = .next (s.dieTemp k die t0) := by
    show execDieTempRead k die t0 s = _
    rw [execDieTempRead, hn, hd]
    rfl
  rw [he]
  let c := s.controller k
  let s1 := s.setController k { c with dies := FMap.set c.dies die ((FMap.getD c.dies die Die.cold).at_ t0) }
  have hx : s1.dieRuns = true := hd
  refine ⟨fun ht => ⟨s1.thermtrip, congrArg _ (if_pos ht), thermtrip_latches hx⟩,
    fun ht => ⟨s1, congrArg _ (if_neg (Nat.not_le.mpr ht)), rfl, ?_⟩⟩
  · rw [State.controller_setController_self, FMap.get?_set_self]

end Die

-- ---------------------------------------------------------------- droop and the governor (R75 to R77)

section Ready
variable {s : State}

theorem droopDetect_eq (h : s.isReady = true) {p : Nat} (hp : p < 6) (at_ : Nat) : exec (.droopDetect p at_) s =
    if (s.panel p).stretched then .next s else .next (s.setPanel p { s.panel p with stretched := true, stretchAt := at_ }) := by
  show execDroopDetect p at_ s = _
  rw [execDroopDetect, if_neg (panel_exists hp), h]
  rfl

theorem droopRecover_eq (h : s.isReady = true) {p : Nat} (hp : p < 6) (at_ : Nat) : exec (.droopRecover p at_) s =
    if !(s.panel p).stretched then .next s
    else .next (s.setPanel p { s.panel p with stretched := false, stretchNs := (s.panel p).stretchNs + (at_ - (s.panel p).stretchAt) }) := by
  show execDroopRecover p at_ s = _
  rw [execDroopRecover, if_neg (panel_exists hp), h]
  rfl

/-- R75: a droop stretches a panel's clock that is not stretched. -/
theorem droop_unstretched (h : s.isReady = true) {p : Nat} (hp : p < 6) (hx : (s.panel p).stretched = false) (at_ : Nat) :
    exec (.droopRecover p at_) s = .next s ∧ Gives (exec (.droopDetect p at_) s) (fun t => t = { s with adm := t.adm } ∧
      t.panel p = { s.panel p with stretched := true, stretchAt := at_ }) := by
  rw [droopRecover_eq h hp, droopDetect_eq h hp, hx]
  exact ⟨rfl, _, rfl, rfl, State.panel_setPanel_self ..⟩

/-- R75: the rail's recovery ends the stretch, whose time is added. -/
theorem droop_stretched (h : s.isReady = true) {p : Nat} (hp : p < 6) (hx : (s.panel p).stretched = true) (at_ : Nat) :
    exec (.droopDetect p at_) s = .next s ∧ Gives (exec (.droopRecover p at_) s) (fun t => t = { s with adm := t.adm } ∧
      t.panel p = { s.panel p with stretched := false, stretchNs := (s.panel p).stretchNs + (at_ - (s.panel p).stretchAt) }) := by
  rw [droopRecover_eq h hp, droopDetect_eq h hp, hx]
  exact ⟨rfl, _, rfl, rfl, State.panel_setPanel_self ..⟩

/-- R77: the governor factor of the panels listed becomes `f`. -/
def setGovernors (s : State) (l : List Nat) (f : Nat) : State := l.foldl (fun (a : State) p => a.setPanel p { a.panel p with governor := f }) s

theorem setGovernors_same (s : State) (l : List Nat) (f : Nat) :
    setGovernors s l f = { s with adm := { s.adm with panels := (setGovernors s l f).adm.panels } } :=
  List.foldlRecOn l _ (motive := fun (a : State) => a = { s with adm := { s.adm with panels := a.adm.panels } }) rfl
    (fun a ha p _ => by rw [ha]; rfl)

theorem setPanel_keeps_governor (a : State) {f p : Nat} (q : Nat) (h : (a.panel p).governor = f) :
    ((a.setPanel q { a.panel q with governor := f }).panel p).governor = f := by
  by_cases e : p = q
  · rw [e, State.panel_setPanel_self]
  · rw [State.panel_setPanel_other _ _ e, h]

theorem setGovernors_governor {l : List Nat} {p : Nat} (s : State) (f : Nat) (hp : p ∈ l) : ((setGovernors s l f).panel p).governor = f := by
  induction l generalizing s with
  | nil => cases hp
  | cons q l ih =>
    rcases List.mem_cons.mp hp with rfl | hp
    · exact List.foldlRecOn l _ (motive := fun (a : State) => (a.panel p).governor = f) (by rw [State.panel_setPanel_self])
        (fun a ha k _ => setPanel_keeps_governor a k ha)
    · exact ih _ hp

/-- R77: the governor draws a factor from 4 to 15 sixteenths, gives it to all six panels, and notes that it acted, and when. -/
theorem govern_eq (s : State) : ∃ f, 4 ≤ f ∧ f ≤ 15 ∧
    ∃ a : State, a = setGovernors { s with freeCtr := s.freeCtr + 1 } (List.range 6) f ∧
    s.govern = { a with adm := { a.adm with governorActed := true, governedAt := some a.tick.number } } := by
  let cur := (List.range Config.panels).foldl (fun (m : Nat) p => Nat.min m (s.panel p).governor) 16
  let max := Nat.min 15 cur - 4
  have hd : (s.drawUpTo max).1 ≤ max := Nat.le_of_lt_succ (Nat.mod_lt _ (Nat.succ_pos max))
  have hmax : Nat.min 15 cur ≤ 15 := Nat.min_le_left 15 cur
  exact ⟨4 + (s.drawUpTo max).1, by omega, by omega, _, rfl, rfl⟩

theorem govern_sets (s : State) : SameMemory s s.govern ∧ s.govern.adm.governorActed = true ∧ s.govern.adm.governedAt = some s.tick.number ∧
    ∃ f, 4 ≤ f ∧ f ≤ 15 ∧ ∀ p, p < 6 → (s.govern.panel p).governor = f := by
  obtain ⟨f, h4, h15, a, ha, hg⟩ := govern_eq s
  have hp (p : Nat) (h : p < 6) : (a.panel p).governor = f := by rw [ha]; exact setGovernors_governor _ f (List.mem_range.mpr h)
  rw [setGovernors_same] at ha
  generalize (setGovernors { s with freeCtr := s.freeCtr + 1 } (List.range 6) f).adm.panels = panels at ha
  rw [hg]
  subst ha
  exact ⟨⟨rfl, rfl⟩, rfl, rfl, f, h4, h15, hp⟩

theorem governorAct_eq (h : s.isReady = true) (mw : Nat) : exec (.governorAct mw) s =
    if mw ≤ Nat.min (s.adm.limit * 10500) 3600000 then .next s else .next s.govern := by
  show execGovernorAct mw s = _
  simp only [execGovernorAct, h, Bool.not_true, Bool.false_or, decide_eq_true_eq]
  rfl

/-- R77: below L the governor gives every panel its clock back. -/
theorem governorRestore_eq (h : s.isReady = true) (mw : Nat) : exec (.governorRestore mw) s =
    if s.adm.limit * 10000 ≤ mw then .next s else .next (setGovernors s (List.range 6) 16) := by
  show execGovernorRestore mw s = _
  simp only [execGovernorRestore, h, Bool.not_true, Bool.false_or, decide_eq_true_eq]
  rfl

/-- R77: the governor acts above its threshold and restores the clocks below L. -/
theorem governor_follows (h : s.isReady = true) (mw : Nat) :
    (mw ≤ Nat.min (s.adm.limit * 10500) 3600000 → exec (.governorAct mw) s = .next s) ∧
    (Nat.min (s.adm.limit * 10500) 3600000 < mw → Gives (exec (.governorAct mw) s) (fun t => SameMemory s t ∧ t.adm.governorActed = true ∧
      t.adm.governedAt = some s.tick.number ∧ ∃ f, 4 ≤ f ∧ f ≤ 15 ∧ ∀ p, p < 6 → (t.panel p).governor = f)) ∧
    (s.adm.limit * 10000 ≤ mw → exec (.governorRestore mw) s = .next s) ∧
    (mw < s.adm.limit * 10000 → Gives (exec (.governorRestore mw) s) (fun t => t = { s with adm := t.adm } ∧
      ∀ p, p < 6 → (t.panel p).governor = 16)) := by
  rw [governorAct_eq h, governorRestore_eq h]
  refine ⟨fun hm => if_pos hm, fun hm => ?_, fun hm => if_pos hm, fun hm => ?_⟩
  · rw [if_neg (Nat.not_le.mpr hm)]
    exact ⟨_, rfl, govern_sets s⟩
  · rw [if_neg (Nat.not_le.mpr hm)]
    refine ⟨_, rfl, ?_, fun p hp => setGovernors_governor s 16 (List.mem_range.mpr hp)⟩
    rw [setGovernors_same]

-- ---------------------------------------------------------------- summaries (R244, R245, R559)

theorem counts_all_zero (f : Fences) : f.counts.all (fun n => n = 0) = true ↔ ∀ k, k < 4 → FMap.getD f.ce k 0 = 0 := by
  simp [Fences.counts]

theorem evCeSummary_eq (h : s.isReady = true) : exec .evCeSummary s = .next s.ceSummary := by
  show execEvCeSummary s = _
  rw [execEvCeSummary, h]
  rfl

/-- R559: no summary is sent between its ticks, nor without a fault to count. -/
theorem evCeSummary_idle (h : s.isReady = true) (hd : s.tick.number % 1024 ≠ 0 ∨ (∀ k, k < 4 → FMap.getD s.fences.ce k 0 = 0)) :
    exec .evCeSummary s = .next s := by
  have hc : (s.tick.number % 1024 != 0 || s.fences.counts.all (fun n => n = 0)) = true := by
    rcases hd with hd | hd
    · simp [hd]
    · rw [(counts_all_zero _).mpr hd, Bool.or_true]
  rw [evCeSummary_eq h, State.ceSummary, if_pos hc]

/-- R559: a summary clears the counts it reports. -/
theorem evCeSummary_sends (h : s.isReady = true) (ht : s.tick.number % 1024 = 0) (hk : ∃ k, k < 4 ∧ FMap.getD s.fences.ce k 0 ≠ 0) :
    Gives (exec .evCeSummary s) (fun t => SameMemory s t ∧ t.fences.ce = [] ∧ t.contexts = s.contexts) := by
  obtain ⟨k, hk4, hk0⟩ := hk
  have hz : ¬ s.fences.counts.all (fun n => n = 0) = true := fun hz => hk0 ((counts_all_zero _).mp hz k hk4)
  have hc : ¬ (s.tick.number % 1024 != 0 || s.fences.counts.all (fun n => n = 0)) = true := by simpa [ht] using hz
  obtain ⟨o, m, he⟩ := mgmtEvent_onlyRecords { s with fences := { s.fences with ce := [] } } 0x05 1 0 s.fences.counts
  rw [evCeSummary_eq h, State.ceSummary, if_neg hc, he]
  exact ⟨_, rfl, ⟨rfl, rfl⟩, rfl, rfl⟩

/-- R244, R245: a cycle found at three commits in a row is marked reported. -/
theorem evKnotCycle_marks (h : s.isReady = true) : Gives (exec .evKnotCycle s) (fun t => SameMemory s t ∧ t.cycles = s.cycles.map (fun k =>
    if decide (3 ≤ k.seen) && !k.reported then { k with reported := true } else k)) := by
  have he : exec .evKnotCycle s = .next s.reportCycles := by
    show execEvKnotCycle s = _
    rw [execEvKnotCycle, h]
    rfl
  refine ⟨_, he, ?_⟩
  unfold State.reportCycles
  extract_lets due s1
  obtain ⟨o, m, hr⟩ : OnlyRecords s s1 := onlyRecords_foldl evKnotCycle_onlyRecords _ s
  clear_value s1
  subst hr
  exact ⟨⟨rfl, rfl⟩, rfl⟩

end Ready

-- ---------------------------------------------------------------- the statement

/-- Settles O56: each row by what its operation leaves, and the end of a step of bring-up by the step it ends. -/
theorem moduleStartsAndSenses : Obligations.ModuleStartsAndSenses := by
  refine ⟨fun s => ⟨without_input, fun hv => ?_, input48vRemoved_unpowers s, fun pos board hv => ?_, fun port hp => ?_, reference_follows,
    fun b hb => ?_, fun inlet outlet flow hv => coolantMeasure_reads hv inlet outlet flow, fun cv da w boltC hv => ?_, fun hd => ?_,
    fun hr => ?_⟩, fun s r i hi => ?_⟩
  case refine_1 =>
    obtain ⟨again, address, interrupts⟩ := chalk_with_input hv
    exact ⟨pwrOkFall_holds hv, inputVoltageFault_holds hv, modResetAssert_holds hv, again, address, interrupts⟩
  case refine_2 => exact ⟨fun ht => bringupStart_tripped ht pos board, fun ht => bringupStart_starts hv ht pos board⟩
  case refine_3 =>
    obtain ⟨down, up⟩ := configRequest_answers hp s
    exact ⟨perstAssert_resets hp s, perstDeassert_trains hp s, down, up⟩
  case refine_4 =>
    refine ⟨fun hn => requests_down hb (fun h => hn ((bindingUp_iff s b).mp h)) 9, fun hu => ?_⟩
    have hu := (bindingUp_iff s b).mpr hu
    obtain ⟨types, fru, eids⟩ := requests_up hb hu
    exact ⟨types, fru, eids, pldmPlatformRequest_answers hb hu⟩
  case refine_5 => exact ⟨fun hd hb => sensorRefresh_trips hv hd cv da w hb, fun hb => sensorRefresh_reads hv cv da w hb⟩
  case refine_6 => exact ⟨fun p v hp => hotspotRead_reads hd hp v, fun k die t0 hk hdie => dieTempRead_reads hd hk hdie t0⟩
  case refine_7 =>
    exact ⟨fun p at_ hp => ⟨fun hx => droop_unstretched hr hp hx at_, fun hx => droop_stretched hr hp hx at_⟩, governor_follows hr,
      evCeSummary_idle hr, evCeSummary_sends hr, evKnotCycle_marks hr⟩
  case refine_8 =>
    have he : exec i s = .next (s.endStep r) := by rcases hi with rfl | rfl <;> rfl
    rw [he]
    refine ⟨fun h => by rw [endStep_outside h], fun k h hl => ⟨_, rfl, endStep_logic_fails h hl⟩,
      fun hl => ⟨fun h => ?_, fun h => ?_, fun h => ?_, fun h => ?_, fun h => ?_, fun h => ?_, fun h => ?_⟩⟩
    · exact ⟨fun hr => by rw [step1_with_reference h hl hr], fun hr => ⟨_, rfl, step1_without_reference h hl hr⟩⟩
    · exact ⟨fun ht => ⟨_, rfl, step2_fails h hl ht⟩, fun ht => ⟨_, rfl, step2_sets h hl ht⟩⟩
    · exact ⟨fun ha hb => ⟨_, rfl, step3_fails h hl ha hb⟩, fun hc => ⟨_, rfl, step3_sets h hl hc⟩⟩
    · exact ⟨_, rfl, step4_sets h hl⟩
    · exact ⟨_, rfl, step5_sets h hl⟩
    · exact ⟨_, rfl, step6_sets h hl⟩
    · exact ⟨_, rfl, step7_sets h hl⟩

end Sys2Proof.Proofs.ModuleStart
end

section
/-! PROOFS. The narrow formats (O60): the codes of N4, the codes the Shears write to N4, and an element under its block scale. -/

namespace Sys2Proof.Proofs.NarrowFormats

open Sys2Proof

-- ---------------------------------------------------------------- what the Shears write to N4 (R90, R102)

/-- A code of N4 other than its NaN: one of the fifteen numbers of R90. -/
abbrev IsNumberCode (c : Nat) : Prop := c < 16 ∧ c ≠ 8

/-- R90: a zero of either sign is written as 0x0. -/
@[simp] theorem encodeExact_n4_zero (neg : Bool) (q : Int) : Fmt.n4.encodeExact neg 0 q = 0 := rfl

/-- The finest grid of N4 is that of its subnormals, the multiples of a half (R86). -/
theorem neg_one_le_quantum_n4 (m : Nat) (e : Int) : -1 ≤ Fmt.n4.quantum m e := Int.le_max_right _ _

/-- The multiples of N4's last places that do not exceed its largest magnitude, 6: no grid is coarser than the fours. -/
theorem grid_of_not_overflow {a : Nat} {q : Int} (hq : -1 ≤ q) (h : magLt Fmt.n4.maxFinite.1 Fmt.n4.maxFinite.2 a q = false) :
    a = 0 ∨ (q = -1 ∧ a ≤ 12) ∨ (q = 0 ∧ a ≤ 6) ∨ (q = 1 ∧ a ≤ 3) ∨ (q = 2 ∧ a ≤ 1) := by
  have hle : a * 2 ^ (q - 1).toNat ≤ 3 * 2 ^ (1 - q).toNat := by simpa [magLt, Fmt.maxFinite] using h
  by_cases h3 : 3 ≤ q
  · have h1 : (1 - q).toNat = 0 := by omega
    have h4 : 2 ^ 2 ≤ 2 ^ (q - 1).toNat := Nat.pow_le_pow_right (by omega) (by omega)
    have ha : a * 2 ^ 2 ≤ 3 := by simpa [h1] using Nat.le_trans (Nat.mul_le_mul_left a h4) hle
    omega
  · obtain rfl | rfl | rfl | rfl : q = -1 ∨ q = 0 ∨ q = 1 ∨ q = 2 := by omega
    all_goals
      simp only [Int.reduceNeg, Int.reduceSub, Int.reduceToNat, Nat.reducePow] at hle
      omega

/-- A magnitude on N4's grid and in its range is written as a number. -/
theorem encodeExact_n4_isNumberCode {a : Nat} {q : Int} (neg : Bool) (hq : -1 ≤ q)
    (h : magLt Fmt.n4.maxFinite.1 Fmt.n4.maxFinite.2 a q = false) : IsNumberCode (Fmt.n4.encodeExact neg a q) := by
  have halves : ∀ neg : Bool, ∀ a ≤ 12, IsNumberCode (Fmt.n4.encodeExact neg a (-1)) := by decide
  have ones : ∀ neg : Bool, ∀ a ≤ 6, IsNumberCode (Fmt.n4.encodeExact neg a 0) := by decide
  have twos : ∀ neg : Bool, ∀ a ≤ 3, IsNumberCode (Fmt.n4.encodeExact neg a 1) := by decide
  have fours : ∀ neg : Bool, ∀ a ≤ 1, IsNumberCode (Fmt.n4.encodeExact neg a 2) := by decide
  obtain rfl | ⟨rfl, ha⟩ | ⟨rfl, ha⟩ | ⟨rfl, ha⟩ | ⟨rfl, ha⟩ := grid_of_not_overflow hq h
  · exact ⟨by simp, by simp⟩
  · exact halves neg a ha
  · exact ones neg a ha
  · exact twos neg a ha
  · exact fours neg a ha

/-- The outcomes of writing a finite value to N4: a number, or the NaN that OVF_NAN asks for on overflow (R102). -/
def NumberOrOverflow (ovf : Bool) (p : Nat × ShFlags) : Prop := IsNumberCode p.1 ∨ (ovf = true ∧ p = (8, shOvf))

/-- R102, steps 3 to 8: zero, overflow, underflow and a rounded magnitude each write a number, but for the NaN of OVF_NAN. -/
theorem encodeVal_n4_fin (ovf : Bool) (r : Round) (x : Nat) (n : Bool) (m : Nat) (e : Int) :
    NumberOrOverflow ovf (encodeVal .n4 ovf r x (.fin n m e)) := by
  have zero : IsNumberCode (Fmt.n4.encodeExact n 0 0) := encodeExact_n4_isNumberCode n (by decide) rfl
  have largest : IsNumberCode (Fmt.n4.encodeExact n 3 1) := encodeExact_n4_isNumberCode n (by decide) rfl
  simp only [encodeVal]
  split
  case isTrue => exact .inl zero
  case isFalse =>
    split
    case isTrue =>
      cases ovf
      case false => exact .inl largest
      case true => exact .inr ⟨rfl, rfl⟩
    case isFalse hfit =>
      split
      case isTrue => exact .inl zero
      case isFalse => exact .inl (encodeExact_n4_isNumberCode n (neg_one_le_quantum_n4 _ _) (by simpa using hfit))

/-- A conversion of a finite value to N4: 0x0 under a scale byte of NaN, and otherwise what R102's rounding writes. -/
theorem convertElem_n4_fin (ovf : Bool) (r : Round) (plane : Bool) (x : Nat) (n : Bool) (m : Nat) (e : Int) :
    NumberOrOverflow ovf (convertElem .n4 ovf r plane x (.fin n m e)) := by
  rw [convertElem, if_neg (by simp)]
  split
  · exact .inl ⟨by decide, by decide⟩
  · exact encodeVal_n4_fin ovf r x n m e

theorem convertElem_n4_zero (ovf : Bool) (r : Round) (plane : Bool) (x : Nat) (n : Bool) (e : Int) :
    (convertElem .n4 ovf r plane x (.fin n 0 e)).1 = 0 := by
  rw [convertElem, if_neg (by simp)]
  split <;> simp [encodeVal]

theorem NumberOrOverflow.lt {ovf : Bool} {p : Nat × ShFlags} (h : NumberOrOverflow ovf p) : p.1 < 16 := by
  obtain ⟨hlt, -⟩ | ⟨-, rfl⟩ := h
  · exact hlt
  · decide

theorem NumberOrOverflow.overflow_of_nan {ovf : Bool} {p : Nat × ShFlags} (h : NumberOrOverflow ovf p) (h8 : p.1 = 8) :
    ovf = true ∧ p.2 = shOvf := by
  obtain ⟨-, hne⟩ | ⟨hovf, rfl⟩ := h
  · exact absurd h8 hne
  · exact ⟨hovf, rfl⟩

theorem NumberOrOverflow.ne_nan {p : Nat × ShFlags} (h : NumberOrOverflow false p) : p.1 ≠ 8 :=
  fun h8 => Bool.false_ne_true (h.overflow_of_nan h8).1

-- ---------------------------------------------------------------- what the codes of N4 mean (R90, R93)

/-- R90: code 0x8 is NaN; the others read as in E2M1. -/
theorem decode_n4 (c : Nat) : Fmt.n4.decode c = if c % 16 = 8 then .nan else Fmt.e2m1.decode c := by
  split
  case isTrue h => simp [Fmt.decode, Fmt.isInt, h]
  case isFalse h => simp [Fmt.decode, Fmt.isInt, Fmt.hasInf, Fmt.width, Fmt.expBits, Fmt.manBits, Fmt.bias, Fmt.minExp, h]

/-- R87: a code of E2M1 by its fields, a sign, two bits of exponent and one of mantissa; none is special (R89). -/
theorem decode_e2m1 (c : Nat) : Fmt.e2m1.decode c =
    if bits c 1 2 = 0 then .fin (c.testBit 3) (c % 2) (-1) else .fin (c.testBit 3) (2 + c % 2) ((bits c 1 2 : Int) - 1 - 1) := rfl

theorem decode_e2m1_isFin (c : Nat) : (Fmt.e2m1.decode c).isFin = true := by
  rw [decode_e2m1]
  split <;> rfl

/-- R93: of E2M1's codes only 0x8 reads as a negative zero. -/
theorem eq_of_decode_e2m1_neg_zero {c : Nat} (hc : c < 16) {e : Int} (h : Fmt.e2m1.decode c = .fin true 0 e) : c = 8 := by
  rw [decode_e2m1] at h
  split at h
  case isTrue hexp =>
    obtain ⟨hneg, hman, -⟩ := FVal.fin.inj h
    have hsign : c / 8 % 2 = 1 := by simpa [Nat.testBit_eq_decide_div_mod_eq] using hneg
    have hexp : c / 2 % 4 = 0 := by simpa [bits, Nat.shiftRight_eq_div_pow] using hexp
    omega
  case isFalse =>
    obtain ⟨-, hman, -⟩ := FVal.fin.inj h
    omega

/-- Settles O60: the codes through E2M1's, what the Shears write by the two outcomes of a finite value, and the scale by its two cases. -/
theorem narrowFormatCodes : Obligations.NarrowFormatCodes := by
  refine ⟨fun c hc => ?_, fun ovf plane r x n m e => ?_, fun v => rfl, fun x n m e hx => ?_⟩
  case refine_1 =>
    rw [decode_n4, Nat.mod_eq_of_lt hc]
    split
    case isTrue h8 => simp [h8]
    case isFalse h8 =>
      refine ⟨⟨fun h => ?_, fun h => absurd h h8⟩, fun k h => ?_, fun k h => h8 (eq_of_decode_e2m1_neg_zero hc h), fun _ => rfl⟩
      all_goals simpa [h, FVal.isFin] using decode_e2m1_isFin c
  case refine_2 =>
    have general := convertElem_n4_fin ovf r plane x n m e
    exact ⟨convertElem_n4_zero ovf r plane x n e, (convertElem_n4_fin false r plane x n m e).ne_nan, general.lt, general.overflow_of_nan⟩
  case refine_3 => rw [scaledVal, if_neg (by omega)]

end Sys2Proof.Proofs.NarrowFormats
end
